-- ==== Sys2Proof/Word.lean ====
section
/-! DEFINITION. The words of the nacelle line: bytes, station numbers, lists of bits. -/

namespace Sys2Proof

/-- One payload byte (12 R194). -/
abbrev Byte := BitVec 8

/-- A station number, 0 to 7 (00 "Terms", 02 R23). -/
abbrev Station := Fin 8

/-- A set of stations, bit n standing for station n (12 R194, YAW_COMMIT). -/
abbrev StationSet := BitVec 8

/-- A level on the nacelle line or on a plant line; on the nacelle line `true` is recessive, a 1 (01 section 1.2). -/
abbrev Level := Bool

end Sys2Proof
end

