-- ==== Sys2Proof/Syntax.lean ====
section
/-! DEFINITION. The commands of the NT44: one constructor of `Instr` per row of spec/opcode_table.json, with the operands
that the rules give the event (log entry 1). -/

namespace Sys2Proof

/-- The kinds of frame of 01 R1. A 6-bit kind code outside them is an unknown kind. -/
inductive Kind
  | tripNotice | yawHalt | yawPropose | yawAnswer | yawCommit | yawDrive | pumpState
  | demand | wind | faultAck | stationReset | status | faultNotice | configPart
  deriving DecidableEq, Repr

/-- A tooth channel (06 R95). -/
inductive Channel
  | a | b
  deriving DecidableEq, Repr

/-- The class of a fault code, most urgent first (10 section 10.1). -/
inductive FaultClass
  | critical | major | minor | info
  deriving DecidableEq, Repr

/-- The qualified levels of the plant inputs of 12 R195; `true` is high, and a high level shows the line's condition
(12 R196). Fan feedbacks 1 to 3 stand in `fans`. -/
structure Levels where
  contactorClosed : Bool
  dcLink : Bool
  gridSync : Bool
  modulatorFault : Bool
  brakeApplied : Bool
  flow : Bool
  fans : Vector Bool 3
  toothA : Bool
  toothB : Bool
  mark : Bool
  deriving DecidableEq, Repr

/-- Every input low: a line that does not show its condition (12 R196). -/
def Levels.low : Levels where
  contactorClosed := false
  dcLink := false
  gridSync := false
  modulatorFault := false
  brakeApplied := false
  flow := false
  fans := Vector.replicate 3 false
  toothA := false
  toothB := false
  mark := false

/-- The commands. A command of a received frame carries the frame's source and its payload bytes; a command of a
feedback line carries the new qualified level. -/
inductive Instr
  /-- FULL_RESET, 02 R36: the pins of the straps (ST0 to ST2, PR0, PR1, FR0, FR1, YD0, YD1, LR from bit 0 up, 12 R196)
  and the levels of the first sample after the reset. -/
  | fullReset (pins : BitVec 10) (first : Levels)
  /-- LINE_IDLE, 01 R2. -/
  | lineIdle
  /-- LOST_ARBITRATION, 01 R3. -/
  | lostArbitration
  /-- READ_BACK_MISMATCH, 01 R4. -/
  | readBackMismatch
  /-- FRAME_GONE_OUT_WHOLE, 01 R6. -/
  | frameGoneOutWhole
  /-- STATUS_INTERVAL_EXPIRY, 01 R13. -/
  | statusIntervalExpiry
  /-- DAMAGED_FRAME, 01 R15. -/
  | damagedFrame
  /-- OWN_NUMBER_FRAME, 01 R17: the kind code of the frame. -/
  | ownNumberFrame (kind : BitVec 6)
  /-- UNKNOWN_KIND_FRAME, 01 R18. -/
  | unknownKindFrame (kind : BitVec 6) (source : Station)
  /-- FAULT_NOTICE received, 01 R20. -/
  | faultNotice (source : Station) (payload : List Byte)
  /-- STATUS received, 03 R44. -/
  | status (source : Station) (payload : List Byte)
  /-- TRIP_NOTICE received, 03 R45. -/
  | tripNotice (source : Station) (payload : List Byte)
  /-- DEMAND received, 03 R47. -/
  | demand (source : Station) (payload : List Byte)
  /-- WIND received, 03 R50. -/
  | wind (source : Station) (payload : List Byte)
  /-- WIND_AGE_TIMER_EXPIRY, 03 R51. -/
  | windAgeTimerExpiry
  /-- SILENCE_TIMER_EXPIRY, 03 R41. -/
  | silenceTimerExpiry
  /-- CONFIG_PART received, 02 R26. -/
  | configPart (source : Station) (payload : List Byte)
  /-- STATION_RESET received, 02 R34. -/
  | stationReset (source : Station) (payload : List Byte)
  /-- DC_LINK_READY, 04 R60: the new qualified level of the DC-link ready feedback. -/
  | dcLinkReady (shows : Bool)
  /-- PRECHARGE_TIMER_EXPIRY, 04 R60. -/
  | prechargeTimerExpiry
  /-- GRID_SYNC_ACHIEVED, 04 R62: the new qualified level. -/
  | gridSyncAchieved (shows : Bool)
  /-- SYNC_TIMER_EXPIRY, 04 R62. -/
  | syncTimerExpiry
  /-- MODULATOR_FAULT_FEEDBACK, 04 R70: the new qualified level. -/
  | modulatorFaultFeedback (shows : Bool)
  /-- MAIN_CONTACTOR_FEEDBACK_CHANGE, 04 R71: the new qualified level, `true` for closed. -/
  | mainContactorFeedbackChange (closed : Bool)
  /-- CONTACTOR_CHECK_EXPIRY, 04 R71. -/
  | contactorCheckExpiry
  /-- COOL_DOWN_EXPIRY, 04 R74: whether the string-latch indication coming on arrives together with the expiry and is taken
  after it; an expiry that names nothing arrives alone (log entry 37). -/
  | coolDownExpiry (latchArrives : Bool := false)
  /-- SHARE_ROUND_EXPIRY, 04 R63. -/
  | shareRoundExpiry
  /-- ZERO_LIMIT_HOLD_EXPIRY, 04 R64. -/
  | zeroLimitHoldExpiry
  /-- TOOTH_STEP, 06 R95: the channel whose qualified level changes. -/
  | toothStep (channel : Channel)
  /-- INVALID_STEP, 06 R96: both channels change at one sample. -/
  | invalidStep
  /-- MARK_EDGE, 06 R98: the new qualified level of the reference mark. -/
  | markEdge (high : Bool)
  /-- CHECK_TIMER_EXPIRY, 06 R100. -/
  | checkTimerExpiry
  /-- PROPOSAL_HOLDOFF_EXPIRY, 06 R108. -/
  | proposalHoldoffExpiry
  /-- YAW_PROPOSE received, 07 R114. -/
  | yawPropose (source : Station) (payload : List Byte)
  /-- YAW_ANSWER received, 07 R117. -/
  | yawAnswer (source : Station) (payload : List Byte)
  /-- ANSWER_TIMER_EXPIRY, 07 R118. -/
  | answerTimerExpiry
  /-- YAW_COMMIT received, 07 R119. -/
  | yawCommit (source : Station) (payload : List Byte)
  /-- COMMIT_WAIT_EXPIRY, 07 R119. -/
  | commitWaitExpiry
  /-- BRAKE_FEEDBACK_RELEASED, 07 R120. -/
  | brakeFeedbackReleased
  /-- BRAKE_TIMER_EXPIRY, 07 R120. -/
  | brakeTimerExpiry
  /-- RELEASE_TIMER_EXPIRY, 07 R121. -/
  | releaseTimerExpiry
  /-- YAW_DRIVE received, 07 R122. -/
  | yawDrive (source : Station) (payload : List Byte)
  /-- DRIVE_WAIT_EXPIRY, 07 R122. -/
  | driveWaitExpiry
  /-- STALL_TIMER_EXPIRY, 07 R124. -/
  | stallTimerExpiry
  /-- YAW_HALT received, 07 R125. -/
  | yawHalt (source : Station) (payload : List Byte)
  /-- SETTLE_TIMER_EXPIRY, 07 R126. -/
  | settleTimerExpiry
  /-- BRAKE_FEEDBACK_APPLIED, 07 R127. -/
  | brakeFeedbackApplied
  /-- BRAKING_TIMER_EXPIRY, 07 R127. -/
  | brakingTimerExpiry
  /-- PUMP_STATE received, 08 R135. -/
  | pumpState (source : Station) (payload : List Byte)
  /-- PUMP_REPORT_TIMER_EXPIRY, 08 R134. -/
  | pumpReportTimerExpiry
  /-- START_HOLD_EXPIRY, 08 R139. -/
  | startHoldExpiry
  /-- FLOW_SWITCH_SHOWS_FLOW, 08 R140. -/
  | flowSwitchShowsFlow
  /-- FLOW_SWITCH_NO_FLOW, 08 R137. -/
  | flowSwitchNoFlow
  /-- FLOW_CONFIRM_EXPIRY, 08 R140. -/
  | flowConfirmExpiry
  /-- DUTY_MINUTE_EXPIRY, 08 R142. -/
  | dutyMinuteExpiry
  /-- HANDOFF_TIMER_EXPIRY, 08 R144. -/
  | handoffTimerExpiry
  /-- FLOW_GRACE_EXPIRY, 08 R147. -/
  | flowGraceExpiry
  /-- SAMPLE_TIMER_EXPIRY, 09 R151: the supply temperature word as it stands, 12-bit signed (12 R195). -/
  | sampleTimerExpiry (word : BitVec 12)
  /-- FAN_STEP_EXPIRY, 09 R158. -/
  | fanStepExpiry
  /-- FAN_FEEDBACK_CHANGE, 09 R156: one of the station's three fans and its new qualified level. -/
  | fanFeedbackChange (fan : Fin 3) (shows : Bool)
  /-- FAN_FEEDBACK_TIMER_EXPIRY, 09 R156. -/
  | fanFeedbackTimerExpiry (fan : Fin 3)
  /-- STATION_CLOCK_EXPIRY, 10 R171. -/
  | stationClockExpiry
  /-- NOTICE_REPEAT_EXPIRY, 11 R186: the class whose timer expires. -/
  | noticeRepeatExpiry (cls : FaultClass)
  /-- FAULT_ACK received, 11 R189. -/
  | faultAck (source : Station) (payload : List Byte)
  deriving DecidableEq, Repr

end Sys2Proof
end

