-- ==== Sys2Proof/Decode.lean ====
section
/-! DEFINITION. Commands spelled by words: none. spec/opcode_table.json gives no row any bits. -/

namespace Sys2Proof

/-- The command that a word spells by the table's bits. Every row of the table has an empty list of fields and no fixed
bits, so no word spells a command. -/
def decodeTableWord (_nbits _w : Nat) : Option Instr := none

end Sys2Proof
end

