-- ==== Sys2Proof/Machine/Arith.lean ====
section
/-! DEFINITION. The integer arithmetic of 00 "Arithmetic": counts on a circle, medians, saturating counts, bit fields. -/

namespace Sys2Proof.Machine

/-- A difference of positions, modulo `c`, taken as a signed value in (-c/2, c/2] (06 R98, R100, R107). -/
def signedTurn (d : Int) (c : Nat) : Int :=
  let m := d % (c : Int)
  if 2 * m ≤ (c : Int) then m else m - (c : Int)

/-- The circular distance between two positions of a circle of `c` counts (00 "Arithmetic"). -/
def circularDistance (p q c : Nat) : Nat :=
  (signedTurn ((q : Int) - (p : Int)) c).natAbs

/-- The position `d` counts from `p`, modulo `c` (00 "Arithmetic"). -/
def turnBy (p : Nat) (d : Int) (c : Nat) : Nat :=
  (((p : Int) + d) % (c : Int)).toNat

/-- Insert a value into an ascending list, behind its equals. -/
def insertAscending (x : Int) : List Int → List Int
  | [] => [x]
  | y :: ys => if x < y then x :: y :: ys else y :: insertAscending x ys

/-- The values in ascending order. -/
def ascending : List Int → List Int
  | [] => []
  | x :: xs => insertAscending x (ascending xs)

/-- The upper median: the value at index floor of n/2 of the ascending order, counting from 0 (00 "Arithmetic"). -/
def upperMedian (xs : List Int) : Option Int :=
  (ascending xs)[xs.length / 2]?

/-- `v` held within `lo` to `hi`. -/
def clampInt (lo hi v : Int) : Int :=
  if v < lo then lo else if hi < v then hi else v

/-- A quotient truncated toward zero (00 "Arithmetic"). -/
def truncatedDiv (a b : Int) : Int := a.tdiv b

/-- The sign of a number: -1, 0 or 1. -/
def signOf (v : Int) : Int := if v < 0 then -1 else if v = 0 then 0 else 1

/-- The smallest integer not less than `a / b` (00 "Arithmetic"); `b` is above 0 wherever a rule divides. -/
def ceilDiv (a b : Nat) : Nat := (a + b - 1) / b

/-! ## Bytes and bit fields (12 R193) -/

/-- The low byte of a number. -/
def toByte (n : Nat) : Byte := BitVec.ofNat 8 n

/-- A 16-bit field of two bytes, most significant byte first. -/
def twoBytes (hi lo : Byte) : Nat := hi.toNat * 256 + lo.toNat

/-- The two bytes of a 16-bit field. -/
def bytesOf16 (n : Nat) : List Byte := [toByte (n / 256), toByte n]

/-- The three bytes of a 24-bit field. -/
def bytesOf24 (n : Nat) : List Byte := [toByte (n / 65536), toByte (n / 256), toByte n]

/-- The four bytes of a 32-bit field. -/
def bytesOf32 (n : Nat) : List Byte := [toByte (n / 16777216), toByte (n / 65536), toByte (n / 256), toByte n]

/-- A number read as a `w`-bit two's complement field. -/
def signedField (w n : Nat) : Int :=
  if n % 2 ^ w < 2 ^ (w - 1) then ((n % 2 ^ w : Nat) : Int) else ((n % 2 ^ w : Nat) : Int) - ((2 ^ w : Nat) : Int)

/-- The `w`-bit two's complement field of a signed number. -/
def fieldOfSigned (w : Nat) (v : Int) : Nat := (v % ((2 ^ w : Nat) : Int)).toNat

/-- Bits `lo + w - 1` down to `lo` of a number. -/
def bitField (n lo w : Nat) : Nat := n / 2 ^ lo % 2 ^ w

/-- A flag as a bit. -/
def bitOf (b : Bool) : Nat := if b then 1 else 0

end Sys2Proof.Machine
end

