-- ==== Sys2Proof/Machine/State.lean ====
section
/-! DEFINITION. The state of the NT44: every piece of state that spec/ gives its seven blocks, its plant outputs and the
qualified levels of its plant inputs, and the queue of waiting commands. Plain data throughout. -/

namespace Sys2Proof.Machine

/-! ## Enumerations (12 section 12.3) -/

/-- A timer: `none` is stopped, `some ms` is running with that period (00 "Timers"). -/
abbrev Timer := Option Nat

/-- The station phase (02 R24). -/
inductive Phase
  | unconfigured | configured
  deriving DecidableEq, Repr

/-- The string state (04 R55). -/
inductive StringState
  | off | precharge | sync | run | stopping | tripped | locked
  deriving DecidableEq, Repr

/-- The yaw participant state (07 R111). -/
inductive Participant
  | idle | answered | releasing | released | driving | stopping | braking
  deriving DecidableEq, Repr

/-- The pump owner state; `noPump` is NONE, at a station with pump role NONE (08 R133). -/
inductive PumpOwner
  | noPump | standby | starting | running | handingOff | failed
  deriving DecidableEq, Repr

/-- A pump role or a fan role (02 R23). -/
inductive Role
  | noRole | a | b
  deriving DecidableEq, Repr

/-- A coolant pump (08). -/
inductive Pump
  | a | b
  deriving DecidableEq, Repr

/-- The trip causes carried in TRIP_NOTICE (04 R66). -/
inductive TripCause
  | prechargeTimeout | syncTimeout | modulatorFault | contactorFeedback | overtemp | faultAction | stringLatch
  deriving DecidableEq, Repr

/-- The reasons a YAW_HALT may carry (07 R125). -/
inductive HaltReason
  | reached | overrun | stall | twist | fault | abandoned
  deriving DecidableEq, Repr

/-- The answers of YAW_ANSWER (07, opening table). -/
inductive Answer
  | ready | refuse | released
  deriving DecidableEq, Repr

/-- The refusal reasons of YAW_ANSWER (07 R114 to R116). -/
inductive Refusing
  | noReason | lockedOut | twist | brake | busy | noDrives
  deriving DecidableEq, Repr

/-- The purpose of a move (06 R104). -/
inductive Purpose
  | align | untwist
  deriving DecidableEq, Repr

/-- The presence of a peer entry (03 R38). -/
inductive Presence
  | neverHeard | present | absent
  deriving DecidableEq, Repr

/-- The station kind seen of a peer entry; `unseen` is none (03 R38). -/
inductive KindSeen
  | unseen | nt44 | supervisor | other
  deriving DecidableEq, Repr

/-- The record standing of a peer entry (03 R38). -/
inductive Standing
  | noRecord | current | old
  deriving DecidableEq, Repr

/-- The flow state (08 R147). -/
inductive FlowState
  | flowOk | flowGrace | flowLost
  deriving DecidableEq, Repr

/-- The report state of a log entry (10 R172). -/
inductive Report
  | pending | inService | acked | masked
  deriving DecidableEq, Repr

/-- The fault codes of 10 R165, in the order of their numbers. -/
inductive Code
  | lineDegraded | lineTxFail | duplicateStation | configRejected | configMismatch | supervisorLost | peerLost
  | prechargeTimeout | syncTimeout | modulatorFault | contactorFeedback | overtemp | repeatedTrips | zeroLimitStop
  | pumpFailed | roleConflict | flowLost | sensorSupply | sensorDisagree | fanFailed | encoderInvalid | headingSlip
  | headingDisagree | yawStall | brakeFeedback | yawBlocked
  deriving DecidableEq, Repr

/-- The origin a raise of ROLE_CONFLICT carries (10 R166). -/
inductive Origin
  | pump | fanBank
  deriving DecidableEq, Repr

/-- The phase of a proposal record (07 R112). -/
inductive ProposalPhase
  | collecting | committed | moving
  deriving DecidableEq, Repr

/-- The bank A cover held by the owner of bank B (09 R161). -/
inductive Cover
  | covered | uncovered
  deriving DecidableEq, Repr

/-- The reported state of a pump in the loop view: UNKNOWN or the owner state a frame carried (08 R135, log entry 23). -/
inductive Reported
  | unknown
  | shown (owner : PumpOwner)
  deriving DecidableEq, Repr

/-! ## Identity and Configuration Unit (02) -/

/-- The strap latch (02 R23). -/
structure Straps where
  station : Station
  pumpRole : Role
  fanRole : Role
  drives : Nat
  fastLine : Bool
  deriving DecidableEq, Repr

/-- A configuration assembly that is not empty (02 R26 to R28). -/
structure Assembly where
  serial : Nat
  next : Nat
  bytes : List Byte
  deriving DecidableEq, Repr

/-- The fields of the parameter record, in the order of 02 R30. -/
structure Params where
  supervisor : Station
  statusInterval : Nat
  ratedPower : Nat
  maxPower : Nat
  fallbackDemand : Nat
  fallbackRamp : Nat
  fallbackRun : Bool
  fallbackYaw : Bool
  stopRamp : Nat
  prechargeTime : Nat
  coolDown : Nat
  derateStart : Nat
  tripTemp : Nat
  fanCapacity : Nat
  lossFraction : Nat
  flowGrace : Nat
  dutyHours : Nat
  counts : Nat
  markPosition : Nat
  twistLimit : Nat
  untwistThreshold : Nat
  untwistWind : Nat
  startTwist : Int
  sectorCount : Nat
  sector1Start : Nat
  sector1Length : Nat
  sector2Start : Nat
  sector2Length : Nat
  misalignment : Nat
  overrunMargin : Nat
  minDrives : Nat
  holdoff : Nat
  maskCritical : Bool
  maskMajor : Bool
  maskMinor : Bool
  maskInfo : Bool
  watermark : Nat
  deriving DecidableEq, Repr

/-- The state of the ICU. -/
structure Icu where
  straps : Straps
  phase : Phase
  assembly : Option Assembly
  params : Option Params
  serial : Nat
  reject : Nat
  deriving DecidableEq, Repr

/-! ## Peer Table (03) -/

/-- The fields of one STATUS (01 R13, 12 R194). -/
structure StatusRecord where
  phase : Phase
  stringState : StringState
  participant : Participant
  eligible : Bool
  twistKnown : Bool
  overflow : Bool
  pressure : Bool
  fanRole : Role
  fanStages : Nat
  pumpOwner : PumpOwner
  limit : Nat
  drives : Nat
  setpoint : Nat
  reject : Nat
  loss : Nat
  supplyValid : Bool
  supply : Int
  referenced : Bool
  position : Nat
  unacked : Nat
  twist : Int
  serial : Nat
  deriving DecidableEq, Repr

/-- One peer entry (03 R38). -/
structure PeerEntry where
  presence : Presence
  silence : Nat
  seen : KindSeen
  record : Option StatusRecord
  standing : Standing
  tripped : Bool
  serial : Nat
  deriving DecidableEq, Repr

/-- The demand record (03 R47, R48). -/
structure Demand where
  power : Nat
  ramp : Nat
  run : Bool
  yaw : Bool
  fresh : Bool
  deriving DecidableEq, Repr

/-- The wind record (03 R50, R51). -/
structure Wind where
  angle : Int
  speed : Nat
  fresh : Bool
  deriving DecidableEq, Repr

/-- The state of the PTB. -/
structure Ptb where
  entries : Vector PeerEntry 8
  silenceTimer : Timer
  mismatch : Bool
  demand : Demand
  wind : Wind
  windTimer : Timer
  deriving DecidableEq, Repr

/-! ## Line Interface (01) -/

/-- One frame of the transmit queue (01 R1, R2, R5). -/
structure QueuedFrame where
  kind : Kind
  source : Station
  payload : List Byte
  check : BitVec 16
  attempts : Nat
  transmitting : Bool
  deriving DecidableEq, Repr

/-- The receiving side between two line bits: waiting for an idle line, at an idle line, or taking a frame with the last
level read, the run of equal levels it ends, and the frame bits taken so far, newest first (01 R14, 12 R192). -/
inductive Reception
  | waiting
  | ready
  | taking (last : Level) (run : Nat) (bits : List Bool)
  deriving DecidableEq, Repr

/-- The record of blocks that hold refused requests (01 R8). -/
structure Holders where
  stc : Bool
  ywc : Bool
  clc : Bool
  flu : Bool
  deriving DecidableEq, Repr

/-- The state of the LIF. `sent` counts the line bits already sent of the frame in transmission. -/
structure Lif where
  queue : List QueuedFrame
  statusPlace : Option (List Byte)
  holders : Holders
  errors : Nat
  degraded : Bool
  statusTimer : Timer
  lineIdle : Bool
  reception : Reception
  recessiveRun : Nat
  sent : Option Nat
  deriving DecidableEq, Repr

/-! ## String Controller (04, 05) -/

/-- The three parts of the own limit (05 R79). -/
structure LimitParts where
  rDiv : Nat
  dTherm : Nat
  dFlow : Nat
  deriving DecidableEq, Repr

/-- The state of the STC. `linkSends` counts the link updates since the last reset: the model's own field, log
entry 5. -/
structure Stc where
  state : StringState
  prechargeCommand : Bool
  mainCommand : Bool
  enable : Bool
  link : BitVec 16
  linkSends : Nat
  limit : Nat
  parts : Option LimitParts
  setpoint : Nat
  loss : Nat
  target : Nat
  history : List Nat
  overtemp : Bool
  contactorFault : Bool
  heldTrip : Option (List Byte)
  permit : Bool
  flow : FlowState
  theta : Option Int
  latch : Bool
  exponent : Nat
  prechargeTimer : Timer
  syncTimer : Timer
  zeroHoldTimer : Timer
  coolDownTimer : Timer
  contactorTimer : Timer
  shareTimer : Timer
  deriving DecidableEq, Repr

/-! ## Yaw Controller (06, 07) -/

/-- The name of a proposal: the proposer's station number and the proposal number (07). A frame's proposer byte may name
no station, so the field is a number. -/
structure Ref where
  proposer : Nat
  number : Nat
  deriving DecidableEq, Repr

/-- The move record of a participant that is not IDLE (07 R111), with the direction its path names (log entry 8). -/
structure Move where
  ref : Ref
  path : Int
  clockwise : Bool
  count : Int
  deriving DecidableEq, Repr

/-- An answer entered in a proposal record (07 R117): READY with its drive count, or REFUSE. -/
inductive Reply
  | ready (drives : Nat)
  | refuse (reason : Refusing)
  deriving DecidableEq, Repr

/-- The proposal record (07 R112), with the direction its path names. -/
structure Proposal where
  ref : Ref
  purpose : Purpose
  path : Int
  clockwise : Bool
  target : Nat
  expected : StationSet
  answers : Vector (Option Reply) 8
  committed : StationSet
  released : StationSet
  count : Int
  phase : ProposalPhase
  deriving DecidableEq, Repr

/-- A yaw request that the LIF refused (07 R130). -/
structure HeldYaw where
  kind : Kind
  ref : Ref
  payload : List Byte
  deriving DecidableEq, Repr

/-- The yaw motor outputs of 12 R195. -/
structure Motors where
  cw1 : Bool
  ccw1 : Bool
  cw2 : Bool
  ccw2 : Bool
  deriving DecidableEq, Repr

/-- The YWC's own copies of C and of the reference mark position (06 R97). -/
structure Turn where
  modulus : Nat
  mark : Nat
  deriving DecidableEq, Repr

/-- The state of the YWC. -/
structure Ywc where
  turn : Option Turn
  position : Nat
  referenced : Bool
  twist : Int
  known : Bool
  invalidSteps : Nat
  disagree : Bool
  window : List Int
  holdoffTimer : Timer
  checkTimer : Timer
  permit : Bool
  lock : Bool
  participant : Participant
  move : Option Move
  proposal : Option Proposal
  nextNumber : Nat
  stall : Bool
  answerTimer : Timer
  releaseTimer : Timer
  commitWait : Timer
  brakeTimer : Timer
  driveWait : Timer
  stallTimer : Timer
  settleTimer : Timer
  brakingTimer : Timer
  held : List HeldYaw
  motors : Motors
  brakeRelease : Bool
  deriving DecidableEq, Repr

/-! ## Coolant Controller (08, 09) -/

/-- One pump of the loop view (08 R135). -/
structure PumpView where
  owner : Option Station
  reported : Reported
  handover : Bool
  deriving DecidableEq, Repr

/-- One fan record (09 R155). -/
structure Fan where
  output : Bool
  healthy : Bool
  timer : Timer
  deriving DecidableEq, Repr

/-- The state of the CLC. -/
structure Clc where
  owner : PumpOwner
  pumpOutput : Bool
  duty : Nat
  incoming : Bool
  conflict : Bool
  heldPump : Option (List Byte)
  startHold : Timer
  confirmTimer : Timer
  dutyTimer : Timer
  handoffTimer : Timer
  reportTimer : Timer
  viewA : PumpView
  viewB : PumpView
  flow : FlowState
  lostFlag : Bool
  graceTimer : Timer
  latch : Bool
  raw : Int
  rawValid : Bool
  theta : Option Int
  disagree : Bool
  supply : Bool
  sampleTimer : Timer
  fans : Vector Fan 3
  nHeat : Nat
  nTemp : Nat
  nFan : Nat
  cover : Cover
  fanConflict : Bool
  heldOff : Bool
  fanStepTimer : Timer
  deriving DecidableEq, Repr

/-! ## Fault Unit (10, 11) -/

/-- What a code does to the other blocks (10 R165); `derate` is 0 where the code carries none. -/
structure Actions where
  trip : Bool
  stringLatch : Bool
  yawLock : Bool
  pumpLatch : Bool
  fanBankOff : Bool
  derate : Nat
  deriving DecidableEq, Repr

/-- A member of the condition set (10 R167). -/
structure Member where
  code : Code
  actions : Actions
  deriving DecidableEq, Repr

/-- A request to the FLU (10 R166). -/
inductive Request
  | raised (code : Code) (value : Int) (origin : Option Origin)
  | cleared (code : Code)
  deriving DecidableEq, Repr

/-- One entry of the fault log (10 R172). -/
structure Entry where
  number : Nat
  code : Code
  cls : FaultClass
  active : Bool
  report : Report
  occurrences : Nat
  first : Nat
  last : Nat
  value : Int
  deriving DecidableEq, Repr

/-- A refused FAULT_NOTICE request, naming one entry (11 R185). -/
structure HeldNotice where
  number : Nat
  cls : FaultClass
  deriving DecidableEq, Repr

/-- The notice repeat timers, one per class (11 R186). -/
structure Repeats where
  critical : Timer
  major : Timer
  minor : Timer
  info : Timer
  deriving DecidableEq, Repr

/-- The state of the FLU. `inbox` holds requests not yet taken: the model's own field, log entry 9. -/
structure Flu where
  members : List Member
  exponent : Nat
  stringLatch : Bool
  yawLock : Bool
  pumpLatch : Bool
  seconds : Nat
  clockTimer : Timer
  log : List Entry
  counter : Nat
  overflow : Bool
  pressure : Bool
  supervisor : Bool
  repeats : Repeats
  held : List HeldNotice
  inbox : List Request
  deriving DecidableEq, Repr

/-! ## The plant inputs and the whole part -/

/-- How many successive samples of each plant input have differed from its qualified level (06 R94, 12 R196). -/
structure Differing where
  contactorClosed : Nat
  dcLink : Nat
  gridSync : Nat
  modulatorFault : Nat
  brakeApplied : Nat
  flow : Nat
  fans : Vector Nat 3
  toothA : Nat
  toothB : Nat
  mark : Nat
  deriving DecidableEq, Repr

/-- The whole part. `draws` counts the free values drawn (log entry 10); `pending` is the queue of waiting commands. -/
structure State where
  icu : Icu
  lif : Lif
  ptb : Ptb
  stc : Stc
  ywc : Ywc
  clc : Clc
  flu : Flu
  levels : Levels
  differing : Differing
  draws : Nat
  pending : List Instr
  deriving DecidableEq, Repr

/-! ## Stops -/

/-- The faults of a step: none. Every event of the spec has an effect, so no command raises a fault; the fault codes of
chapter 10 are state of the FLU. The type has no constructor, which is safe: nothing ends a run. -/
inductive Fault
  deriving DecidableEq, Repr

/-- The refusals of a step. -/
inductive Refusal
  /-- Raised by an arm of `exec` whose command has no meaning yet; no arm of this model raises it. Safe. -/
  | notModelled (mnemonic : String)
  deriving DecidableEq, Repr

/-! ## Full-reset values -/

/-- A station that has not been heard (03 R52). -/
def PeerEntry.atReset : PeerEntry where
  presence := .neverHeard
  silence := 0
  seen := .unseen
  record := none
  standing := .noRecord
  tripped := false
  serial := 0

/-- The PTB at the end of a reset (03 R52). -/
def Ptb.atReset : Ptb where
  entries := Vector.replicate 8 PeerEntry.atReset
  silenceTimer := some 100
  mismatch := false
  demand := { power := 0, ramp := 1, run := false, yaw := false, fresh := false }
  wind := { angle := 0, speed := 0, fresh := false }
  windTimer := none

/-- The LIF at the end of a reset, before any request (01 R21). -/
def Lif.atReset : Lif where
  queue := []
  statusPlace := none
  holders := { stc := false, ywc := false, clc := false, flu := false }
  errors := 0
  degraded := false
  statusTimer := some 100
  lineIdle := false
  reception := .waiting
  recessiveRun := 0
  sent := none

/-- The ICU at the end of a full reset that latched `straps` (02 R37). -/
def Icu.atReset (straps : Straps) : Icu where
  straps := straps
  phase := .unconfigured
  assembly := none
  params := none
  serial := 0
  reject := 0

/-- The STC at the end of a reset (04 R76, 05 R93): one link update sent with enable off and setpoint 0, and the
contactor check timer running if the feedback shows closed. -/
def Stc.atReset (contactorClosed : Bool) : Stc where
  state := .off
  prechargeCommand := false
  mainCommand := false
  enable := false
  link := 0
  linkSends := 1
  limit := 0
  parts := none
  setpoint := 0
  loss := 0
  target := 0
  history := []
  overtemp := false
  contactorFault := false
  heldTrip := none
  permit := false
  flow := .flowLost
  theta := none
  latch := false
  exponent := 0
  prechargeTimer := none
  syncTimer := none
  zeroHoldTimer := none
  coolDownTimer := none
  contactorTimer := if contactorClosed then some 200 else none
  shareTimer := some 100

/-- The YWC at the end of a full reset (06 R109, 07 R131). The check timer belongs to stations with drives
(06 section 6.1, log entry 7). -/
def Ywc.atReset (drives : Nat) : Ywc where
  turn := none
  position := 0
  referenced := false
  twist := 0
  known := false
  invalidSteps := 0
  disagree := false
  window := []
  holdoffTimer := none
  checkTimer := if drives = 0 then none else some 100
  permit := false
  lock := false
  participant := .idle
  move := none
  proposal := none
  nextNumber := 0
  stall := false
  answerTimer := none
  releaseTimer := none
  commitWait := none
  brakeTimer := none
  driveWait := none
  stallTimer := none
  settleTimer := none
  brakingTimer := none
  held := []
  motors := { cw1 := false, ccw1 := false, cw2 := false, ccw2 := false }
  brakeRelease := false

/-- A pump nobody has reported (08 R149). -/
def PumpView.atReset : PumpView where
  owner := none
  reported := .unknown
  handover := false

/-- A fan that is off and HEALTHY (09 R163). -/
def Fan.atReset : Fan where
  output := false
  healthy := true
  timer := none

/-- The CLC at the end of a reset, before the PUMP_STATE of 08 R149 is requested (08 R149, 09 R163). -/
def Clc.atReset (pumpRole : Role) : Clc where
  owner := if pumpRole = .noRole then .noPump else .standby
  pumpOutput := false
  duty := 0
  incoming := false
  conflict := false
  heldPump := none
  startHold := none
  confirmTimer := none
  dutyTimer := none
  handoffTimer := none
  reportTimer := if pumpRole = .noRole then none else some 1000
  viewA := PumpView.atReset
  viewB := PumpView.atReset
  flow := .flowLost
  lostFlag := false
  graceTimer := none
  latch := false
  raw := 0
  rawValid := false
  theta := none
  disagree := false
  supply := false
  sampleTimer := some 100
  fans := Vector.replicate 3 Fan.atReset
  nHeat := 0
  nTemp := 0
  nFan := 0
  cover := .uncovered
  fanConflict := false
  heldOff := false
  fanStepTimer := none

/-- The FLU at the end of a full reset (10 R180, 11 R191). -/
def Flu.atReset : Flu where
  members := []
  exponent := 0
  stringLatch := false
  yawLock := false
  pumpLatch := false
  seconds := 0
  clockTimer := some 1000
  log := []
  counter := 0
  overflow := false
  pressure := false
  supervisor := false
  repeats := { critical := none, major := none, minor := none, info := none }
  held := []
  inbox := []

/-- No sample has differed yet. -/
def Differing.none : Differing where
  contactorClosed := 0
  dcLink := 0
  gridSync := 0
  modulatorFault := 0
  brakeApplied := 0
  flow := 0
  fans := Vector.replicate 3 0
  toothA := 0
  toothB := 0
  mark := 0

/-- The straps of a part whose pins are all tied low (02 R23). -/
def Straps.low : Straps where
  station := 0
  pumpRole := .noRole
  fanRole := .noRole
  drives := 0
  fastLine := false

/-- The part right after a full reset with every strap pin low and every plant input low at the first sample
(02 R36, R37; the pins and levels are a DESIGN CHOICE, log entry 4). The command FULL_RESET takes any other pins. -/
def State.reset : State where
  icu := Icu.atReset Straps.low
  lif := Lif.atReset
  ptb := Ptb.atReset
  stc := Stc.atReset false
  ywc := Ywc.atReset 0
  clc := Clc.atReset .noRole
  flu := Flu.atReset
  levels := Levels.low
  differing := Differing.none
  draws := 0
  pending := []

end Sys2Proof.Machine
end

