-- ==== Sys2Proof/Machine/Codes.lean ====
section
/-! DEFINITION. The code table of 10 R165: number, nature, class, clearing and action of each fault code. -/

namespace Sys2Proof.Machine

/-- The number of a code (10 R165). -/
def Code.number : Code → Nat
  | .lineDegraded => 1
  | .lineTxFail => 2
  | .duplicateStation => 3
  | .configRejected => 4
  | .configMismatch => 5
  | .supervisorLost => 6
  | .peerLost => 7
  | .prechargeTimeout => 8
  | .syncTimeout => 9
  | .modulatorFault => 10
  | .contactorFeedback => 11
  | .overtemp => 12
  | .repeatedTrips => 13
  | .zeroLimitStop => 14
  | .pumpFailed => 15
  | .roleConflict => 16
  | .flowLost => 17
  | .sensorSupply => 18
  | .sensorDisagree => 19
  | .fanFailed => 20
  | .encoderInvalid => 21
  | .headingSlip => 22
  | .headingDisagree => 23
  | .yawStall => 24
  | .brakeFeedback => 25
  | .yawBlocked => 26

/-- Whether a code is a condition code; the others are event codes (10 R165). -/
def Code.isCondition : Code → Bool
  | .lineTxFail | .configRejected | .peerLost | .prechargeTimeout | .syncTimeout | .modulatorFault
  | .zeroLimitStop | .headingSlip | .yawBlocked => false
  | _ => true

/-- Whether a condition code stands until a reset (10 R165). -/
def Code.isLatched : Code → Bool
  | .duplicateStation | .contactorFeedback | .repeatedTrips | .pumpFailed | .roleConflict | .fanFailed
  | .encoderInvalid | .brakeFeedback => true
  | _ => false

/-- The class of a code (10 R165). -/
def Code.cls : Code → FaultClass
  | .duplicateStation | .contactorFeedback | .repeatedTrips | .roleConflict | .flowLost | .brakeFeedback => .critical
  | .supervisorLost | .prechargeTimeout | .syncTimeout | .modulatorFault | .overtemp | .pumpFailed
  | .encoderInvalid | .yawStall => .major
  | .lineDegraded | .lineTxFail | .configMismatch | .sensorSupply | .sensorDisagree | .fanFailed
  | .headingSlip | .headingDisagree => .minor
  | .configRejected | .peerLost | .zeroLimitStop | .yawBlocked => .info

/-- No action. -/
def Actions.none : Actions where
  trip := false
  stringLatch := false
  yawLock := false
  pumpLatch := false
  fanBankOff := false
  derate := 0

/-- The actions of a code (10 R165). ROLE_CONFLICT's action depends on the origin of the raise (10 R167). -/
def Code.actions (origin : Option Origin) : Code → Actions
  | .duplicateStation => { Actions.none with stringLatch := true, yawLock := true }
  | .prechargeTimeout | .syncTimeout | .modulatorFault | .overtemp => { Actions.none with trip := true }
  | .contactorFeedback => { Actions.none with trip := true, stringLatch := true }
  | .repeatedTrips => { Actions.none with stringLatch := true }
  | .pumpFailed => { Actions.none with pumpLatch := true }
  | .roleConflict => { Actions.none with pumpLatch := origin == some .pump, fanBankOff := origin == some .fanBank }
  | .sensorSupply => { Actions.none with derate := 1 }
  | .encoderInvalid | .yawStall => { Actions.none with yawLock := true }
  | .brakeFeedback => { Actions.none with yawLock := true, derate := 2 }
  | .lineDegraded | .lineTxFail | .configRejected | .configMismatch | .supervisorLost | .peerLost
  | .zeroLimitStop | .flowLost | .sensorDisagree | .fanFailed | .headingSlip | .headingDisagree
  | .yawBlocked => Actions.none

/-- The urgency rank of a class: 0 for the most urgent (10 section 10.1). -/
def classRank : FaultClass → Nat
  | .critical => 0
  | .major => 1
  | .minor => 2
  | .info => 3

end Sys2Proof.Machine
end

