-- ==== Sys2Proof/Machine/Operands.lean ====
section
/-! DEFINITION. The operand forms of the commands: the payload layouts of 12 R194, encoded under 12 R193 with the codes of
12 section 12.3. A `decode…` function answers `none` for a payload of the wrong length and for an enumerated field that
holds a code absent from its table. -/

namespace Sys2Proof.Machine

/-! ## Enumerated codes (12 section 12.3) -/

/-- The code of a phase. -/
def Phase.code : Phase → Nat
  | .unconfigured => 0
  | .configured => 1

/-- The phase of a code. -/
def phaseOf : Nat → Option Phase
  | 0 => some .unconfigured
  | 1 => some .configured
  | _ => none

/-- The code of a string state. -/
def StringState.code : StringState → Nat
  | .off => 0
  | .precharge => 1
  | .sync => 2
  | .run => 3
  | .stopping => 4
  | .tripped => 5
  | .locked => 6

/-- The string state of a code. -/
def stringStateOf : Nat → Option StringState
  | 0 => some .off
  | 1 => some .precharge
  | 2 => some .sync
  | 3 => some .run
  | 4 => some .stopping
  | 5 => some .tripped
  | 6 => some .locked
  | _ => none

/-- The code of a participant state. -/
def Participant.code : Participant → Nat
  | .idle => 0
  | .answered => 1
  | .releasing => 2
  | .released => 3
  | .driving => 4
  | .stopping => 5
  | .braking => 6

/-- The participant state of a code. -/
def participantOf : Nat → Option Participant
  | 0 => some .idle
  | 1 => some .answered
  | 2 => some .releasing
  | 3 => some .released
  | 4 => some .driving
  | 5 => some .stopping
  | 6 => some .braking
  | _ => none

/-- The code of a pump owner state. -/
def PumpOwner.code : PumpOwner → Nat
  | .noPump => 0
  | .standby => 1
  | .starting => 2
  | .running => 3
  | .handingOff => 4
  | .failed => 5

/-- The pump owner state of a code. -/
def pumpOwnerOf : Nat → Option PumpOwner
  | 0 => some .noPump
  | 1 => some .standby
  | 2 => some .starting
  | 3 => some .running
  | 4 => some .handingOff
  | 5 => some .failed
  | _ => none

/-- The code of a role. -/
def Role.code : Role → Nat
  | .noRole => 0
  | .a => 1
  | .b => 2

/-- The role of a code. -/
def roleOf : Nat → Option Role
  | 0 => some .noRole
  | 1 => some .a
  | 2 => some .b
  | _ => none

/-- The code of a pump; 0 NONE is for roles only. -/
def Pump.code : Pump → Nat
  | .a => 1
  | .b => 2

/-- The pump of a code. -/
def pumpOf : Nat → Option Pump
  | 1 => some .a
  | 2 => some .b
  | _ => none

/-- The code of a trip cause. -/
def TripCause.code : TripCause → Nat
  | .prechargeTimeout => 1
  | .syncTimeout => 2
  | .modulatorFault => 3
  | .contactorFeedback => 4
  | .overtemp => 5
  | .faultAction => 6
  | .stringLatch => 7

/-- The trip cause of a code. -/
def tripCauseOf : Nat → Option TripCause
  | 1 => some .prechargeTimeout
  | 2 => some .syncTimeout
  | 3 => some .modulatorFault
  | 4 => some .contactorFeedback
  | 5 => some .overtemp
  | 6 => some .faultAction
  | 7 => some .stringLatch
  | _ => none

/-- The code of a halt reason. -/
def HaltReason.code : HaltReason → Nat
  | .reached => 1
  | .overrun => 2
  | .stall => 3
  | .twist => 4
  | .fault => 5
  | .abandoned => 6

/-- The code of an answer. -/
def Answer.code : Answer → Nat
  | .ready => 1
  | .refuse => 2
  | .released => 3

/-- The answer of a code. -/
def answerOf : Nat → Option Answer
  | 1 => some .ready
  | 2 => some .refuse
  | 3 => some .released
  | _ => none

/-- The code of a refusal reason. -/
def Refusing.code : Refusing → Nat
  | .noReason => 0
  | .lockedOut => 1
  | .twist => 2
  | .brake => 3
  | .busy => 4
  | .noDrives => 5

/-- The refusal reason of a code. -/
def refusingOf : Nat → Option Refusing
  | 0 => some .noReason
  | 1 => some .lockedOut
  | 2 => some .twist
  | 3 => some .brake
  | 4 => some .busy
  | 5 => some .noDrives
  | _ => none

/-- The code of a purpose. -/
def Purpose.code : Purpose → Nat
  | .align => 1
  | .untwist => 2

/-- The purpose of a code. -/
def purposeOf : Nat → Option Purpose
  | 1 => some .align
  | 2 => some .untwist
  | _ => none

/-- The code of a class. -/
def classCode : FaultClass → Nat
  | .critical => 1
  | .major => 2
  | .minor => 3
  | .info => 4

/-- The class of a code. -/
def classOf : Nat → Option FaultClass
  | 1 => some .critical
  | 2 => some .major
  | 3 => some .minor
  | 4 => some .info
  | _ => none

/-- The code of an entry state: 1 ACTIVE, 2 INACTIVE. -/
def entryStateCode (active : Bool) : Nat := if active then 1 else 2

/-! ## Payloads that the NT44 sends -/

/-- The TRIP_NOTICE payload. -/
def encodeTrip (cause : TripCause) (st : StringState) : List Byte := [toByte cause.code, toByte st.code]

/-- The YAW_HALT payload. -/
def encodeHalt (r : Ref) (reason : HaltReason) : List Byte := [toByte r.proposer, toByte r.number, toByte reason.code]

/-- The YAW_PROPOSE payload: proposal number, path as a 24-bit signed field, target, purpose, an unused byte sent as 0. -/
def encodePropose (number : Nat) (path : Int) (target : Nat) (purpose : Purpose) : List Byte :=
  [toByte number] ++ bytesOf24 (fieldOfSigned 24 path) ++ bytesOf16 target ++ [toByte purpose.code, 0]

/-- The YAW_ANSWER payload. -/
def encodeAnswer (r : Ref) (answer : Answer) (drives : Nat) (reason : Refusing) : List Byte :=
  [toByte r.proposer, toByte r.number, toByte answer.code, toByte drives, toByte reason.code]

/-- The YAW_COMMIT payload. -/
def encodeCommit (r : Ref) (committed : StationSet) : List Byte := [toByte r.proposer, toByte r.number, committed]

/-- The YAW_DRIVE payload. -/
def encodeDrive (r : Ref) : List Byte := [toByte r.proposer, toByte r.number]

/-- The PUMP_STATE payload; the handover request flag is set exactly in HANDING_OFF (08 R134). -/
def encodePump (pump : Pump) (owner : PumpOwner) (duty : Nat) : List Byte :=
  [toByte pump.code, toByte owner.code, toByte (bitOf (owner == .handingOff))] ++ bytesOf16 duty

/-- The FAULT_NOTICE payload of an entry (11 R185). -/
def encodeNotice (e : Entry) : List Byte :=
  bytesOf16 e.number
    ++ [toByte e.code.number, toByte (classCode e.cls), toByte (entryStateCode e.active), toByte e.occurrences]
    ++ bytesOf16 (fieldOfSigned 16 e.value) ++ bytesOf32 e.first ++ bytesOf32 e.last

/-- The entry number that a FAULT_NOTICE payload names. -/
def noticeNumber : List Byte → Option Nat
  | b0 :: b1 :: _ => some (twoBytes b0 b1)
  | _ => none

/-- The STATUS payload (12 R194, table under STATUS). -/
def encodeStatus (r : StatusRecord) : List Byte :=
  [toByte (r.phase.code * 128 + r.stringState.code * 16 + r.participant.code * 2 + bitOf r.eligible),
   toByte (bitOf r.twistKnown * 128 + bitOf r.overflow * 64 + bitOf r.pressure * 32 + r.fanRole.code * 8
     + bitField r.fanStages 0 3)]
    ++ bytesOf16 (r.pumpOwner.code * 8192 + bitField r.limit 0 13)
    ++ bytesOf16 (bitField r.drives 0 2 * 8192 + bitField r.setpoint 0 13)
    ++ bytesOf16 (bitField r.reject 0 6 * 1024 + bitField r.loss 0 9)
    ++ bytesOf16 (bitOf r.supplyValid * 32768 + fieldOfSigned 12 r.supply)
    ++ bytesOf16 (bitOf r.referenced * 32768 + bitField r.position 0 14)
    ++ bytesOf24 (bitField r.unacked 0 6 * 262144 + fieldOfSigned 18 r.twist)
    ++ [toByte r.serial]

/-! ## Payloads that the NT44 takes -/

/-- A STATUS payload read back. -/
def decodeStatus : List Byte → Option StatusRecord
  | [b0, b1, b2, b3, b4, b5, b6, b7, b8, b9, b10, b11, b12, b13, b14, b15] =>
    let w2 := twoBytes b2 b3
    let w4 := twoBytes b4 b5
    let w6 := twoBytes b6 b7
    let w8 := twoBytes b8 b9
    let w10 := twoBytes b10 b11
    let w12 := b12.toNat * 65536 + twoBytes b13 b14
    match phaseOf (bitField b0.toNat 7 1), stringStateOf (bitField b0.toNat 4 3), participantOf (bitField b0.toNat 1 3),
      roleOf (bitField b1.toNat 3 2), pumpOwnerOf (bitField w2 13 3) with
    | some phase, some stringState, some participant, some fanRole, some pumpOwner =>
      some
        { phase := phase
          stringState := stringState
          participant := participant
          eligible := bitField b0.toNat 0 1 == 1
          twistKnown := bitField b1.toNat 7 1 == 1
          overflow := bitField b1.toNat 6 1 == 1
          pressure := bitField b1.toNat 5 1 == 1
          fanRole := fanRole
          fanStages := bitField b1.toNat 0 3
          pumpOwner := pumpOwner
          limit := bitField w2 0 13
          drives := bitField w4 13 2
          setpoint := bitField w4 0 13
          reject := bitField w6 10 6
          loss := bitField w6 0 9
          supplyValid := bitField w8 15 1 == 1
          supply := signedField 12 w8
          referenced := bitField w10 15 1 == 1
          position := bitField w10 0 14
          unacked := bitField w12 18 6
          twist := signedField 18 w12
          serial := b15.toNat }
    | _, _, _, _, _ => none
  | _ => none

/-- A TRIP_NOTICE payload: cause and string state. -/
def decodeTrip : List Byte → Option (TripCause × StringState)
  | [b0, b1] =>
    match tripCauseOf b0.toNat, stringStateOf b1.toNat with
    | some cause, some st => some (cause, st)
    | _, _ => none
  | _ => none

/-- A YAW_HALT payload: the ref; the reason is not tested (12 R193). -/
def decodeHalt : List Byte → Option Ref
  | [b0, b1, _] => some { proposer := b0.toNat, number := b1.toNat }
  | _ => none

/-- The fields of a YAW_PROPOSE. -/
structure ProposeFields where
  number : Nat
  path : Int
  target : Nat
  purpose : Purpose
  deriving DecidableEq, Repr

/-- A YAW_PROPOSE payload; its last byte is unused and not read. -/
def decodePropose : List Byte → Option ProposeFields
  | [b0, b1, b2, b3, b4, b5, b6, _] =>
    match purposeOf b6.toNat with
    | some purpose =>
      some
        { number := b0.toNat
          path := signedField 24 (b1.toNat * 65536 + twoBytes b2 b3)
          target := twoBytes b4 b5
          purpose := purpose }
    | none => none
  | _ => none

/-- The fields of a YAW_ANSWER. -/
structure AnswerFields where
  ref : Ref
  answer : Answer
  drives : Nat
  reason : Refusing
  deriving DecidableEq, Repr

/-- A YAW_ANSWER payload. -/
def decodeAnswer : List Byte → Option AnswerFields
  | [b0, b1, b2, b3, b4] =>
    match answerOf b2.toNat, refusingOf b4.toNat with
    | some answer, some reason =>
      some
        { ref := { proposer := b0.toNat, number := b1.toNat }
          answer := answer
          drives := b3.toNat
          reason := reason }
    | _, _ => none
  | _ => none

/-- A YAW_COMMIT payload: ref and committed set. -/
def decodeCommit : List Byte → Option (Ref × StationSet)
  | [b0, b1, b2] => some ({ proposer := b0.toNat, number := b1.toNat }, b2)
  | _ => none

/-- A YAW_DRIVE payload: ref. -/
def decodeDrive : List Byte → Option Ref
  | [b0, b1] => some { proposer := b0.toNat, number := b1.toNat }
  | _ => none

/-- The fields of a PUMP_STATE. -/
structure PumpFields where
  pump : Pump
  owner : PumpOwner
  handover : Bool
  duty : Nat
  deriving DecidableEq, Repr

/-- A PUMP_STATE payload; any non-zero handover byte is taken as set (12 R193). -/
def decodePump : List Byte → Option PumpFields
  | [b0, b1, b2, b3, b4] =>
    match pumpOf b0.toNat, pumpOwnerOf b1.toNat with
    | some pump, some owner =>
      some { pump := pump, owner := owner, handover := b2.toNat != 0, duty := twoBytes b3 b4 }
    | _, _ => none
  | _ => none

/-- The fields of a DEMAND as sent. -/
structure DemandFields where
  power : Nat
  ramp : Nat
  run : Bool
  yaw : Bool
  deriving DecidableEq, Repr

/-- A DEMAND payload; a permit is yes when its byte is non-zero (03 R47). -/
def decodeDemand : List Byte → Option DemandFields
  | [b0, b1, b2, b3, b4, b5] =>
    some { power := twoBytes b0 b1, ramp := twoBytes b2 b3, run := b4.toNat != 0, yaw := b5.toNat != 0 }
  | _ => none

/-- A WIND payload as sent: angle and speed. -/
def decodeWind : List Byte → Option (Int × Nat)
  | [b0, b1, b2, b3] => some (signedField 16 (twoBytes b0 b1), twoBytes b2 b3)
  | _ => none

/-- What a FAULT_ACK names (11 R189). -/
inductive AckOrder
  | one (number : Nat)
  | ofClass (cls : FaultClass)
  | all
  deriving DecidableEq, Repr

/-- A FAULT_ACK payload: target station and order; none for a mode or, in mode CLASS, a class outside its table. -/
def decodeAck : List Byte → Option (Nat × AckOrder)
  | [b0, b1, b2, b3] =>
    match b1.toNat with
    | 1 => some (b0.toNat, .one (twoBytes b2 b3))
    | 2 =>
      match classOf b3.toNat with
      | some cls => some (b0.toNat, .ofClass cls)
      | none => none
    | 3 => some (b0.toNat, .all)
    | _ => none
  | _ => none

/-- A STATION_RESET payload: target station. -/
def decodeReset : List Byte → Option Nat
  | [b0] => some b0.toNat
  | _ => none

/-- The fields of a CONFIG_PART. -/
structure PartFields where
  target : Nat
  serial : Nat
  index : Nat
  bytes : List Byte
  deriving DecidableEq, Repr

/-- A CONFIG_PART payload: target, serial, part index and eight record bytes. -/
def decodePart : List Byte → Option PartFields
  | b0 :: b1 :: b2 :: rest =>
    if rest.length = 8 then
      some { target := b0.toNat, serial := b1.toNat, index := b2.toNat, bytes := rest }
    else none
  | _ => none

/-! ## The configuration record (12 R194, table under Configuration record) -/

/-- The byte of the record at an index. -/
def recordByte (bytes : List Byte) (i : Nat) : Nat := (bytes.getD i 0).toNat

/-- The 16-bit field of the record that begins at a byte. -/
def recordWord (bytes : List Byte) (i : Nat) : Nat := recordByte bytes i * 256 + recordByte bytes (i + 1)

/-- The 48 bytes decoded into the fields of the parameter record (02 R29). -/
def decodeRecord (bytes : List Byte) : Params :=
  let b0 := recordByte bytes 0
  let w14 := recordWord bytes 14
  let w16 := recordWord bytes 16
  let w18 := recordWord bytes 18
  let w20 := recordWord bytes 20
  let w33 := recordByte bytes 33 * 65536 + recordWord bytes 34
  let w44 := recordWord bytes 44 * 65536 + recordWord bytes 46
  { supervisor := Fin.ofNat 8 (bitField b0 0 3)
    statusInterval := recordByte bytes 1
    ratedPower := recordWord bytes 2
    maxPower := recordWord bytes 4
    fallbackDemand := recordWord bytes 6
    fallbackRamp := recordWord bytes 8
    fallbackRun := bitField b0 3 1 == 1
    fallbackYaw := bitField b0 4 1 == 1
    stopRamp := recordWord bytes 10
    prechargeTime := recordWord bytes 12
    coolDown := bitField w14 0 10
    derateStart := bitField w16 0 10
    tripTemp := bitField w18 0 10
    fanCapacity := bitField w20 0 10
    lossFraction := bitField w33 17 7
    flowGrace := bitField w14 10 6
    dutyHours := bitField (recordWord bytes 23) 0 10
    counts := recordWord bytes 25
    markPosition := recordWord bytes 27
    twistLimit := recordWord bytes 29
    untwistThreshold := recordWord bytes 31
    untwistWind := recordByte bytes 22
    startTwist := signedField 17 w33
    sectorCount := bitField b0 5 2
    sector1Start := recordWord bytes 36
    sector1Length := recordWord bytes 38
    sector2Start := recordWord bytes 40
    sector2Length := recordWord bytes 42
    misalignment := bitField w44 0 10
    overrunMargin := bitField w44 10 10
    minDrives := bitField w18 12 4
    holdoff := bitField w44 20 10
    maskCritical := bitField w20 15 1 == 1
    maskMajor := bitField w20 14 1 == 1
    maskMinor := bitField w20 13 1 == 1
    maskInfo := bitField w20 12 1 == 1
    watermark := bitField w16 10 6 }

/-- The 48 bytes of a parameter record, by the table of 12 R194. -/
def encodeRecord (p : Params) : List Byte :=
  [toByte (p.sectorCount * 32 + bitOf p.fallbackYaw * 16 + bitOf p.fallbackRun * 8 + p.supervisor.val),
   toByte p.statusInterval]
    ++ bytesOf16 p.ratedPower ++ bytesOf16 p.maxPower ++ bytesOf16 p.fallbackDemand ++ bytesOf16 p.fallbackRamp
    ++ bytesOf16 p.stopRamp ++ bytesOf16 p.prechargeTime
    ++ bytesOf16 (p.flowGrace * 1024 + p.coolDown)
    ++ bytesOf16 (p.watermark * 1024 + p.derateStart)
    ++ bytesOf16 (p.minDrives * 4096 + p.tripTemp)
    ++ bytesOf16 (bitOf p.maskCritical * 32768 + bitOf p.maskMajor * 16384 + bitOf p.maskMinor * 8192
        + bitOf p.maskInfo * 4096 + p.fanCapacity)
    ++ [toByte p.untwistWind] ++ bytesOf16 p.dutyHours
    ++ bytesOf16 p.counts ++ bytesOf16 p.markPosition ++ bytesOf16 p.twistLimit ++ bytesOf16 p.untwistThreshold
    ++ bytesOf24 (p.lossFraction * 131072 + fieldOfSigned 17 p.startTwist)
    ++ bytesOf16 p.sector1Start ++ bytesOf16 p.sector1Length ++ bytesOf16 p.sector2Start ++ bytesOf16 p.sector2Length
    ++ bytesOf32 (p.holdoff * 1048576 + p.overrunMargin * 1024 + p.misalignment)

end Sys2Proof.Machine
end

