-- ==== Sys2Proof/Machine/Kinds.lean ====
section
/-! DEFINITION. Kind codes and fixed payload lengths of the frames, the table of 01 R1. -/

namespace Sys2Proof

/-- The 6-bit kind code of a kind (01 R1). -/
def Kind.code : Kind → Nat
  | .tripNotice => 0x02
  | .yawHalt => 0x03
  | .yawPropose => 0x08
  | .yawAnswer => 0x09
  | .yawCommit => 0x0A
  | .yawDrive => 0x0B
  | .pumpState => 0x10
  | .demand => 0x14
  | .wind => 0x15
  | .faultAck => 0x16
  | .stationReset => 0x17
  | .status => 0x20
  | .faultNotice => 0x28
  | .configPart => 0x30

/-- The fixed payload length of a kind, in bytes (01 R1). -/
def Kind.payloadLength : Kind → Nat
  | .tripNotice => 2
  | .yawHalt => 3
  | .yawPropose => 8
  | .yawAnswer => 5
  | .yawCommit => 3
  | .yawDrive => 2
  | .pumpState => 5
  | .demand => 6
  | .wind => 4
  | .faultAck => 4
  | .stationReset => 1
  | .status => 16
  | .faultNotice => 16
  | .configPart => 11

/-- Every kind of 01 R1, in ascending kind code. -/
def Kind.all : List Kind :=
  [.tripNotice, .yawHalt, .yawPropose, .yawAnswer, .yawCommit, .yawDrive, .pumpState,
   .demand, .wind, .faultAck, .stationReset, .status, .faultNotice, .configPart]

/-- The kind that a kind code names, none for an unknown kind (01 R1). -/
def Kind.ofCode (code : Nat) : Option Kind :=
  Kind.all.find? (fun k => k.code == code)

/-- The kinds taken only from the supervisor station (01 R19). -/
def Kind.supervisorOnly : Kind → Bool
  | .demand | .faultAck | .stationReset | .configPart => true
  | _ => false

end Sys2Proof
end

