-- ==== Sys2Proof/Machine/Frame.lean ====
section
/-! DEFINITION. A frame on the nacelle line, bit by bit: field order, frame check and inserted bits (12 R192). `true` is
a 1, the recessive level. -/

namespace Sys2Proof.Machine

/-- The low `w` bits of a number, most significant first (12 R192). -/
def bitsOf : Nat → Nat → List Bool
  | 0, _ => []
  | w + 1, n => (n / 2 ^ w % 2 == 1) :: bitsOf w n

/-- The number that a list of bits spells, most significant first. -/
def numberOf (bits : List Bool) : Nat := bits.foldl (fun n b => 2 * n + bitOf b) 0

/-- The bits of a payload, byte after byte. -/
def payloadBits (payload : List Byte) : List Bool := payload.flatMap (fun b => bitsOf 8 b.toNat)

/-- The payload that a list of bits spells; bits beyond the last whole byte are dropped. -/
def payloadOf : Nat → List Bool → List Byte
  | 0, _ => []
  | n + 1, bits => toByte (numberOf (bits.take 8)) :: payloadOf n (bits.drop 8)

/-- The bits that the frame check is computed over: kind, source, payload length, payload (01 section 1.1, 12 R192). -/
def checkedBits (kindCode source : Nat) (payload : List Byte) : List Bool :=
  bitsOf 6 kindCode ++ bitsOf 3 source ++ bitsOf 5 payload.length ++ payloadBits payload

/-- One bit through the CRC register, generator x^16 + x^12 + x^5 + 1 (12 R192). -/
def crcBit (reg : BitVec 16) (b : Bool) : BitVec 16 :=
  if reg.msb != b then (reg <<< 1) ^^^ 0x1021#16 else reg <<< 1

/-- The frame check of a list of bits: the register starts at all ones and its final value is not inverted (12 R192). -/
def crcOf (bits : List Bool) : BitVec 16 := bits.foldl crcBit 0xFFFF#16

/-- The frame check of a frame (01 R1). -/
def frameCheck (kindCode source : Nat) (payload : List Byte) : BitVec 16 := crcOf (checkedBits kindCode source payload)

/-- The bits of a frame before any is inserted: a dominant start bit, the checked bits, the frame check (12 R192). -/
def plainBits (kindCode source : Nat) (payload : List Byte) (check : BitVec 16) : List Bool :=
  false :: (checkedBits kindCode source payload ++ bitsOf 16 check.toNat)

/-- Insert one bit of the opposite level after every five consecutive bits of equal level, counting inserted bits
(12 R192); `last` and `run` describe the bits already sent. Nothing follows the last bit (log entry 26). -/
def stuffFrom (last : Bool) (run : Nat) : List Bool → List Bool
  | [] => []
  | b :: rest =>
    if run = 5 then (!last) :: b :: stuffFrom b (if b = !last then 2 else 1) rest
    else b :: stuffFrom b (if b = last then run + 1 else 1) rest

/-- The bits of a frame as they go out on the line (12 R192). -/
def lineBits (kindCode source : Nat) (payload : List Byte) (check : BitVec 16) : List Bool :=
  stuffFrom true 0 (plainBits kindCode source payload check)

/-- The line bits of a queued frame. -/
def QueuedFrame.bits (f : QueuedFrame) : List Bool := lineBits f.kind.code f.source.val f.payload f.check

/-- What the receiving side makes of the bits read so far. -/
inductive Verdict
  | incomplete
  | damaged
  | good (kindCode : Nat) (source : Station) (payload : List Byte)
  deriving DecidableEq, Repr

/-- The verdict on the frame bits taken so far, inserted bits removed, start bit first: a length field above 16 ends the
frame at once; the frame ends with its last check bit (01 R14, R15). -/
def verdictOf (bits : List Bool) : Verdict :=
  if bits.length < 15 then .incomplete
  else
    let len := numberOf ((bits.drop 10).take 5)
    if 16 < len then .damaged
    else if bits.length < 31 + 8 * len then .incomplete
    else
      let body := (bits.drop 1).take (14 + 8 * len)
      let check := (bits.drop (15 + 8 * len)).take 16
      if (crcOf body).toNat = numberOf check then
        .good (numberOf ((bits.drop 1).take 6)) (Fin.ofNat 8 (numberOf ((bits.drop 7).take 3)))
          (payloadOf len (bits.drop 15))
      else .damaged

/-- One line bit into the receiving side (01 R14, 12 R192): the frame begins at the first dominant bit after an idle
line, the bit after five equal bits is an inserted one and is dropped, and a sixth equal bit damages the frame. -/
def Reception.take (r : Reception) (b : Level) : Reception × Verdict :=
  match r with
  | .waiting => (.waiting, .incomplete)
  | .ready => if b then (.ready, .incomplete) else (.taking false 1 [false], .incomplete)
  | .taking last run bits =>
    if run = 5 then
      if b = last then (.waiting, .damaged) else (.taking b 1 bits, .incomplete)
    else
      let bits' := b :: bits
      match verdictOf bits'.reverse with
      | .incomplete => (.taking b (if b = last then run + 1 else 1) bits', .incomplete)
      | v => (.waiting, v)

/-- A run of line bits into the receiving side, with the verdict of the last bit. -/
def Reception.takeAll (r : Reception) : List Level → Reception × Verdict
  | [] => (r, .incomplete)
  | [b] => r.take b
  | b :: rest => Reception.takeAll (r.take b).1 rest

end Sys2Proof.Machine
end

