-- ==== Sys2Proof/Machine/Ops.lean ====
section
/-! DEFINITION. The named operations over the state that every block uses: reading the straps, the phase, the parameters
and the peer entries, and handing requests to the Fault Unit. -/

namespace Sys2Proof.Machine

/-- The parameters a block reads while no record is frozen. No rule reads one in phase UNCONFIGURED except the loss
fraction, which 05 R92 makes ineffective there (the loss estimate is 0). -/
def blankParams : Params where
  supervisor := 0
  statusInterval := 100
  ratedPower := 0
  maxPower := 0
  fallbackDemand := 0
  fallbackRamp := 1
  fallbackRun := false
  fallbackYaw := false
  stopRamp := 1
  prechargeTime := 0
  coolDown := 0
  derateStart := 0
  tripTemp := 0
  fanCapacity := 1
  lossFraction := 0
  flowGrace := 0
  dutyHours := 0
  counts := 0
  markPosition := 0
  twistLimit := 0
  untwistThreshold := 0
  untwistWind := 0
  startTwist := 0
  sectorCount := 0
  sector1Start := 0
  sector1Length := 0
  sector2Start := 0
  sector2Length := 0
  misalignment := 0
  overrunMargin := 0
  minDrives := 0
  holdoff := 0
  maskCritical := false
  maskMajor := false
  maskMinor := false
  maskInfo := false
  watermark := 32

/-- The own station number (02 R23). -/
def State.own (s : State) : Station := s.icu.straps.station

/-- Whether the phase is CONFIGURED (02 R24). -/
def State.configured (s : State) : Bool := s.icu.phase == .configured

/-- The frozen parameter record (02 R33). -/
def State.prm (s : State) : Params := s.icu.params.getD blankParams

/-- The period of the timers whose period is T_s: 100 ms in phase UNCONFIGURED (02 R24). -/
def State.period (s : State) : Nat := if s.configured then s.prm.statusInterval else 100

/-- The supervisor station, if one is named: none in phase UNCONFIGURED (02 R24, R33). -/
def State.supervisor (s : State) : Option Station := if s.configured then some s.prm.supervisor else none

/-- The peer entry of a station (03 R38). -/
def State.peer (s : State) (n : Station) : PeerEntry := s.ptb.entries[n]

/-- Replace the peer entry of a station. -/
def State.setPeer (s : State) (n : Station) (e : PeerEntry) : State :=
  { s with ptb := { s.ptb with entries := s.ptb.entries.set n e } }

/-- Hand the FLU a raise request (10 R166). The FLU takes it at `State.settle`. -/
def State.raise (s : State) (code : Code) (value : Int) (origin : Option Origin := none) : State :=
  { s with flu := { s.flu with inbox := s.flu.inbox ++ [.raised code value origin] } }

/-- Hand the FLU a clear request (10 R166). -/
def State.clear (s : State) (code : Code) : State :=
  { s with flu := { s.flu with inbox := s.flu.inbox ++ [.cleared code] } }

/-- Count one free value as drawn (log entry 10). -/
def State.drew (s : State) : State := { s with draws := s.draws + 1 }

/-- The set holding one station. -/
def stationBit (n : Station) : StationSet := 1#8 <<< n.val

/-- Whether a station is in a set. -/
def inSet (set : StationSet) (n : Station) : Bool := set.getLsbD n.val

/-- All station numbers, ascending. -/
def stations : List Station := [0, 1, 2, 3, 4, 5, 6, 7]

end Sys2Proof.Machine
end

