-- ==== Sys2Proof/Machine/Queue.lean ====
section
/-! DEFINITION. The transmit queue of the LIF: order of entry, send requests, displacement (01 R7 to R10). -/

namespace Sys2Proof.Machine

/-- The places of the transmit queue (01 section 1.3). -/
def queuePlaces : Nat := 8

/-- A new frame of the queue: the own number as source, the check computed at entry, attempt count 0 (01 R1, R5). -/
def State.newFrame (s : State) (kind : Kind) (payload : List Byte) : QueuedFrame where
  kind := kind
  source := s.own
  payload := payload
  check := frameCheck kind.code s.own.val payload
  attempts := 0
  transmitting := false

/-- Insert a frame behind every frame of a lower or equal kind code and in front of every frame of a higher one
(01 R7). -/
def insertFrame (f : QueuedFrame) : List QueuedFrame → List QueuedFrame
  | [] => [f]
  | g :: rest => if f.kind.code < g.kind.code then f :: g :: rest else g :: insertFrame f rest

/-- Whether a frame of the queue is in transmission (01 R2). -/
def Lif.transmits (l : Lif) : Bool := l.queue.any (·.transmitting)

/-- Begin the head of the queue if the line stands idle and no frame is in transmission (01 R2). -/
def Lif.beginIfIdle (l : Lif) : Lif :=
  match l.queue with
  | [] => l
  | f :: rest =>
    if l.lineIdle && !l.transmits then
      { l with queue := { f with transmitting := true } :: rest, lineIdle := false, sent := some 0 }
    else l

/-- Put a frame into the queue (01 R7), which begins the head at once on an idle line (01 R2). -/
def State.enqueue (s : State) (kind : Kind) (payload : List Byte) : State :=
  { s with lif := Lif.beginIfIdle { s.lif with queue := insertFrame (s.newFrame kind payload) s.lif.queue } }

/-- Whether the queue has a free place. -/
def State.hasPlace (s : State) : Bool := s.lif.queue.length < queuePlaces

/-- A send request of a kind that displaces nothing: taken while a place is free, else refused with FULL (01 R8). The
flag is `true` for ACCEPTED. -/
def State.request (s : State) (kind : Kind) (payload : List Byte) : State × Bool :=
  if s.hasPlace then (s.enqueue kind payload, true) else (s, false)

/-- Take out the last element of a list that passes a test. -/
def removeLast {α : Type} (p : α → Bool) : List α → Option (α × List α)
  | [] => none
  | x :: xs =>
    match removeLast p xs with
    | some (y, ys) => some (y, x :: ys)
    | none => if p x then some (x, xs) else none

/-- Take out the first element of a list that passes a test. -/
def removeFirst {α : Type} (p : α → Bool) : List α → Option (α × List α)
  | [] => none
  | x :: xs =>
    if p x then some (x, xs)
    else
      match removeFirst p xs with
      | some (y, ys) => some (y, x :: ys)
      | none => none

/-- Whether a frame may be displaced by a frame of a kind: not in transmission, of a higher kind code (01 R10). -/
def displaceable (kind : Kind) (f : QueuedFrame) : Bool := !f.transmitting && kind.code < f.kind.code

/-- The frame displaced by a new frame of a kind, and the queue without it: the youngest of the highest kind code among
the displaceable frames (01 R10). Within one kind the queue stands oldest first, so the youngest is the last. -/
def displaced (kind : Kind) (queue : List QueuedFrame) : Option (QueuedFrame × List QueuedFrame) :=
  let highest := (queue.filter (displaceable kind)).foldl (fun m f => max m f.kind.code) 0
  removeLast (fun f => displaceable kind f && f.kind.code == highest) queue

/-- Bring the record of blocks holding refused requests up to what each block holds (01 R8). -/
def State.noteHolders (s : State) : State :=
  { s with lif := { s.lif with holders :=
    { stc := s.stc.heldTrip.isSome, ywc := !s.ywc.held.isEmpty, clc := s.clc.heldPump.isSome,
      flu := !s.flu.held.isEmpty } } }

end Sys2Proof.Machine
end

