-- ==== Sys2Proof/Machine/Announce.lean ====
section
/-! DEFINITION. Fault announcement (11): selection, FAULT_NOTICE requests, completion and discard notices, the supervisor
flag and acknowledgment. -/

namespace Sys2Proof.Machine

/-- The repeat timer of a class (11 R186). -/
def Repeats.timer (r : Repeats) : FaultClass → Timer
  | .critical => r.critical
  | .major => r.major
  | .minor => r.minor
  | .info => r.info

/-- Set the repeat timer of a class. -/
def Repeats.put (r : Repeats) (t : Timer) : FaultClass → Repeats
  | .critical => { r with critical := t }
  | .major => { r with major := t }
  | .minor => { r with minor := t }
  | .info => { r with info := t }

/-- The period of a notice repeat timer: 10 s (11 R186). -/
def repeatPeriod : Nat := 10000

/-- The entry of a number, if the log holds it. -/
def entryNumbered (n : Nat) (log : List Entry) : Option Entry := log.find? (fun e => e.number == n)

/-- The log with the report of one entry moved (11 R182). -/
def setReport (n : Nat) (r : Report) (log : List Entry) : List Entry :=
  log.map (fun e => if e.number = n then { e with report := r } else e)

/-- The count of entries whose report is not ACKED (10 R179). -/
def unackedCount (log : List Entry) : Nat := (log.filter (fun e => e.report != .acked)).length

/-- The log watermark: 32 in phase UNCONFIGURED (10 R179). -/
def State.watermark (s : State) : Nat := if s.configured then s.prm.watermark else 32

/-- Test the log pressure flag again (10 R179). -/
def State.testPressure (s : State) : State :=
  { s with flu := { s.flu with pressure := decide (s.watermark ≤ unackedCount s.flu.log) } }

/-- Request a FAULT_NOTICE for an entry with its fields as they stand; a refused request is held, at most one a class
(11 R185). A request held for another entry of the class, which is then no longer IN_SERVICE, gives way to it (log entry
29). A request already held for the same entry, known by number and class (log entry 41), keeps its place in the held order: the
model's choice (log entry 39). -/
def State.requestNotice (s : State) (e : Entry) : State :=
  let r := s.request .faultNotice (encodeNotice e)
  let t := r.1
  if r.2 || t.flu.held.any (fun h => h.number == e.number && h.cls == e.cls) then t
  else
    let others := t.flu.held.filter (fun h => h.cls != e.cls)
    State.noteHolders { t with flu := { t.flu with held := others ++ [HeldNotice.mk e.number e.cls] } }

/-- Announce an entry: IN_SERVICE, and a FAULT_NOTICE requested (11 R185). -/
def State.announce (s : State) (e : Entry) : State :=
  State.requestNotice { s with flu := { s.flu with log := setReport e.number .inService s.flu.log } } e

/-- The most urgent class that holds at least one PENDING entry (11 R184). -/
def pendingClass (log : List Entry) : Option FaultClass :=
  [FaultClass.critical, .major, .minor, .info].find?
    (fun c => log.any (fun e => e.report == .pending && e.cls == c))

/-- The entry that selection announces: the oldest PENDING entry of the most urgent class waiting, if no entry of that
class or of a more urgent one is IN_SERVICE (11 R184). -/
def selected (log : List Entry) : Option Entry :=
  match pendingClass log with
  | none => none
  | some c =>
    if log.any (fun e => e.report == .inService && classRank e.cls ≤ classRank c) then none
    else log.find? (fun e => e.report == .pending && e.cls == c)

/-- Selection, made only while the supervisor flag is present (11 R184). -/
def State.select (s : State) : State :=
  if s.flu.supervisor then
    match selected s.flu.log with
    | some e => s.announce e
    | none => s
  else s

/-- Whether the log holds an entry of a number IN_SERVICE, and which. -/
def State.inService (s : State) (n : Nat) : Option Entry :=
  match entryNumbered n s.flu.log with
  | some e => if e.report = .inService then some e else none
  | none => none

/-- Stop the repeat timer of a class. -/
def State.stopRepeat (s : State) (c : FaultClass) : State :=
  { s with flu := { s.flu with repeats := s.flu.repeats.put none c } }

/-- Drop a held FAULT_NOTICE request that names an entry, by its number alone (log entry 41). -/
def State.dropHeldNotice (s : State) (n : Nat) : State :=
  State.noteHolders { s with flu := { s.flu with held := s.flu.held.filter (fun h => h.number != n) } }

/-- A completion notice for a FAULT_NOTICE (11 R186). The entry is found by its number alone, also where the wrap of 10
R173 has given the number to a newer entry: the model's choice (log entry 35). -/
def State.noticeCompleted (s : State) (n : Nat) : State :=
  match s.inService n with
  | some e => { s with flu := { s.flu with repeats := s.flu.repeats.put (some repeatPeriod) e.cls } }
  | none => s

/-- A discard notice for a FAULT_NOTICE (11 R187). The entry is found by its number alone, as at a completion notice: the
model's choice (log entry 35). -/
def State.noticeDiscarded (s : State) (n : Nat) : State :=
  match s.inService n with
  | some e =>
    let t := s.stopRepeat e.cls
    State.select { t with flu := { t.flu with log := setReport n .pending t.flu.log } }
  | none => s

/-- The FLU takes every IN_SERVICE entry back to PENDING, stops every repeat timer and drops every held request
(11 R188). -/
def Flu.outOfService (f : Flu) : Flu :=
  { f with
    log := f.log.map (fun e => if e.report = .inService then { e with report := .pending } else e)
    repeats := { critical := none, major := none, minor := none, info := none }
    held := [] }

/-- A supervisor indication (11 R183, R188). One that repeats the flag's value changes nothing. -/
def State.supervisorIndication (s : State) (present : Bool) : State :=
  if present = s.flu.supervisor then s
  else if present then State.select { s with flu := { s.flu with supervisor := true } }
  else State.noteHolders { s with flu := { s.flu.outOfService with supervisor := false } }

/-- Whether a FAULT_ACK sets an entry ACKED (11 R189). -/
def ackedBy (order : AckOrder) (e : Entry) : Bool :=
  e.report != .acked &&
    match order with
    | .one n => e.number == n
    | .ofClass c => e.cls == c
    | .all => true

/-- Free the classes whose IN_SERVICE entries have become ACKED: stop the timer, drop the held request (11 R190). -/
def State.freeClasses (s : State) : List Entry → State
  | [] => s
  | e :: rest => State.freeClasses ((s.stopRepeat e.cls).dropHeldNotice e.number) rest

/-- A FAULT_ACK that names this station (11 R189, R190). -/
def State.acknowledge (s : State) (order : AckOrder) : State :=
  let freed := s.flu.log.filter (fun e => ackedBy order e && e.report == .inService)
  let log := s.flu.log.map (fun e => if ackedBy order e then { e with report := .acked } else e)
  let t := (State.freeClasses { s with flu := { s.flu with log := log } } freed).testPressure
  if freed.isEmpty then t else t.select

/-- The request naming what a frame's requester does when the frame left the queue without going out whole: only the FLU
acts on the notice (01 R11). -/
def State.discardNotice (s : State) (f : QueuedFrame) : State :=
  match f.kind, noticeNumber f.payload with
  | .faultNotice, some n => s.noticeDiscarded n
  | _, _ => s

/-- What a frame's requester does when the frame went out whole: only the FLU acts (04 R73, 08 R134, 11 R186). -/
def State.completionNotice (s : State) (f : QueuedFrame) : State :=
  match f.kind, noticeNumber f.payload with
  | .faultNotice, some n => s.noticeCompleted n
  | _, _ => s

/-! ## The place-free indication (01 R9) -/

/-- Whether the YWC keeps a held request: its ref is still that of the record or of the move record (07 R130). -/
def Ywc.keepsHeld (y : Ywc) (h : HeldYaw) : Bool :=
  (match y.proposal with
    | some r => r.ref == h.ref
    | none => false) ||
  (match y.move with
    | some m => m.ref == h.ref
    | none => false)

/-- Before an offer the YWC and the FLU drop what their rules make obsolete (07 R130, 11 R185). A held FAULT_NOTICE request
is tied to its entry by number alone, also where the wrap of 10 R173 has given the number to a newer entry: the model's
choice (log entry 41). -/
def State.dropStaleHeld (s : State) : State :=
  { s with
    ywc := { s.ywc with held := s.ywc.held.filter s.ywc.keepsHeld }
    flu := { s.flu with held := s.flu.held.filter (fun h => (s.inService h.number).isSome) } }

/-- The STC's held TRIP_NOTICE is offered (04 R73). -/
def State.offerTrip (s : State) : State :=
  match s.stc.heldTrip with
  | some p =>
    let r := s.request .tripNotice p
    let t := r.1
    if r.2 then { t with stc := { t.stc with heldTrip := none } } else t
  | none => s

/-- The YWC's held requests of one kind are offered, oldest first (07 R130). -/
def State.offerYaw (s : State) (kind : Kind) : List HeldYaw → State
  | [] => { s with ywc := { s.ywc with held := [] } }
  | h :: rest =>
    if h.kind = kind && s.hasPlace then State.offerYaw (s.enqueue kind h.payload) kind rest
    else
      let t := State.offerYaw s kind rest
      { t with ywc := { t.ywc with held := h :: t.ywc.held } }

/-- The CLC's held PUMP_STATE is offered (08 R134). -/
def State.offerPump (s : State) : State :=
  match s.clc.heldPump with
  | some p =>
    let r := s.request .pumpState p
    let t := r.1
    if r.2 then { t with clc := { t.clc with heldPump := none } } else t
  | none => s

/-- Whether the queue holds a STATUS (01 R12). -/
def Lif.hasStatus (l : Lif) : Bool := l.queue.any (fun f => f.kind == .status)

/-- The STATUS place is offered, unless the queue still holds a STATUS, of which it holds at most one (01 R9, R12). -/
def State.offerStatus (s : State) : State :=
  match s.lif.statusPlace with
  | some p =>
    if s.lif.hasStatus then s
    else
      let r := s.request .status p
      let t := r.1
      if r.2 then { t with lif := { t.lif with statusPlace := none } } else t
  | none => s

/-- The FLU's held requests are offered oldest first, each payload formed afresh from its entry (11 R185). -/
def State.offerNotices (s : State) : List HeldNotice → State
  | [] => { s with flu := { s.flu with held := [] } }
  | h :: rest =>
    match entryNumbered h.number s.flu.log with
    | some e =>
      if s.hasPlace then State.offerNotices (s.enqueue .faultNotice (encodeNotice e)) rest
      else
        let t := State.offerNotices s rest
        { t with flu := { t.flu with held := h :: t.flu.held } }
    | none => State.offerNotices s rest

/-- The place-free indication: the recorded blocks and the STATUS place offer again, and the LIF takes the requests in
ascending kind code into the free places (01 R9). -/
def State.placeFree (s : State) : State :=
  let s1 := s.dropStaleHeld.offerTrip
  let s2 := s1.offerYaw .yawHalt s1.ywc.held
  let s3 := s2.offerYaw .yawPropose s2.ywc.held
  let s4 := s3.offerYaw .yawAnswer s3.ywc.held
  let s5 := s4.offerYaw .yawCommit s4.ywc.held
  let s6 := s5.offerYaw .yawDrive s5.ywc.held
  let s7 := s6.offerPump.offerStatus
  (s7.offerNotices s7.flu.held).noteHolders

/-- A TRIP_NOTICE or YAW_HALT request: on a full queue it displaces one frame to make its place (01 R10). The displaced
frame's requester has its notice once the new frame stands in the queue, as the worked sequence of 01 shows, and the
place-free indication then finds no free place (log entry 21). The notice is worked at once, also where the request comes
from within a raise that the FLU is taking: the model's choice (log entry 36). The flag is `true` for ACCEPTED. -/
def State.requestUrgent (s : State) (kind : Kind) (payload : List Byte) : State × Bool :=
  if s.hasPlace then (s.enqueue kind payload, true)
  else
    match displaced kind s.lif.queue with
    | some (f, rest) =>
      let t := State.enqueue { s with lif := { s.lif with queue := rest } } kind payload
      ((t.discardNotice f).placeFree, true)
    | none => (s, false)

end Sys2Proof.Machine
end

