-- ==== Sys2Proof/Machine/Flags.lean ====
section
/-! DEFINITION. Flags and values that are formed from the state and not stored: the effective values of the PTB, the
choice of peers, the loop's running pumps, eligibility to propose, the string's active states. -/

namespace Sys2Proof.Machine

/-! ## The Peer Table's readers (03) -/

/-- Whether the demand record is used as current (03 R48). -/
def State.demandFresh (s : State) : Bool := s.ptb.demand.fresh

/-- The effective demand (03 R49, 05 R85). -/
def State.effectiveDemand (s : State) : Nat :=
  if s.configured then (if s.demandFresh then s.ptb.demand.power else s.prm.fallbackDemand) else 0

/-- The effective ramp (03 R49). -/
def State.effectiveRamp (s : State) : Nat :=
  if s.configured then (if s.demandFresh then s.ptb.demand.ramp else s.prm.fallbackRamp) else 1

/-- The effective run permit (03 R49). -/
def State.effectiveRun (s : State) : Bool :=
  s.configured && (if s.demandFresh then s.ptb.demand.run else s.prm.fallbackRun)

/-- The effective yaw permit (03 R49). -/
def State.effectiveYaw (s : State) : Bool :=
  s.configured && (if s.demandFresh then s.ptb.demand.yaw else s.prm.fallbackYaw)

/-- The wind speed the PTB presents: none while the record is stale (03 R51). -/
def State.windSpeed (s : State) : Option Nat := if s.ptb.wind.fresh then some s.ptb.wind.speed else none

/-- The record of a PRESENT NT44 peer, if it is CURRENT (03 section 3.1); the own index is never read (R38). -/
def State.peerShowing (s : State) (n : Station) : Option StatusRecord :=
  if n = s.own then none
  else
    let e := s.peer n
    if e.presence = .present ∧ e.seen = .nt44 ∧ e.standing = .current then e.record else none

/-- The PRESENT NT44 peers with CURRENT records, in ascending station number. -/
def State.showing (s : State) : List (Station × StatusRecord) :=
  stations.filterMap (fun n =>
    match s.peerShowing n with
    | some r => some (n, r)
    | none => none)

/-- The peers that count as in RUN: their record shows RUN and their tripped override is clear (03 R45, 05 R87,
09 R157). -/
def State.runningPeers (s : State) : List (Station × StatusRecord) :=
  s.showing.filter (fun p => p.2.stringState == .run && !(s.peer p.1).tripped)

/-- Whether a station's entry is PRESENT. -/
def State.isPresent (s : State) (n : Station) : Bool := (s.peer n).presence == .present

/-! ## String states (04) -/

/-- The active states (04 R55). -/
def StringState.isActive : StringState → Bool
  | .precharge | .sync | .run | .stopping => true
  | .off | .tripped | .locked => false

/-- The states whose main contactor command and modulator enable are on (04 R55). -/
def StringState.isClosed : StringState → Bool
  | .sync | .run | .stopping => true
  | .off | .precharge | .tripped | .locked => false

/-! ## Yaw (06, 07) -/

/-- Eligibility to propose: the conjunction of 06 R102. -/
def State.eligible (s : State) : Bool :=
  s.configured && decide (0 < s.icu.straps.drives) && s.ywc.referenced && s.ywc.known && !s.ywc.lock
    && !s.ywc.disagree && (s.ywc.participant == .idle) && s.ywc.proposal.isNone && s.ywc.holdoffTimer.isNone
    && s.ywc.permit

/-- The states whose brake release output is on (07 R111). -/
def Participant.holdsRelease : Participant → Bool
  | .releasing | .released | .driving | .stopping => true
  | .idle | .answered | .braking => false

/-- The counting modulus: 16,384 while the copy is none (06 R97). -/
def State.modulus (s : State) : Nat :=
  match s.ywc.turn with
  | some t => t.modulus
  | none => 16384

/-! ## The coolant loop (08) -/

/-- The owner states whose pump output is on (08 R133). -/
def PumpOwner.runsPump : PumpOwner → Bool
  | .starting | .running | .handingOff => true
  | .noPump | .standby | .failed => false

/-- The own pump, at an owner (08 R133). -/
def State.ownPump (s : State) : Option Pump :=
  match s.icu.straps.pumpRole with
  | .noRole => none
  | .a => some .a
  | .b => some .b

/-- The other pump of the loop. -/
def Pump.other : Pump → Pump
  | .a => .b
  | .b => .a

/-- The loop view's entry for a pump. -/
def Clc.view (c : Clc) : Pump → PumpView
  | .a => c.viewA
  | .b => c.viewB

/-- The reported state of a pump: the own owner state stands for the own pump (08 R135). -/
def State.reported (s : State) (p : Pump) : Reported :=
  if s.ownPump = some p then .shown s.clc.owner else (s.clc.view p).reported

/-- Whether the reported owner of a pump is PRESENT (08 R136). -/
def State.ownerPresent (s : State) (p : Pump) : Bool :=
  match (s.clc.view p).owner with
  | some n => s.isPresent n
  | none => false

/-- Whether a pump counts as running (08 R136). -/
def State.countsRunning (s : State) (p : Pump) : Bool :=
  let turning := s.reported p == .shown .running || s.reported p == .shown .handingOff
  turning && (s.ownPump == some p || s.ownerPresent p)

/-- Whether any pump counts as running. -/
def State.anyRunning (s : State) : Bool := s.countsRunning .a || s.countsRunning .b

/-- The number of pumps FAILED in the loop view, 0 to 2 (08 R147). -/
def State.pumpsFailed (s : State) : Nat :=
  bitOf (s.reported .a == .shown .failed) + bitOf (s.reported .b == .shown .failed)

/-! ## Fans (09) -/

/-- Whether the station owns a fan bank (09 R155). -/
def State.ownsFans (s : State) : Bool := s.icu.straps.fanRole != .noRole

end Sys2Proof.Machine
end

