-- ==== Sys2Proof/Machine/Sharing.lean ====
section
/-! DEFINITION. Power sharing arithmetic (05): the parts of the limit, the capped equal share, the ramp, the loss
estimate. Pure functions; the string controller says when they act. -/

namespace Sys2Proof.Machine

/-- R_div: the floor of R / 2^e (05 R80). -/
def rDiv (rated e : Nat) : Nat := rated / 2 ^ e

/-- D_therm from the kept voted temperature, by the first row that applies (05 R81). -/
def dTherm (rated start trip : Nat) : Option Int → Nat
  | none => 0
  | some theta =>
    if theta ≤ (start : Int) then rated
    else if (trip : Int) ≤ theta then 0
    else rated * ((trip : Int) - theta).toNat / (trip - start)

/-- D_flow (05 R82). -/
def dFlow (rated : Nat) : FlowState → Nat
  | .flowLost => 0
  | .flowOk | .flowGrace => rated

/-- The three parts of the limit (05 R79). -/
def limitParts (p : Params) (e : Nat) (theta : Option Int) (flow : FlowState) : LimitParts where
  rDiv := rDiv p.ratedPower e
  dTherm := dTherm p.ratedPower p.derateStart p.tripTemp theta
  dFlow := dFlow p.ratedPower flow

/-- L, the least of the three parts (05 R79). -/
def LimitParts.least (l : LimitParts) : Nat := min l.rDiv (min l.dTherm l.dFlow)

/-- The ramp step: the larger of 1 and the floor of ramp times T_s / 1000 (05 R91, 04 R65). -/
def rampStep (ramp interval : Nat) : Nat := max 1 (ramp * interval / 1000)

/-- The setpoint after one round: a step toward the target and never past it, capped at L (05 R91). -/
def ramped (setpoint target step limit : Nat) : Nat :=
  let moved :=
    if setpoint < target then min target (setpoint + step)
    else if target < setpoint then max target (setpoint - step)
    else setpoint
  min moved limit

/-- The loss estimate: the floor of s times the loss fraction / 1000 (05 R92). -/
def lossOf (setpoint fraction : Nat) : Nat := setpoint * fraction / 1000

/-- A participant of a share round: station number and limit (05 R87). -/
structure Sharer where
  station : Nat
  limit : Nat
  deriving DecidableEq, Repr

/-- A participant's allocation. -/
structure Share where
  station : Nat
  power : Nat
  deriving DecidableEq, Repr

/-- The order of the walk: ascending limit, then ascending station number (05 R88). -/
def Sharer.before (x y : Sharer) : Bool := x.limit < y.limit || (x.limit == y.limit && x.station < y.station)

/-- Insert a participant in the order of the walk. -/
def insertSharer (x : Sharer) : List Sharer → List Sharer
  | [] => [x]
  | y :: ys => if x.before y then x :: y :: ys else y :: insertSharer x ys

/-- The participants in the order of the walk (05 R88). -/
def walkOrder : List Sharer → List Sharer
  | [] => []
  | x :: xs => insertSharer x (walkOrder xs)

/-- The division among the participants not served: q each, and one more to the r lowest station numbers among them
(05 R89). -/
def divideRest (rm k : Nat) (unserved : List Sharer) : List Share :=
  let q := rm / k
  let r := rm - q * k
  unserved.map (fun x =>
    { station := x.station
      power := if (unserved.filter (fun y => decide (y.station < x.station))).length < r then q + 1 else q })

/-- The walk (05 R88): a participant whose limit times k is at most Rm receives its limit; otherwise the walk stops and
the rest is divided. -/
def walk (rm k : Nat) : List Sharer → List Share
  | [] => []
  | x :: xs =>
    if x.limit * k ≤ rm then { station := x.station, power := x.limit } :: walk (rm - x.limit) (k - 1) xs
    else divideRest rm k (x :: xs)

/-- The sum of the participants' limits (05 R88). -/
def limitSum (xs : List Sharer) : Nat := (xs.map (·.limit)).sum

/-- The allocation of a share round (05 R88, R89). -/
def allocate (demand : Nat) (xs : List Sharer) : List Share :=
  walk (min demand (limitSum xs)) xs.length (walkOrder xs)

/-- The share that a station has in an allocation. -/
def shareOf (station : Nat) (shares : List Share) : Nat :=
  match shares.find? (fun x => x.station == station) with
  | some x => x.power
  | none => 0

end Sys2Proof.Machine
end

