-- ==== Sys2Proof/Machine/StringControl.lean ====
section
/-! DEFINITION. The String Controller's shared operations (04, 05): driving the string's outputs, the trip, the start of
the string, the limit and its changes, and the share round. Raises are handed to the FLU with `State.raise`. -/

namespace Sys2Proof.Machine

/-- The period of the sync timer: 5 s (04 R60). -/
def syncPeriod : Nat := 5000

/-- The period of the zero-limit hold timer: 30 s (04 R64). -/
def zeroHoldPeriod : Nat := 30000

/-- The period of the contactor check timer: 200 ms (04 R71). -/
def contactorPeriod : Nat := 200

/-- The contactor check after the command or the feedback may have changed: the timer starts when the two go from
agreeing to disagreeing and stops when they agree (04 R71). -/
def contactorCheck (agreed agrees : Bool) (t : Timer) : Timer :=
  if agrees then none else if agreed then some contactorPeriod else t

/-- Move the string to a state with the three plant commands of 04 R55; outside RUN the target is 0 (05 R90); a change of
the main contactor command enters the contactor check (04 R71). -/
def State.setString (s : State) (st : StringState) : State :=
  { s with stc := { s.stc with
    state := st
    prechargeCommand := st == .precharge
    mainCommand := st.isClosed
    enable := st.isClosed
    target := if st = .run then s.stc.target else 0
    contactorTimer := contactorCheck (s.stc.mainCommand == s.levels.contactorClosed)
      (st.isClosed == s.levels.contactorClosed) s.stc.contactorTimer } }

/-- Set the setpoint; the loss estimate is formed again with it (05 R92). -/
def State.setSetpoint (s : State) (v : Nat) : State :=
  { s with stc := { s.stc with setpoint := v, loss := lossOf v s.prm.lossFraction } }

/-- The link word: enable in bit 15, setpoint in bits 12 to 0 (12 R195). -/
def linkWord (enable : Bool) (setpoint : Nat) : BitVec 16 := BitVec.ofBool enable ++ 0#2 ++ BitVec.ofNat 13 setpoint

/-- Send one link update with the enable and the setpoint as they stand (04 R57). -/
def State.sendLink (s : State) : State :=
  { s with stc := { s.stc with link := linkWord s.stc.enable s.stc.setpoint, linkSends := s.stc.linkSends + 1 } }

/-- Move the string to a state with a setpoint, and send a link update if the enable or the setpoint has changed
(04 R57). -/
def State.drive (s : State) (st : StringState) (v : Nat) : State :=
  let t := (s.setString st).setSetpoint v
  if t.stc.enable = s.stc.enable ∧ t.stc.setpoint = s.stc.setpoint then t else t.sendLink

/-! ## The trip -/

/-- The times of the history that remain at a trip, and the new time (04 R67). -/
def tripHistory (now : Nat) (history : List Nat) : List Nat := history.filter (fun t => now - t ≤ 600) ++ [now]

/-- The seconds from the oldest to the newest time of a history (04 R68). -/
def historySpan (history : List Nat) : Nat := history.getLastD 0 - history.headD 0

/-- Request a TRIP_NOTICE; the STC holds it if the LIF answers FULL (04 R73). -/
def State.requestTrip (s : State) (cause : TripCause) : State :=
  let payload := encodeTrip cause s.stc.state
  let r := s.requestUrgent .tripNotice payload
  let t := r.1
  if r.2 then t else State.noteHolders { t with stc := { t.stc with heldTrip := some payload } }

/-- Raise the code of a trip cause, if it has one (04 R66). -/
def State.raiseCause (s : State) : Option (Code × Int) → State
  | some (code, value) => s.raise code value
  | none => s

/-- A trip, in the order of 04 R68. It is taken only in an active state (04 R66). -/
def State.trip (s : State) (cause : TripCause) (raised : Option (Code × Int)) : State :=
  if s.stc.state.isActive then
    let history := tripHistory s.flu.seconds s.stc.history
    let locks := decide (3 ≤ history.length)
    let next := if locks then StringState.locked else .tripped
    let opened := ((s.setString next).setSetpoint 0).sendLink
    let stopped : State :=
      { opened with stc := { opened.stc with
        prechargeTimer := none
        syncTimer := none
        zeroHoldTimer := none
        history := history
        coolDownTimer := if locks then opened.stc.coolDownTimer else some (s.prm.coolDown * 1000) } }
    let told := (stopped.requestTrip cause).raiseCause raised
    if locks then told.raise .repeatedTrips (historySpan history) else told
  else s

/-! ## Starting the string -/

/-- Entry to RUN: the sync timer stops, the setpoint stays 0, and the zero-limit test is made (04 R62, R64). -/
def State.enterRun (s : State) : State :=
  let t := s.setString .run
  { t with stc := { t.stc with
    syncTimer := none
    zeroHoldTimer := if t.stc.limit = 0 then some zeroHoldPeriod else none } }

/-- Entry to SYNC with one link update, and the entry test of 04 R62 (04 R60). -/
def State.enterSync (s : State) : State :=
  let d := s.drive .sync 0
  let t : State := { d with stc := { d.stc with prechargeTimer := none, syncTimer := some syncPeriod } }
  if t.levels.gridSync then t.enterRun else t

/-- The trip of the modulator fault feedback: its value is s before the trip (04 R66, R70). -/
def State.modulatorTrip (s : State) : State :=
  s.trip .modulatorFault (some (.modulatorFault, s.stc.setpoint))

/-- Entry to PRECHARGE and its entry tests, that of R60 and then that of R70 (04 R58, R60, R70; log entry 14). -/
def State.enterPrecharge (s : State) : State :=
  let d := s.setString .precharge
  let t : State := { d with stc := { d.stc with prechargeTimer := some s.prm.prechargeTime } }
  let u := if t.levels.dcLink then t.enterSync else t
  if u.levels.modulatorFault then u.modulatorTrip else u

/-- The five start conditions (04 R58). -/
def State.mayStart (s : State) : Bool :=
  s.configured && s.stc.permit && (s.stc.flow == .flowOk) && decide (0 < s.stc.limit) && !s.stc.latch

/-- The start test, made while the string is OFF (04 R58). -/
def State.startTest (s : State) : State :=
  if s.stc.state = .off ∧ s.mayStart = true then s.enterPrecharge else s

/-- Entry to OFF, where the start conditions are tested at once (04 R58). -/
def State.enterOff (s : State) : State := (s.drive .off 0).startTest

/-! ## The limit -/

/-- The cut of s to L (05 R83), in every string state. -/
def State.cutSetpoint (s : State) : State :=
  if s.stc.limit < s.stc.setpoint then (s.setSetpoint s.stc.limit).sendLink else s

/-- How the string responds to a new L: the start test in OFF, the zero-limit hold in RUN (04 R58, R64; 05 R79). -/
def State.respondToLimit (s : State) : State :=
  match s.stc.state with
  | .off => s.startTest
  | .run =>
    { s with stc := { s.stc with
      zeroHoldTimer := if s.stc.limit = 0 then some zeroHoldPeriod else none } }
  | .precharge | .sync | .stopping | .tripped | .locked => s

/-- Form the three parts and L again; a change of L cuts s and then reaches the string (05 R79). In phase UNCONFIGURED
the parts are not formed and L is 0. -/
def State.formLimit (s : State) : State :=
  if s.configured then
    let parts := limitParts s.prm s.stc.exponent s.stc.theta s.stc.flow
    let t : State := { s with stc := { s.stc with parts := some parts, limit := parts.least } }
    if parts.least = s.stc.limit then t else t.cutSetpoint.respondToLimit
  else s

/-! ## Indications given to the STC -/

/-- A derate indication (05 R78, 10 R168). -/
def State.stcDerate (s : State) (e : Nat) : State :=
  State.formLimit { s with stc := { s.stc with exponent := e } }

/-- A flow indication: the limit is formed again and, in OFF, the start conditions are tested (04 R58, 05 R79). -/
def State.stcFlow (s : State) (f : FlowState) : State :=
  (State.formLimit { s with stc := { s.stc with flow := f } }).startTest

/-- The temperature test (04 R69), made while the phase is CONFIGURED. -/
def State.tempTest (s : State) (theta : Option Int) : State :=
  match theta with
  | none => s
  | some v =>
    if s.configured then
      if (s.prm.tripTemp : Int) ≤ v then
        let t := s.trip .overtemp none
        if t.stc.overtemp then t
        else State.raise { t with stc := { t.stc with overtemp := true } } .overtemp v
      else if s.stc.overtemp then State.clear { s with stc := { s.stc with overtemp := false } } .overtemp
      else s
    else s

/-- A voted temperature given to the STC: the limit first, then the temperature test (05 R78, R79; 04 R69; log
entry 15). -/
def State.stcTheta (s : State) (theta : Option Int) : State :=
  (State.formLimit { s with stc := { s.stc with theta := theta } }).tempTest theta

/-- A run-permit indication (04 R58, R61, R63, R65). -/
def State.stcPermit (s : State) (permit : Bool) : State :=
  let t : State := { s with stc := { s.stc with permit := permit } }
  match permit, t.stc.state with
  | _, .off => t.startTest
  | false, .precharge => State.enterOff { t with stc := { t.stc with prechargeTimer := none } }
  | false, .sync => State.drive { t with stc := { t.stc with syncTimer := none } } .stopping 0
  | false, .run => State.drive { t with stc := { t.stc with zeroHoldTimer := none } } .stopping t.stc.setpoint
  | _, _ => t

/-- A trip request from the FLU (04 R72). -/
def State.stcTripRequest (s : State) : State := s.trip .faultAction none

/-- The string-latch indication coming on (04 R59, R72). -/
def State.stcLatchOn (s : State) : State :=
  let t : State := { s with stc := { s.stc with latch := true } }
  if t.stc.state.isActive then t.trip .stringLatch none
  else if t.stc.state = .off ∧ t.configured = true then t.drive .locked 0
  else t

/-- A string-latch indication. It goes off only at a reset (10 R169). -/
def State.stcLatch (s : State) (on : Bool) : State :=
  if on then s.stcLatchOn else { s with stc := { s.stc with latch := false } }

/-- The configured indication at the STC: the share round timer, L, LOCKED for a latched string in OFF, and the start
test (04 R58, R59, R63; 05 R79). -/
def State.stcConfigured (s : State) : State :=
  let t := State.formLimit { s with stc := { s.stc with shareTimer := some s.period } }
  if t.stc.state = .off ∧ t.stc.latch = true then t.drive .locked 0 else t.startTest

/-! ## The share round -/

/-- The participants of a share round: the own station and the running peers, each with its limit (05 R87). -/
def State.sharers (s : State) : List Sharer :=
  { station := s.own.val, limit := s.stc.limit } ::
    s.runningPeers.map (fun p => { station := p.1.val, limit := p.2.limit })

/-- A share round in RUN: the own share of the allocation is the target, and s moves toward it (05 R86 to R91). -/
def State.shareInRun (s : State) : State :=
  let target := shareOf s.own.val (allocate s.effectiveDemand s.sharers)
  let next := ramped s.stc.setpoint target (rampStep s.effectiveRamp s.period) s.stc.limit
  let t := State.setSetpoint { s with stc := { s.stc with target := target } } next
  if next = s.stc.setpoint then t else t.sendLink

/-- A share round in STOPPING: s falls by the stop ramp step, and at 0 the stop completes (04 R65). -/
def State.shareInStopping (s : State) : State :=
  if s.stc.setpoint = 0 then s.enterOff
  else
    let t := (s.setSetpoint (s.stc.setpoint - rampStep s.prm.stopRamp s.period)).sendLink
    if t.stc.setpoint = 0 then t.enterOff else t

/-- A share round by string state; the loss estimate is formed again in every state (04 R63, 05 R92). -/
def State.shareRound (s : State) : State :=
  match s.stc.state with
  | .run => s.shareInRun
  | .stopping => s.shareInStopping
  | .off | .precharge | .sync | .tripped | .locked => s.setSetpoint s.stc.setpoint

end Sys2Proof.Machine
end

