-- ==== Sys2Proof/Machine/Coolant.lean ====
section
/-! DEFINITION. The Coolant Controller's shared operations (08, 09): the pump owner, the loop view and its tests, the flow
state, the temperature vote, the fan bank. -/

namespace Sys2Proof.Machine

/-! ## The pump owner (08) -/

/-- Move the pump owner to a state; the pump output is that of 08 R133's table, the timers that run only in another
state stop, and the incoming flag is cleared at entry to STANDBY and FAILED (08 R145). -/
def State.setOwner (s : State) (o : PumpOwner) : State :=
  { s with clc := { s.clc with
    owner := o
    pumpOutput := o.runsPump
    startHold := if o = .standby then s.clc.startHold else none
    confirmTimer := if o = .starting then some 10000 else none
    dutyTimer := if o = .running then some 60000 else none
    handoffTimer := if o = .handingOff then some 11000 else none
    incoming := if o = .standby ∨ o = .failed then false else s.clc.incoming } }

/-- Request PUMP_STATE with the owner state and duty counter as they stand; a refused request replaces the held one
(08 R134). -/
def State.requestPump (s : State) : State :=
  match s.ownPump with
  | some p =>
    let payload := encodePump p s.clc.owner s.clc.duty
    let r := s.request .pumpState payload
    let t := r.1
    State.noteHolders { t with clc := { t.clc with heldPump := if r.2 then none else some payload } }
  | none => s

/-- A change of the owner state with its PUMP_STATE (08 R134). -/
def State.changeOwner (s : State) (o : PumpOwner) : State := (s.setOwner o).requestPump

/-- Load the duty counter with the pump duty period in minutes (08 R140). -/
def State.loadDuty (s : State) : State := { s with clc := { s.clc with duty := 60 * s.prm.dutyHours } }

/-- Entry to RUNNING with a freshly loaded duty counter (08 R140, R144). -/
def State.enterRunning (s : State) : State := s.loadDuty.changeOwner .running

/-- Entry to STARTING; a flow switch that already shows flow is taken at once (08 R140). -/
def State.enterStarting (s : State) : State :=
  let t := s.changeOwner .starting
  if t.levels.flow then t.enterRunning else t

/-- Whether a start is allowed: STANDBY, phase CONFIGURED, pump-latch off (08 R138, R139, R143). -/
def State.mayStartPump (s : State) : Bool := (s.clc.owner == .standby) && s.configured && !s.clc.latch

/-- The start hold of pump B runs exactly while the owner may start and no pump counts as running; it is not restarted
while it runs (08 R139). -/
def State.holdStart (s : State) : State :=
  if s.mayStartPump && !s.anyRunning then
    if s.clc.startHold.isSome then s else { s with clc := { s.clc with startHold := some 15000 } }
  else { s with clc := { s.clc with startHold := none } }

/-- The start tests of both roles (08 R138, R139). -/
def State.startTests (s : State) : State :=
  match s.icu.straps.pumpRole with
  | .noRole => s
  | .a => if s.mayStartPump && !s.anyRunning then s.enterStarting else s
  | .b => if s.mayStartPump && s.reported .a == .shown .failed then s.enterStarting else s.holdStart

/-- The both-running test of pump B's owner (08 R145). -/
def State.bothRunningTest (s : State) : State :=
  if s.icu.straps.pumpRole = .b ∧ s.clc.owner = .running ∧ s.clc.incoming = false ∧
      s.countsRunning .a = true ∧ s.reported .a = .shown .running then
    s.changeOwner .standby
  else s

/-- The outgoing tests in HANDING_OFF (08 R144). -/
def State.outgoingTest (s : State) : State :=
  match s.ownPump, s.clc.owner with
  | some p, .handingOff =>
    let q := p.other
    if s.countsRunning q = true ∧ s.reported q = .shown .running then s.changeOwner .standby
    else if s.reported q = .shown .failed then s.enterRunning
    else s
  | _, _ => s

/-- A change of the flow state, with its flow indication to the STC (08 R147). -/
def State.setFlow (s : State) (f : FlowState) : State :=
  State.stcFlow { s with clc := { s.clc with flow := f } } f

/-- The flow test, made in phase CONFIGURED (08 R147, R148). That the flow indication comes before the clear of FLOW_LOST
is the model's choice (log entry 32). -/
def State.flowTest (s : State) : State :=
  if s.configured then
    match s.clc.flow, s.anyRunning with
    | .flowOk, false => State.setFlow { s with clc := { s.clc with graceTimer := some (s.prm.flowGrace * 1000) } } .flowGrace
    | .flowGrace, true => State.setFlow { s with clc := { s.clc with graceTimer := none } } .flowOk
    | .flowLost, true =>
      let t := s.setFlow .flowOk
      if t.clc.lostFlag then State.clear { t with clc := { t.clc with lostFlag := false } } .flowLost else t
    | _, _ => s
  else s

/-- A loop view change: every test that reads the view is made in the state that then stands, and a change of the own
owner state, itself a loop view change, makes them again (08 R136). The owner changes at most three times within one
event; `fuel` bounds the repetition (log entry 17). -/
def State.viewTests : Nat → State → State
  | 0, s => s
  | fuel + 1, s =>
    let a := s.startTests
    if a.clc.owner ≠ s.clc.owner then a.viewTests fuel
    else
      let b := a.bothRunningTest
      if b.clc.owner ≠ s.clc.owner then b.viewTests fuel
      else
        let c := b.outgoingTest
        if c.clc.owner ≠ s.clc.owner then c.viewTests fuel else c.flowTest

/-- A loop view change (08 R136). -/
def State.viewChanged (s : State) : State := State.viewTests 8 s

/-- Entry to FAILED with a cause (08 R141). A pump already FAILED stays as it stands
(log entry 22). -/
def State.failPump (s : State) (cause : Int) : State :=
  if s.clc.owner = .failed then s else (s.changeOwner .failed).raise .pumpFailed cause

/-- The pump-latch indication (08 R141): while it is on the start hold is stopped. -/
def State.clcLatch (s : State) (on : Bool) : State :=
  { s with clc := { s.clc with latch := on, startHold := if on then none else s.clc.startHold } }

/-- Whether a PUMP_STATE for a pump from a source is taken into the view (08 R135). -/
def State.takesView (s : State) (p : Pump) (source : Station) : Bool :=
  match (s.clc.view p).owner with
  | none => true
  | some n => n == source || !s.isPresent n || decide (source.val < n.val)

/-- Replace the view of a pump. -/
def State.setView (s : State) (p : Pump) (v : PumpView) : State :=
  match p with
  | .a => { s with clc := { s.clc with viewA := v } }
  | .b => { s with clc := { s.clc with viewB := v } }

/-- A PUMP_STATE taken into the view (08 R135), with the incoming flag of pump B's owner (08 R145). -/
def State.takeView (s : State) (f : PumpFields) (source : Station) : State :=
  let t := s.setView f.pump { owner := some source, reported := .shown f.owner, handover := f.handover }
  if f.pump = .a ∧ f.owner ≠ .handingOff then { t with clc := { t.clc with incoming := false } } else t

/-- A handover request (08 R143). -/
def State.handoverRequest (s : State) (f : PumpFields) : State :=
  if f.owner = .handingOff ∧ f.handover = true ∧ s.ownPump = some f.pump.other ∧ s.mayStartPump = true then
    let t := s.enterStarting
    if s.icu.straps.pumpRole = .b then { t with clc := { t.clc with incoming := true } } else t
  else s

/-! ## The temperature vote (09 section 9.1) -/

/-- The peer values of the vote set (09 R152). -/
def State.peerReadings (s : State) : List Int :=
  (s.showing.filter (fun p => p.2.supplyValid)).map (fun p => p.2.supply)

/-- The rows of 09 R153: the vote and, for row 2, the median. -/
inductive Vote
  | own (theta : Int)
  | median (theta : Int)
  | peers (theta : Int)
  | noValue
  deriving DecidableEq, Repr

/-- The vote (09 R152, R153). -/
def voteOf (reading : Int) (valid : Bool) (peers : List Int) : Vote :=
  if valid then
    match upperMedian (reading :: peers) with
    | some m => if (reading - m).natAbs ≤ 30 then .own reading else .median m
    | none => .own reading
  else
    match upperMedian peers with
    | some m => .peers m
    | none => .noValue

/-- The voted temperature of a vote (09 R153). -/
def Vote.theta : Vote → Option Int
  | .own v | .median v | .peers v => some v
  | .noValue => none

/-- Read the supply temperature input (09 R151). -/
def State.readSupply (s : State) (word : BitVec 12) : State :=
  let v := word.toInt
  { s with clc := { s.clc with raw := v, rawValid := decide (-400 ≤ v) && decide (v ≤ 1500) } }

/-- Set or clear SENSOR_DISAGREE by the row of the vote (09 R154). -/
def State.disagreeTest (s : State) (v : Vote) : State :=
  match v with
  | .median m =>
    if s.clc.disagree then s
    else State.raise { s with clc := { s.clc with disagree := true } } .sensorDisagree (s.clc.raw - m)
  | .own _ | .peers _ | .noValue =>
    if s.clc.disagree then State.clear { s with clc := { s.clc with disagree := false } } .sensorDisagree else s

/-- Set or clear SENSOR_SUPPLY by the row of the vote (09 R154); `n` is the number of peer values in the set. -/
def State.supplyTest (s : State) (v : Vote) (n : Nat) : State :=
  match v with
  | .peers _ | .noValue =>
    if s.clc.supply then s
    else State.raise { s with clc := { s.clc with supply := true } } .sensorSupply n
  | .own _ | .median _ =>
    if s.clc.supply then State.clear { s with clc := { s.clc with supply := false } } .sensorSupply else s

/-! ## The fan bank (09 sections 9.2 to 9.4) -/

/-- Switch one fan's output; its feedback timer runs exactly while the output is on and the feedback does not show
(09 R156). An output that stands is not switched (09 R160). -/
def State.switchFan (s : State) (i : Fin 3) (on : Bool) : State :=
  let f := s.clc.fans[i]
  if f.output = on then s
  else
    let timer : Timer := if on && !s.levels.fans[i] then some 5000 else none
    { s with clc := { s.clc with fans := s.clc.fans.set i { f with output := on, timer := timer } } }

/-- The number of fans that the bank duty asks for (09 R160). -/
def bankDuty (role : Role) (nFan : Nat) (cover : Cover) : Nat :=
  match role, cover with
  | .noRole, _ => 0
  | .a, _ => min 3 nFan
  | .b, .covered => nFan - 3
  | .b, .uncovered => min 3 nFan

/-- How many HEALTHY fans stand before a fan of the bank. -/
def healthyBefore (fans : Vector Fan 3) (i : Fin 3) : Nat :=
  ([0, 1, 2].filter (fun j : Fin 3 => decide (j.val < i.val) && fans[j].healthy)).length

/-- Apply the bank duty: the lowest-numbered HEALTHY fans up to the duty run, every other one is off (09 R160). While
the outputs are held off the duty is not applied (09 R162). -/
def State.applyDuty (s : State) : State :=
  if s.clc.heldOff then s
  else
    let duty := bankDuty s.icu.straps.fanRole s.clc.nFan s.clc.cover
    let on (i : Fin 3) : Bool := s.clc.fans[i].healthy && decide (healthyBefore s.clc.fans i < duty)
    ((s.switchFan 0 (on 0)).switchFan 1 (on 1)).switchFan 2 (on 2)

/-- Turn every fan output of the bank off (09 R162). -/
def State.fansOff (s : State) : State := ((s.switchFan 0 false).switchFan 1 false).switchFan 2 false

/-- Set the stage count; a change applies the bank duty (09 R159). -/
def State.setStages (s : State) (n : Nat) : State :=
  if n = s.clc.nFan then s else State.applyDuty { s with clc := { s.clc with nFan := n } }

/-- The heat total Q (09 R157). -/
def State.heatTotal (s : State) : Nat :=
  (if s.stc.state = .run then s.stc.loss else 0) + (s.runningPeers.map (fun p => p.2.loss)).sum

/-- The heat-based count (09 R157). -/
def State.formHeat (s : State) : State :=
  { s with clc := { s.clc with nHeat := min 6 (ceilDiv s.heatTotal s.prm.fanCapacity) } }

/-- The required count (09 R159). -/
def Clc.required (c : Clc) : Nat := max c.nHeat c.nTemp

/-- The comparison at a sample timer expiry (09 R159). -/
def State.raiseStages (s : State) : State :=
  if s.clc.nFan < s.clc.required then s.setStages s.clc.required else s

/-- The comparison at a fan step expiry (09 R159). -/
def State.stepStages (s : State) : State :=
  if s.clc.nFan < s.clc.required then s.setStages s.clc.required
  else if s.clc.required < s.clc.nFan then s.setStages (s.clc.nFan - 1)
  else s

/-- The temperature-based count after a fan step expiry (09 R158). -/
def stepTemp (n start : Nat) : Option Int → Nat
  | none => min 6 (n + 1)
  | some v =>
    if (start : Int) - 50 ≤ v then min 6 (n + 1)
    else if (start : Int) - 100 < v then n
    else n - 1

/-- Set the bank A cover at bank B's owner, at each sample timer expiry in either phase; a change applies the duty
(09 R161). -/
def State.setCover (s : State) : State :=
  if s.icu.straps.fanRole = .b then
    let c := if s.showing.any (fun p => p.2.fanRole == .a && p.2.phase == .configured) then Cover.covered else .uncovered
    if c = s.clc.cover then s else State.applyDuty { s with clc := { s.clc with cover := c } }
  else s

/-- The rival owner of the own bank, the lowest-numbered if there are several (09 R162, log entry 18). -/
def State.rival (s : State) : Option Station :=
  if s.ownsFans then
    match s.showing.find? (fun p => p.2.fanRole == s.icu.straps.fanRole) with
    | some p => some p.1
    | none => none
  else none

/-- The rival test (09 R162). -/
def State.rivalTest (s : State) : State :=
  match s.rival with
  | some n =>
    if s.clc.fanConflict then s
    else
      let t := State.raise { s with clc := { s.clc with fanConflict := true } } .roleConflict n.val (some .fanBank)
      if n.val < s.own.val then
        let u := t.fansOff
        { u with clc := { u.clc with heldOff := true } }
      else t
  | none => s

end Sys2Proof.Machine
end

