-- ==== Sys2Proof/Config.lean ====
section
/-! DEFINITION. Values that the spec leaves open. Each is an opaque constant applied to the number of free values drawn
before it (`State.draws`): nothing in Lean can evaluate it, and a claim holds whatever it is. -/

namespace Sys2Proof

/-- The direction that a proposal whose signed path is 0 names, `true` for clockwise.
07 R111 and R123 speak of a positive and of a negative path only. Log entry 8. -/
opaque Config.zeroPathClockwise : Nat → Bool

/-- Whether, when a sixteenth failed attempt frees a place, the place-free indication is worked before the discard
notice and the raise of LINE_TX_FAIL. 01 R9: "either may come first"; 01 R12 takes out a STATUS whose successor waits, for
which the notice and the raise come first. Log entry 12. -/
opaque Config.placeFreeFirst : Nat → Bool

/-- Whether a step is taken before a mark edge of the same sample. 06 R98: "either may be taken first". Log entry 13. -/
opaque Config.stepBeforeMark : Nat → Bool

end Sys2Proof
end

