-- ==== Sys2Proof/Machine/YawPosition.lean ====
section
/-! DEFINITION. Position, twist, the position vote and the arithmetic of a move (06). -/

namespace Sys2Proof.Machine

/-- Whether the station carries tooth sensors and a reference mark sensor: its drive count is above 0 (06 section 6.1). -/
def State.hasSensors (s : State) : Bool := decide (0 < s.icu.straps.drives)

/-- A count moved one step, modulo `c` (06 R95). -/
def stepPosition (p c : Nat) (clockwise : Bool) : Nat := turnBy p (if clockwise then 1 else -1) c

/-- The twist moved one step, saturating at 131,071 and -131,072 (06 R95). -/
def stepTwist (w : Int) (clockwise : Bool) : Int :=
  clampInt (-131072) 131071 (if clockwise then w + 1 else w - 1)

/-- Whether the change of a channel is a clockwise step, from the qualified levels after it (06 R95). -/
def stepIsClockwise (channel : Channel) (a b : Bool) : Bool :=
  match channel with
  | .a => a != b
  | .b => a == b

/-- The qualified levels after a change of one channel. -/
def changeTooth (l : Levels) : Channel → Levels
  | .a => { l with toothA := !l.toothA }
  | .b => { l with toothB := !l.toothB }

/-- A step counted into P and, while KNOWN, into W (06 R95). -/
def State.countStep (s : State) (clockwise : Bool) : State :=
  { s with ywc := { s.ywc with
    position := stepPosition s.ywc.position s.modulus clockwise
    twist := if s.ywc.known then stepTwist s.ywc.twist clockwise else s.ywc.twist } }

/-- A mark edge (06 R98). -/
def State.markSeen (s : State) : State :=
  match s.ywc.turn with
  | none => s
  | some t =>
    let atMark : State := { s with ywc := { s.ywc with position := t.mark } }
    if s.ywc.referenced then
      if circularDistance s.ywc.position t.mark t.modulus ≤ 8 then s
      else
        atMark.raise .headingSlip (signedTurn ((t.mark : Int) - (s.ywc.position : Int)) t.modulus)
    else { atMark with ywc := { atMark.ywc with referenced := true } }

/-- The YWC's copies and P at a configured indication (06 R97). -/
def State.takeTurn (s : State) : State :=
  let t : Turn := { modulus := s.prm.counts, mark := s.prm.markPosition }
  if s.ywc.turn = some t then s
  else
    { s with ywc := { s.ywc with
      turn := some t
      position := s.ywc.position % t.modulus
      referenced := false } }

/-- The twist at a configured indication (06 R99). -/
def State.takeTwist (s : State) : State :=
  if s.ywc.known then s else { s with ywc := { s.ywc with twist := s.prm.startTwist, known := true } }

/-! ## The position vote (06 R100) -/

/-- The differences that the vote reads: one per referenced peer. -/
def State.headingDifferences (s : State) : List Int :=
  (s.showing.filter (fun p => p.2.referenced)).map
    (fun p => signedTurn ((p.2.position : Int) - (s.ywc.position : Int)) s.modulus)

/-- The median of the vote, none where no vote is made. -/
def State.headingMedian (s : State) : Option Int :=
  if s.configured && s.ywc.referenced then upperMedian s.headingDifferences else none

/-- Set the heading disagreement flag. -/
def State.setDisagree (s : State) (v : Bool) : State := { s with ywc := { s.ywc with disagree := v } }

/-- The position vote (06 R100). -/
def State.positionVote (s : State) : State :=
  match s.headingMedian with
  | some m =>
    if 32 < m.natAbs then
      if s.ywc.disagree then s else (s.setDisagree true).raise .headingDisagree m
    else if s.ywc.disagree then (s.setDisagree false).clear .headingDisagree
    else s
  | none => if s.ywc.disagree then (s.setDisagree false).clear .headingDisagree else s

/-! ## The misalignment window (06 R101) -/

/-- Append an angle; the window holds at most 16. -/
def pushAngle (window : List Int) (angle : Int) : List Int :=
  let w := window ++ [angle]
  if 16 < w.length then w.drop 1 else w

/-- The mean of a full window, truncated toward zero. -/
def windowMean (window : List Int) : Option Int :=
  if window.length = 16 then some (truncatedDiv window.sum 16) else none

/-! ## Working out a move (06 R104 to R107) -/

/-- A move found by the proposal test: purpose, signed path and target. -/
structure Plan where
  purpose : Purpose
  path : Int
  target : Nat
  deriving DecidableEq, Repr

/-- What the proposal test finds; `blocked` carries d (06 R107). -/
inductive Finding
  | nothing
  | blocked (d : Int)
  | plan (p : Plan)
  deriving DecidableEq, Repr

/-- The path of an UNTWIST move: whole turns toward zero twist (06 R104). -/
def untwistPath (w : Int) (c : Nat) : Int := -(signOf w) * ((w.natAbs / c * c : Nat) : Int)

/-- The offset of an ALIGN move, rounded to the nearest count, halves away from zero (06 R105). -/
def alignOffset (mean : Int) (c : Nat) : Int := signOf mean * (((mean.natAbs * c + 1800) / 3600 : Nat) : Int)

/-- A keep-out sector: the positions from its start, clockwise for its length, modulo C (02 R31). -/
structure Sector where
  start : Nat
  length : Nat
  deriving DecidableEq, Repr

/-- The sectors within the configured count (06 R106). -/
def Params.sectors (p : Params) : List Sector :=
  List.take p.sectorCount
    [{ start := p.sector1Start, length := p.sector1Length }, { start := p.sector2Start, length := p.sector2Length }]

/-- Whether a sector covers a position (06 R106). -/
def Sector.covers (x : Sector) (c pos : Nat) : Bool :=
  decide ((((pos : Int) - (x.start : Int)) % (c : Int)).toNat < x.length)

/-- The first position reached from `pos` by single counts of `dir`, `pos` included, that lies in no sector; `fuel`
bounds the search (06 R106). -/
def firstFree (sectors : List Sector) (c : Nat) (dir : Int) : Nat → Nat → Nat
  | 0, pos => pos
  | fuel + 1, pos =>
    if sectors.any (fun x => x.covers c pos) then firstFree sectors c dir fuel (turnBy pos dir c) else pos

/-- The target moved out of a keep-out sector: the candidate at the smaller circular distance, the lower one at equal
distances (06 R106). -/
def clampTarget (sectors : List Sector) (c pos : Nat) : Nat :=
  match sectors.find? (fun x => x.covers c pos) with
  | none => pos
  | some x =>
    let lower := firstFree sectors c (-1) c (turnBy x.start (-1) c)
    let upper := firstFree sectors c 1 c (turnBy x.start (x.length : Int) c)
    if circularDistance pos lower c ≤ circularDistance pos upper c then lower else upper

/-- The path to a target, the long way round where the short one would pass the twist limit (06 R107). -/
def alignFinding (pos target c limit : Nat) (w : Int) : Finding :=
  let d := signedTurn ((target : Int) - (pos : Int)) c
  let d' := d - (c : Int) * signOf d
  if d = 0 then .nothing
  else if (w + d).natAbs ≤ limit then .plan { purpose := .align, path := d, target := target }
  else if (w + d').natAbs ≤ limit then .plan { purpose := .align, path := d', target := target }
  else .blocked d

/-- The proposal test (06 R104). -/
def State.proposalTest (s : State) : Finding :=
  let p := s.prm
  let c := p.counts
  let calm :=
    match s.windSpeed with
    | some v => decide (v ≤ p.untwistWind)
    | none => false
  if p.untwistThreshold ≤ s.ywc.twist.natAbs ∧ calm = true then
    .plan { purpose := .untwist, path := untwistPath s.ywc.twist c, target := s.ywc.position }
  else
    match windowMean s.ywc.window with
    | some mean =>
      if p.misalignment ≤ mean.natAbs then
        alignFinding s.ywc.position (clampTarget p.sectors c (turnBy s.ywc.position (alignOffset mean c) c)) c
          p.twistLimit s.ywc.twist
      else .nothing
    | none => .nothing

/-- Whether the station defers: a lower-numbered station with drives shows itself eligible (06 R103). -/
def State.defers (s : State) : Bool :=
  s.showing.any (fun p => decide (p.1.val < s.own.val) && decide (0 < p.2.drives) && p.2.eligible)

end Sys2Proof.Machine
end

