-- ==== Sys2Proof/Machine/YawMotion.lean ====
section
/-! DEFINITION. Yaw agreement and motion (07): the participant, the proposal record, the decision, the halt, and the
motion tests. -/

namespace Sys2Proof.Machine

/-! ## The participant and its outputs (07 R111) -/

/-- The motor outputs of a driving station with a drive count, in one direction: both motors together (07 R111). -/
def motorsOn (drives : Nat) (clockwise : Bool) : Motors where
  cw1 := clockwise && decide (1 ≤ drives)
  ccw1 := !clockwise && decide (1 ≤ drives)
  cw2 := clockwise && decide (2 ≤ drives)
  ccw2 := !clockwise && decide (2 ≤ drives)

/-- The motor outputs all off. -/
def motorsOff : Motors where
  cw1 := false
  ccw1 := false
  cw2 := false
  ccw2 := false

/-- The YWC with its participant in a new state: the outputs and the one running timer are those of 07 R111's table; the
move record is dropped on the return to IDLE. `waits` says whether ANSWERED has its commit wait. -/
def Ywc.enter (y : Ywc) (p : Participant) (drives : Nat) (waits : Bool := true) : Ywc :=
  { y with
    participant := p
    move := if p = .idle then none else y.move
    commitWait := if p = .answered ∧ waits = true then some 500 else none
    brakeTimer := if p = .releasing then some 4000 else none
    driveWait := if p = .released then some 4000 else none
    stallTimer := if p = .driving then some 3000 else none
    settleTimer := if p = .stopping then some 1000 else none
    brakingTimer := if p = .braking then some 2000 else none
    motors :=
      if p = .driving then
        match y.move with
        | some m => motorsOn drives m.clockwise
        | none => motorsOff
      else motorsOff
    brakeRelease := p.holdsRelease }

/-- Move the participant to a state. -/
def State.participate (s : State) (p : Participant) (waits : Bool := true) : State :=
  { s with ywc := s.ywc.enter p s.icu.straps.drives waits }

/-- Set the proposal record. -/
def State.setProposal (s : State) (r : Option Proposal) : State := { s with ywc := { s.ywc with proposal := r } }

/-- The participant enters BRAKING; brakes that already show applied return it to IDLE at once (07 R126, R127; log
entry 16). -/
def State.enterBraking (s : State) : State :=
  let t := s.participate .braking
  if t.levels.brakeApplied then t.participate .idle else t

/-- The participant leaves for IDLE. -/
def State.enterIdle (s : State) : State := s.participate .idle

/-- The direction that a path names: clockwise for a positive path, counter-clockwise for a negative one; for a path of 0
a free value (log entry 8). -/
def State.pathClockwise (s : State) (path : Int) : Bool × State :=
  if 0 < path then (true, s)
  else if path < 0 then (false, s)
  else (Config.zeroPathClockwise s.draws, s.drew)

/-- The current ref of the participant (07 R111). -/
def Ywc.moveRef (y : Ywc) : Option Ref :=
  match y.move with
  | some m => some m.ref
  | none => none

/-- The ref of the proposal record. -/
def Ywc.proposalRef (y : Ywc) : Option Ref :=
  match y.proposal with
  | some r => some r.ref
  | none => none

/-! ## Requests (07 R130) -/

/-- A yaw request; a refused one is held with its ref (07 R130). A YAW_HALT displaces (01 R10). -/
def State.requestYaw (s : State) (kind : Kind) (r : Ref) (payload : List Byte) : State :=
  let answer := if kind = .yawHalt then s.requestUrgent kind payload else s.request kind payload
  let t := answer.1
  if answer.2 then t
  else
    State.noteHolders
      { t with ywc := { t.ywc with held := t.ywc.held ++ [{ kind := kind, ref := r, payload := payload }] } }

/-- Request a YAW_ANSWER with the latched drive count (07 R114 to R116, R120). -/
def State.requestAnswer (s : State) (r : Ref) (answer : Answer) (reason : Refusing) : State :=
  s.requestYaw .yawAnswer r (encodeAnswer r answer s.icu.straps.drives reason)

/-! ## The holdoff and the halt (06 R108, 07 R125) -/

/-- Start the proposal holdoff timer; its period is in seconds (06 R108). -/
def State.startHoldoff (s : State) : State :=
  { s with ywc := { s.ywc with holdoffTimer := some (s.prm.holdoff * 1000) } }

/-- Clear the proposal record with its timers (07 R116, R125). -/
def State.clearProposal (s : State) : State :=
  { s with ywc := { s.ywc with proposal := none, answerTimer := none, releaseTimer := none } }

/-- The effect of a halt on the participant (07 R125). -/
def State.haltParticipant (s : State) : State :=
  match s.ywc.participant with
  | .answered => s.enterIdle
  | .releasing | .released | .driving => s.participate .stopping
  | .idle | .stopping | .braking => s

/-- A halt of a ref, received or requested by the own station (07 R125). It is taken where the ref is the current ref or
the record's. -/
def State.takeHalt (s : State) (r : Ref) : State :=
  if s.ywc.moveRef = some r ∨ s.ywc.proposalRef = some r then
    let t := s.haltParticipant
    if s.ywc.proposalRef = some r then t.clearProposal.startHoldoff else t
  else s

/-- Request YAW_HALT for a ref and take the halt (07 R125). -/
def State.ownHalt (s : State) (r : Ref) (reason : HaltReason) : State :=
  (s.requestYaw .yawHalt r (encodeHalt r reason)).takeHalt r

/-- Halt the participant's own move, if it holds one (07 R120, R122 to R124; 06 R96). -/
def State.haltMove (s : State) (reason : HaltReason) : State :=
  match s.ywc.moveRef with
  | some r => s.ownHalt r reason
  | none => s

/-- Halt the own proposal, if a record is held (07 R118, R121, R128, R129). -/
def State.haltProposal (s : State) (reason : HaltReason) : State :=
  match s.ywc.proposalRef with
  | some r => s.ownHalt r reason
  | none => s

/-! ## Driving (07 R122) -/

/-- Whether motion in a direction increases the magnitude of a twist. -/
def increasesTwist (w : Int) (clockwise : Bool) : Bool := if clockwise then decide (0 ≤ w) else decide (w ≤ 0)

/-- A YAW_DRIVE taken in RELEASED, received or the proposer's own (07 R122; 06 R96). -/
def State.takeDrive (s : State) : State :=
  match s.ywc.move with
  | some m =>
    let t : State := { s with ywc := { s.ywc with
      driveWait := none
      move := some { m with count := 0 }
      invalidSteps := 0 } }
    if t.ywc.known = true ∧ s.prm.twistLimit ≤ t.ywc.twist.natAbs ∧ increasesTwist t.ywc.twist m.clockwise = true then
      t.haltMove .twist
    else t.participate .driving
  | none => s

/-- The proposer's released set has come to equal its committed set (07 R121). -/
def State.startMotion (s : State) (r : Proposal) : State :=
  let t := (State.setProposal { s with ywc := { s.ywc with releaseTimer := none } }
    (some { r with phase := .moving, count := 0 })).requestYaw .yawDrive r.ref (encodeDrive r.ref)
  if t.ywc.participant = .released then t.takeDrive else t

/-- A station joins the released set of a COMMITTED record, if it is in the committed set (07 R117, R121). -/
def State.joinReleased (s : State) (n : Station) : State :=
  match s.ywc.proposal with
  | some r =>
    if r.phase = .committed ∧ inSet r.committed n = true then
      let r' := { r with released := r.released ||| stationBit n }
      let t := s.setProposal (some r')
      if r'.released = r'.committed then t.startMotion r' else t
    else s
  | none => s

/-- The brake feedback shows released in RELEASING (07 R120). -/
def State.brakesReleased (s : State) : State :=
  match s.ywc.move with
  | some m =>
    let t := s.participate .released
    if m.ref.proposer = s.own.val then t.joinReleased s.own else t.requestAnswer m.ref .released .noReason
  | none => s

/-- A listed participant enters RELEASING; a feedback that already shows released is taken at once (07 R119). -/
def State.enterReleasing (s : State) : State :=
  let t := s.participate .releasing
  if t.levels.brakeApplied then t else t.brakesReleased

/-! ## The decision (07 R118) -/

/-- The READY drive total of a record. -/
def readyDrives (answers : List (Option Reply)) : Nat :=
  (answers.map (fun a =>
    match a with
    | some (.ready n) => n
    | _ => 0)).sum

/-- The set of stations whose answer is READY. -/
def readySet (answers : Vector (Option Reply) 8) : StationSet :=
  stations.foldl (fun set n =>
    match answers[n] with
    | some (.ready _) => set ||| stationBit n
    | _ => set) 0

/-- Empty the misalignment window (06 R101). -/
def State.emptyWindow (s : State) : State := { s with ywc := { s.ywc with window := [] } }

/-- The decision (07 R118). -/
def State.takeDecision (s : State) (r : Proposal) : State :=
  let s := { s with ywc := { s.ywc with answerTimer := none } }
  if s.prm.minDrives ≤ readyDrives r.answers.toList then
    let committed := readySet r.answers
    let t := s.requestYaw .yawCommit r.ref (encodeCommit r.ref committed)
    let u := (State.setProposal { t with ywc := { t.ywc with releaseTimer := some 4000 } }
      (some { r with phase := .committed, committed := committed })).emptyWindow
    if inSet committed s.own then u.enterReleasing else u.enterIdle
  else s.haltProposal .abandoned

/-- Whether every station of the expected set has an answer (07 R117). -/
def answeredInFull (r : Proposal) : Bool := stations.all (fun n => !inSet r.expected n || r.answers[n].isSome)

/-- Enter an answer in a COLLECTING record and test whether the expected set has answered in full (07 R117). -/
def State.enterAnswer (s : State) (r : Proposal) (n : Station) (a : Reply) : State :=
  let r' := { r with answers := r.answers.set n (some a) }
  let t := s.setProposal (some r')
  if answeredInFull r' then t.takeDecision r' else t

/-- The expected set at the creation of a record: the own station and every PRESENT NT44 peer with a CURRENT record
showing a drive count above 0 (07 R112). -/
def State.expectedSet (s : State) : StationSet :=
  (s.showing.filter (fun p => decide (0 < p.2.drives))).foldl (fun set p => set ||| stationBit p.1) (stationBit s.own)

/-- The creation of a proposal record for a plan (07 R112, R113). -/
def State.propose (s : State) (p : Plan) : State :=
  let way := s.pathClockwise p.path
  let clockwise := way.1
  let s := way.2
  let ref : Ref := { proposer := s.own.val, number := s.ywc.nextNumber }
  let own : Reply := if s.levels.brakeApplied then .ready s.icu.straps.drives else .refuse .brake
  let r : Proposal :=
    { ref := ref
      purpose := p.purpose
      path := p.path
      clockwise := clockwise
      target := p.target
      expected := s.expectedSet
      answers := Vector.replicate 8 none
      committed := 0
      released := 0
      count := 0
      phase := .collecting }
  let t : State := { s with ywc := { s.ywc with
    nextNumber := (s.ywc.nextNumber + 1) % 256
    move := some { ref := ref, path := p.path, clockwise := clockwise, count := 0 }
    answerTimer := some 250 } }
  ((t.requestYaw .yawPropose ref (encodePropose ref.number p.path p.target p.purpose)).participate .answered false).enterAnswer
    r s.own own

/-! ## Answering a YAW_PROPOSE (07 R114 to R116) -/

/-- The refusal of an IDLE station, by the first row that applies; none for READY (07 R114). -/
def State.refusal (s : State) (path : Int) : Option Refusing :=
  if s.icu.straps.drives = 0 then some .noDrives
  else if !s.configured || s.ywc.lock then some .lockedOut
  else if !s.levels.brakeApplied then some .brake
  else if s.ywc.known = true ∧ s.prm.twistLimit < (s.ywc.twist + path).natAbs then some .twist
  else none

/-- The answer of an IDLE station (07 R114). -/
def State.answerIdle (s : State) (ref : Ref) (path : Int) : State :=
  match s.refusal path with
  | some reason => s.requestAnswer ref .refuse reason
  | none =>
    let way := s.pathClockwise path
    let clockwise := way.1
    let s := way.2
    let t : State := { s with ywc := { s.ywc with
      move := some { ref := ref, path := path, clockwise := clockwise, count := 0 } } }
    (t.requestAnswer ref .ready .noReason).participate .answered

/-- The answer of a station with no proposal record (07 R114, R115). -/
def State.answerWithout (s : State) (ref : Ref) (path : Int) : State :=
  match s.ywc.participant with
  | .idle => s.answerIdle ref path
  | .answered =>
    match s.ywc.moveRef with
    | some r =>
      if ref.proposer ≤ r.proposer then s.enterIdle.answerIdle ref path else s.requestAnswer ref .refuse .busy
    | none => s.enterIdle.answerIdle ref path
  | .releasing | .released | .driving | .stopping | .braking => s.requestAnswer ref .refuse .busy

/-- The withdrawal of the own proposal and the answer that follows it (07 R116). -/
def State.withdrawAndAnswer (s : State) (ref : Ref) (path : Int) : State :=
  let t := s.clearProposal
  match t.ywc.participant with
  | .answered | .idle => t.enterIdle.answerIdle ref path
  | .releasing | .released => t.enterBraking.requestAnswer ref .refuse .busy
  | .driving | .stopping | .braking => t.requestAnswer ref .refuse .busy

/-- The answer to a YAW_PROPOSE from a station, by what this station holds (07 R114 to R116). -/
def State.answerProposal (s : State) (ref : Ref) (path : Int) : State :=
  match s.ywc.proposal with
  | none => s.answerWithout ref path
  | some r =>
    if r.phase ≠ .moving ∧ ref.proposer < s.own.val then s.withdrawAndAnswer ref path
    else s.requestAnswer ref .refuse .busy

/-! ## Steps handed to the motion logic (07 R123) -/

/-- A count of travel along a path, moved by one step. -/
def alongPath (count : Int) (pathClockwise stepClockwise : Bool) : Int :=
  if pathClockwise = stepClockwise then count + 1 else count - 1

/-- The record's movement count after a step, while MOVING. -/
def State.countRecord (s : State) (clockwise : Bool) : State :=
  match s.ywc.proposal with
  | some r =>
    if r.phase = .moving then s.setProposal (some { r with count := alongPath r.count r.clockwise clockwise }) else s
  | none => s

/-- M after a step, while DRIVING; the stall timer starts afresh (07 R123, R124). -/
def State.countMove (s : State) (clockwise : Bool) : State :=
  match s.ywc.participant, s.ywc.move with
  | .driving, some m =>
    { s with ywc := { s.ywc with
      move := some { m with count := alongPath m.count m.clockwise clockwise }
      stallTimer := some 3000 } }
  | _, _ => s

/-- Test 1: the record's movement count equals the magnitude of the path (07 R123). -/
def Ywc.reached (y : Ywc) : Bool :=
  match y.proposal with
  | some r => (r.phase == .moving) && (r.count == (r.path.natAbs : Int))
  | none => false

/-- Test 2: M is at or above the magnitude of the path plus the overrun margin (07 R123). -/
def Ywc.overrun (y : Ywc) (margin : Nat) : Bool :=
  match y.participant, y.move with
  | .driving, some m => decide (m.path.natAbs + margin ≤ m.count.natAbs)
  | _, _ => false

/-- Test 3: the motors wind the twist at or past its limit (07 R123). -/
def Ywc.overtwisted (y : Ywc) (limit : Nat) : Bool :=
  match y.participant, y.move with
  | .driving, some m => y.known && increasesTwist y.twist m.clockwise && decide (limit ≤ y.twist.natAbs)
  | _, _ => false

/-- The motion tests after a step: the first that holds halts the move (07 R123). -/
def State.motionTests (s : State) : State :=
  if s.ywc.reached then s.haltProposal .reached
  else if s.ywc.overrun s.prm.overrunMargin then s.haltMove .overrun
  else if s.ywc.overtwisted s.prm.twistLimit then s.haltMove .twist
  else s

/-- A step handed to the motion logic (07 R123). The tests are made after M, or the record's count, has changed. -/
def State.motionStep (s : State) (clockwise : Bool) : State :=
  ((s.countMove clockwise).countRecord clockwise).motionTests

/-! ## Indications given to the YWC -/

/-- The yaw-lock indication (07 R128). -/
def State.ywcLock (s : State) (on : Bool) : State :=
  let t : State := { s with ywc := { s.ywc with lock := on } }
  if on then
    if t.ywc.proposal.isSome then t.haltProposal .fault
    else
      match t.ywc.participant with
      | .releasing | .released | .driving => t.haltMove .fault
      | .answered => t.enterIdle
      | .idle | .stopping | .braking => t
  else t

/-- A yaw-permit indication (07 R129). -/
def State.ywcPermit (s : State) (permit : Bool) : State :=
  let t : State := { s with ywc := { s.ywc with permit := permit } }
  if permit then t else t.haltProposal .abandoned

/-- A wind indication (06 R101). A station without drives keeps no window (06 section 6.1). -/
def State.ywcWind (s : State) (angle : Int) : State :=
  if s.hasSensors then { s with ywc := { s.ywc with window := pushAngle s.ywc.window angle } } else s

/-- The configured indication at the YWC: the check timer, the copies, the twist (06 R97, R99, R100), at a station with
drives. -/
def State.ywcConfigured (s : State) : State :=
  if s.hasSensors then
    (State.takeTwist (State.takeTurn { s with ywc := { s.ywc with checkTimer := some s.period } }))
  else s

end Sys2Proof.Machine
end

