-- ==== Sys2Proof/Machine/Faults.lean ====
section
/-! DEFINITION. The Fault Unit (10): the condition set and what it hands back, the fault log with place-making, and the
taking of raise and clear requests one at a time. -/

namespace Sys2Proof.Machine

/-! ## The condition set (10 R167 to R169) -/

/-- Two sets of actions together: each that either carries (10 R167). -/
def Actions.join (x y : Actions) : Actions where
  trip := x.trip || y.trip
  stringLatch := x.stringLatch || y.stringLatch
  yawLock := x.yawLock || y.yawLock
  pumpLatch := x.pumpLatch || y.pumpLatch
  fanBankOff := x.fanBankOff || y.fanBankOff
  derate := max x.derate y.derate

/-- A condition code joins the set, or adds its actions to the member that stands (10 R167). -/
def joinSet (code : Code) (actions : Actions) : List Member → List Member
  | [] => [{ code := code, actions := actions }]
  | m :: rest =>
    if m.code = code then { m with actions := m.actions.join actions } :: rest else m :: joinSet code actions rest

/-- Whether a code is a member of the set. -/
def inMembers (code : Code) (members : List Member) : Bool := members.any (fun m => m.code == code)

/-- The derate exponent of a set: the largest among its members, at most 3 (10 R168). -/
def exponentOf (members : List Member) : Nat := min 3 (members.foldl (fun e m => max e m.actions.derate) 0)

/-- Form the derate exponent and the lock indications again and give each that changes to its reader: derate and
string-latch to the STC, yaw-lock to the YWC, pump-latch to the CLC (10 R168, R169; log entry 19). -/
def State.indicate (s : State) : State :=
  let members := s.flu.members
  let e := exponentOf members
  let sl := members.any (fun m => m.actions.stringLatch)
  let yl := members.any (fun m => m.actions.yawLock)
  let pl := members.any (fun m => m.actions.pumpLatch)
  let t : State := { s with flu := { s.flu with exponent := e, stringLatch := sl, yawLock := yl, pumpLatch := pl } }
  let t := if e = s.flu.exponent then t else t.stcDerate e
  let t := if sl = s.flu.stringLatch then t else t.stcLatch sl
  let t := if yl = s.flu.yawLock then t else t.ywcLock yl
  if pl = s.flu.pumpLatch then t else t.clcLatch pl

/-! ## The fault log (10 R172 to R178) -/

/-- The places of the fault log (10 R173). -/
def logPlaces : Nat := 32

/-- Whether a class is masked for new entries: only in phase CONFIGURED (10 R172). -/
def State.masked (s : State) (c : FaultClass) : Bool :=
  s.configured &&
    match c with
    | .critical => s.prm.maskCritical
    | .major => s.prm.maskMajor
    | .minor => s.prm.maskMinor
    | .info => s.prm.maskInfo

/-- A new entry (10 R172) with the entry counter's number (10 R173). -/
def State.newEntry (s : State) (code : Code) (value : Int) : Entry where
  number := s.flu.counter
  code := code
  cls := code.cls
  active := code.isCondition
  report := if s.masked code.cls then .masked else .pending
  occurrences := 1
  first := s.flu.seconds
  last := s.flu.seconds
  value := value

/-- The latest entry of a code: the newest that carries it (10 R173). -/
def latestOf (code : Code) (log : List Entry) : Option Entry := (log.filter (fun e => e.code == code)).getLast?

/-- An entry after a recurrence merged into it (10 R174, R175): occurrences saturate at 255. -/
def Entry.merge (e : Entry) (now : Nat) (value : Int) : Entry :=
  { e with
    active := e.code.isCondition
    occurrences := min 255 (e.occurrences + 1)
    last := now
    value := value }

/-- The log with the entry of a number changed. -/
def updateEntry (n : Nat) (f : Entry → Entry) (log : List Entry) : List Entry :=
  log.map (fun e => if e.number = n then f e else e)

/-- The entry that place-making removes for a new entry of a class, and the log without it (10 R177 steps 1 and 2). -/
def makePlace (c : FaultClass) (log : List Entry) : Option (Entry × List Entry) :=
  match removeFirst (fun e => e.report == .acked && !e.active) log with
  | some found => some found
  | none =>
    let worst := (log.filter (fun e => decide (classRank c < classRank e.cls))).foldl
      (fun r e => max r (classRank e.cls)) 0
    removeFirst (fun e => decide (classRank c < classRank e.cls) && classRank e.cls == worst) log

/-- The oldest entry gives up its number to a new one when the counter comes round to it (10 R173). -/
def wrapRemoval (n : Nat) : List Entry → Option Entry × List Entry
  | [] => (none, [])
  | e :: rest => if e.number = n then (some e, rest) else (none, e :: rest)

/-- The consequences of a removal for an entry that was IN_SERVICE: its class's timer stops and its held request is
dropped (10 R178, 11 R191). -/
def State.removed (s : State) (e : Entry) : State :=
  if e.report = .inService then (s.stopRepeat e.cls).dropHeldNotice e.number else s

/-- The consequences of a removal that may not have happened. -/
def State.removedIf (s : State) : Option Entry → State
  | some e => s.removed e
  | none => s

/-- Whether a removal took an entry out of service. -/
def wasInService : Option Entry → Bool
  | some e => e.report == .inService
  | none => false

/-- Set the log. -/
def State.setLog (s : State) (log : List Entry) : State := { s with flu := { s.flu with log := log } }

/-- What storing an entry in a log comes to: the entry removed for it, if any, the log after it, and whether it was
stored (10 R177). -/
def storeIn (e : Entry) (log : List Entry) : Option Entry × List Entry × Bool :=
  if log.length < logPlaces then (none, log ++ [e], true)
  else
    match makePlace e.cls log with
    | some (gone, rest) => (some gone, rest ++ [e], true)
    | none => (none, log, false)

/-- Make a new entry and store it: the number's wrap, the counter, place-making, the pressure test and the selection
that follows a stored PENDING entry or a removed IN_SERVICE one (10 R173, R177 to R179; 11 R184, R191). -/
def State.makeEntry (s : State) (code : Code) (value : Int) : State :=
  let e := s.newEntry code value
  let wrapped := wrapRemoval e.number s.flu.log
  let stored := storeIn e wrapped.2
  let t : State := { s with flu := { s.flu with
    log := stored.2.1
    counter := (s.flu.counter + 1) % 4096
    overflow := s.flu.overflow || !stored.2.2 } }
  let u := ((t.removedIf wrapped.1).removedIf stored.1).testPressure
  if (stored.2.2 && e.report == .pending) || wasInService wrapped.1 || wasInService stored.1 then u.select else u

/-- The log at a raise of a condition code (10 R174). -/
def State.logCondition (s : State) (code : Code) (value : Int) : State :=
  match latestOf code s.flu.log with
  | some e =>
    if e.report = .acked then
      (s.setLog (updateEntry e.number (fun x => { x with active := false }) s.flu.log)).makeEntry code value
    else s.setLog (updateEntry e.number (fun x => x.merge s.flu.seconds value) s.flu.log)
  | none => s.makeEntry code value

/-- The log at a raise of an event code (10 R175). -/
def State.logEvent (s : State) (code : Code) (value : Int) : State :=
  match latestOf code s.flu.log with
  | some e =>
    if e.report = .pending then s.setLog (updateEntry e.number (fun x => x.merge s.flu.seconds value) s.flu.log)
    else s.makeEntry code value
  | none => s.makeEntry code value

/-! ## Taking requests (10 R166, R170) -/

/-- A raise, in the order of 10 R170: the condition set with its indications, the trip request, the log. A discard notice
that an indication or the trip request brings about through a displacement is worked within that step, the model's choice
(log entry 36). -/
def State.takeRaise (s : State) (code : Code) (value : Int) (origin : Option Origin) : State :=
  let v := clampInt (-32768) 32767 value
  let actions := code.actions origin
  let t := if code.isCondition then
      State.indicate { s with flu := { s.flu with members := joinSet code actions s.flu.members } }
    else s
  let t := if actions.trip then t.stcTripRequest else t
  if code.isCondition then t.logCondition code v else t.logEvent code v

/-- A clear: ignored for a latched code and for one not in the set; otherwise the member leaves the set and the code's
ACTIVE entry becomes INACTIVE (10 R166, R167, R176). That the indications come before the entry's change, as R170 has it
for a raise, is the model's choice (log entry 34). -/
def State.takeClear (s : State) (code : Code) : State :=
  if code.isLatched || !inMembers code s.flu.members then s
  else
    let t := State.indicate
      { s with flu := { s.flu with members := s.flu.members.filter (fun m => m.code != code) } }
    t.setLog (t.flu.log.map (fun e => if e.code = code ∧ e.active = true then { e with active := false } else e))

/-- Take one request, completing all work on it (10 R166). -/
def State.serve (s : State) : Request → State
  | .raised code value origin => s.takeRaise code value origin
  | .cleared code => s.takeClear code

/-- Take the requests of the inbox in their order; a request that an indication brings about waits its turn (10 R166,
log entry 9). `fuel` bounds the requests taken in one settling; one event brings about a few. -/
def State.settleWithin : Nat → State → State
  | 0, s => s
  | fuel + 1, s =>
    match s.flu.inbox with
    | [] => s
    | r :: rest => State.settleWithin fuel (State.serve { s with flu := { s.flu with inbox := rest } } r)

/-- Let the FLU take every request handed to it (10 R166). -/
def State.settle (s : State) : State := s.settleWithin 32

/-- Hand a raise request to the FLU, which takes it at once. -/
def State.raiseNow (s : State) (code : Code) (value : Int) (origin : Option Origin := none) : State :=
  (s.raise code value origin).settle

/-- Hand a clear request to the FLU, which takes it at once. -/
def State.clearNow (s : State) (code : Code) : State := (s.clear code).settle

end Sys2Proof.Machine
end

