-- ==== Sys2Proof/Machine/PeerTable.lean ====
section
/-! DEFINITION. The Peer Table (03): presence, the silence timer, the demand and wind records, the mismatch test. -/

namespace Sys2Proof.Machine

/-! ## Effective permits (03 R49) -/

/-- Give the permit indications for permits that differ from those before the event, each followed by the FLU's work on
what it brings about (03 R49). That the run permit goes first where both change is the model's choice (log entry 31). -/
def State.givePermits (s : State) (run yaw : Bool) : State :=
  let t := if s.effectiveRun = run then s else (s.stcPermit s.effectiveRun).settle
  if t.effectiveYaw = yaw then t else (t.ywcPermit t.effectiveYaw).settle

/-! ## The mismatch test (03 R46) -/

/-- The PRESENT NT44 peers whose CURRENT record shows phase CONFIGURED with another config serial, ascending. -/
def State.mismatching (s : State) : List Station :=
  (s.showing.filter (fun p => p.2.phase == .configured && p.2.serial != s.icu.serial)).map (·.1)

/-- Set the mismatch flag. -/
def State.setMismatch (s : State) (v : Bool) : State := { s with ptb := { s.ptb with mismatch := v } }

/-- The mismatch test (03 R46). -/
def State.mismatchTest (s : State) : State :=
  match s.configured, s.mismatching with
  | true, n :: _ => if s.ptb.mismatch then s else (s.setMismatch true).raiseNow .configMismatch n.val
  | _, _ => if s.ptb.mismatch then (s.setMismatch false).clearNow .configMismatch else s

/-! ## Presence (03 R39 to R42) -/

/-- The station kind seen after a frame of a kind; `none` is an unknown kind (03 R40). -/
def kindSeenAfter (seen : KindSeen) : Option Kind → KindSeen
  | some .status | some .tripNotice | some .yawHalt | some .yawPropose | some .yawAnswer | some .yawCommit
  | some .yawDrive | some .pumpState | some .faultNotice => .nt44
  | some .demand | some .faultAck | some .stationReset | some .configPart => .supervisor
  | some .wind | none => if seen = .unseen then .other else seen

/-- Whether a station is the reported owner of a pump of the loop view that is not the own pump. -/
def State.ownsViewedPump (s : State) (n : Station) : Bool :=
  (s.ownPump != some .a && s.clc.viewA.owner == some n) || (s.ownPump != some .b && s.clc.viewB.owner == some n)

/-- The presence indications of a changed entry: to the CLC, for which it is a loop view change if it names a reported
owner (08 R136), and for the supervisor station to the FLU (03 R42). -/
def State.indicatePresence (s : State) (n : Station) : State :=
  let t := if s.ownsViewedPump n then s.viewChanged.settle else s
  if t.supervisor = some n then t.supervisorIndication (t.isPresent n) else t

/-- After a presence change of an entry seen as NT44 the mismatch test is made (03 R46), after the presence indications
(log entry 22). -/
def State.mismatchAfter (s : State) (n : Station) : State :=
  if (s.peer n).seen = .nt44 then s.mismatchTest else s

/-- A presence refresh (03 R39, R40). -/
def State.refresh (s : State) (n : Station) (kind : Option Kind) : State :=
  let e := s.peer n
  let t := s.setPeer n { e with silence := 0, presence := .present, seen := kindSeenAfter e.seen kind }
  if e.presence = .present then t else (t.indicatePresence n).mismatchAfter n

/-- The demand record goes stale: SUPERVISOR_LOST is raised and the permits that change are indicated (03 R48, R49). -/
def State.demandStale (s : State) (n : Station) : State :=
  let run := s.effectiveRun
  let yaw := s.effectiveYaw
  let t : State := { s with ptb := { s.ptb with demand := { s.ptb.demand with fresh := false } } }
  (t.raiseNow .supervisorLost n.val).givePermits run yaw

/-- An entry goes ABSENT: its codes, then its indications (03 R41, R42). -/
def State.goAbsent (s : State) (n : Station) : State :=
  let e := s.peer n
  let t := s.setPeer n { e with
    presence := .absent
    standing := if e.standing = .current then .old else e.standing }
  let t := if e.seen = .nt44 then t.raiseNow .peerLost n.val else t
  let t := if t.supervisor = some n then t.demandStale n else t
  (t.indicatePresence n).mismatchAfter n

/-- A silence timer expiry at one entry (03 R41): the count saturates at 7 (R38). -/
def State.silenceAt (s : State) (n : Station) : State :=
  let e := s.peer n
  if n ≠ s.own ∧ e.presence = .present then
    let t := s.setPeer n { e with silence := min 7 (e.silence + 1) }
    if 3 ≤ (t.peer n).silence then t.goAbsent n else t
  else s

/-! ## The records (03 R44 to R51) -/

/-- A STATUS handed to the PTB (03 R44). -/
def State.takeStatus (s : State) (n : Station) (r : StatusRecord) : State :=
  (s.setPeer n { s.peer n with
    record := some r
    standing := .current
    serial := if r.phase = .configured then r.serial else 0
    tripped := false }).mismatchTest

/-- A TRIP_NOTICE handed to the PTB (03 R45). -/
def State.takeTripNotice (s : State) (n : Station) : State := s.setPeer n { s.peer n with tripped := true }

/-- A DEMAND handed to the PTB: its fields brought into range, SUPERVISOR_LOST cleared, the permits indicated (03 R47,
R49). -/
def State.takeDemand (s : State) (f : DemandFields) : State :=
  let run := s.effectiveRun
  let yaw := s.effectiveYaw
  let t : State := { s with ptb := { s.ptb with demand :=
    { power := min f.power s.prm.maxPower
      ramp := max 1 (min f.ramp 5000)
      run := f.run
      yaw := f.yaw
      fresh := true } } }
  let t := if inMembers .supervisorLost t.flu.members then t.clearNow .supervisorLost else t
  t.givePermits run yaw

/-- A wind angle brought into -1800 to 1799 modulo 3600 (03 R50). -/
def windAngle (a : Int) : Int := (a + 1800) % 3600 - 1800

/-- A WIND handed to the PTB (03 R50). -/
def State.takeWind (s : State) (angle : Int) (speed : Nat) : State :=
  let a := windAngle angle
  State.ywcWind
    { s with ptb := { s.ptb with
      wind := { angle := a, speed := min speed 600, fresh := true }
      windTimer := some 2000 } } a

/-- The configured indication at the PTB (03 R54, R48, R49): the silence timer, the supervisor indication,
SUPERVISOR_LOST where the named entry is not PRESENT, the mismatch test, and the permit indications. -/
def State.ptbConfigured (s : State) : State :=
  let n := s.prm.supervisor
  let t : State := { s with ptb := { s.ptb with silenceTimer := some s.period } }
  let t := t.supervisorIndication (t.isPresent n)
  let t := if t.isPresent n then t else t.raiseNow .supervisorLost n.val
  t.mismatchTest.givePermits false false

end Sys2Proof.Machine
end

