-- ==== Sys2Proof/Machine/Identity.lean ====
section
/-! DEFINITION. The Identity and Configuration Unit (02): straps, assembly, validation, acceptance, and the two
resets. -/

namespace Sys2Proof.Machine

/-! ## The strap latch (02 R23, 12 R196) -/

/-- The role of a two-pin strap code; code 3 is taken as NONE (02 R23). -/
def strapRole (code : Nat) : Role :=
  match code with
  | 1 => .a
  | 2 => .b
  | _ => .noRole

/-- The strap values that the pins select: ST0 to ST2, PR0, PR1, FR0, FR1, YD0, YD1 and LR from bit 0 up (02 R23,
12 R196). -/
def latchStraps (pins : BitVec 10) : Straps :=
  let n := pins.toNat
  { station := Fin.ofNat 8 (bitField n 0 3)
    pumpRole := strapRole (bitField n 3 2)
    fanRole := strapRole (bitField n 5 2)
    drives := min 2 (bitField n 7 2)
    fastLine := bitField n 9 1 == 1 }

/-- The line rate in bits per second (02 R23, 01 R2). -/
def Straps.lineRate (x : Straps) : Nat := if x.fastLine then 1000000 else 500000

/-! ## Validation (02 R29 to R31) -/

/-- Whether a value lies in a range, both ends included (02 R30). -/
def within (lo hi v : Nat) : Bool := decide (lo ≤ v) && decide (v ≤ hi)

/-- Whether a sector start passes (02 R31). -/
def sectorStartOk (c start : Nat) : Bool := start % 16 == 0 && decide (start < c)

/-- Whether a sector length passes (02 R31). -/
def sectorLengthOk (c len : Nat) : Bool := len % 16 == 0 && within 16 (c / 4) len

/-- Whether two sectors do not overlap (02 R31). -/
def sectorsApart (c a m b n : Nat) : Bool :=
  decide ((m : Int) ≤ ((b : Int) - (a : Int)) % (c : Int)) && decide ((n : Int) ≤ ((a : Int) - (b : Int)) % (c : Int))

/-- The tests of the fields in ascending field number (02 R29 to R31). Fields 7, 8 and 33 always pass. -/
def fieldTests (own : Station) (p : Params) : List Bool :=
  [ p.supervisor != own,
    within 20 250 p.statusInterval,
    within 500 5000 p.ratedPower,
    within 500 20000 p.maxPower,
    within 0 p.maxPower p.fallbackDemand,
    within 1 5000 p.fallbackRamp,
    true,
    true,
    within 1 5000 p.stopRamp,
    within 500 10000 p.prechargeTime,
    within 10 600 p.coolDown,
    within 200 800 p.derateStart,
    within (p.derateStart + 20) 900 p.tripTemp,
    within 10 500 p.fanCapacity,
    within 0 100 p.lossFraction,
    within 5 60 p.flowGrace,
    within 1 720 p.dutyHours,
    within 720 16384 p.counts,
    within 0 (p.counts - 1) p.markPosition,
    within p.counts (min (4 * p.counts) 65535) p.twistLimit,
    within p.counts (p.twistLimit - 1) p.untwistThreshold,
    within 0 250 p.untwistWind,
    decide (p.startTwist.natAbs ≤ p.twistLimit),
    within 0 2 p.sectorCount,
    decide (p.sectorCount = 0) || sectorStartOk p.counts p.sector1Start,
    decide (p.sectorCount = 0) || sectorLengthOk p.counts p.sector1Length,
    decide (p.sectorCount ≤ 1) || sectorStartOk p.counts p.sector2Start,
    decide (p.sectorCount ≤ 1) ||
      (sectorLengthOk p.counts p.sector2Length &&
        sectorsApart p.counts p.sector1Start p.sector1Length p.sector2Start p.sector2Length),
    within 20 450 p.misalignment,
    within 4 512 p.overrunMargin,
    within 1 12 p.minDrives,
    within 10 600 p.holdoff,
    true,
    within 1 32 p.watermark ]

/-- The number of the first failing field, counting from `n`; none if every field passes (02 R29). -/
def firstFailing (n : Nat) : List Bool → Option Nat
  | [] => none
  | ok :: rest => if ok then firstFailing (n + 1) rest else some n

/-- The outcome of validation: the first failing field number, or none (02 R29). -/
def validate (own : Station) (p : Params) : Option Nat := firstFailing 1 (fieldTests own p)

/-! ## Acceptance (02 R25, R33) -/

/-- The configured indication at the LIF: the status interval timer starts afresh (01 R13). -/
def State.lifConfigured (s : State) : State := { s with lif := { s.lif with statusTimer := some s.period } }

/-- The configured indication at the CLC: the sample timer, the fan step timer, the cover, and the start, view and flow
tests (08 R138, R139, R148; 09 R151, R158, R161). -/
def State.clcConfigured (s : State) : State :=
  State.viewChanged
    { s with clc := { s.clc with
      sampleTimer := some s.period
      fanStepTimer := if s.ownsFans then some 60000 else s.clc.fanStepTimer
      cover := .uncovered } }

/-- The configured indication, block by block in the order of 02's table (R25; log entry 20). -/
def State.configuredIndication (s : State) : State :=
  let t := s.lifConfigured.testPressure.ptbConfigured
  (t.stcConfigured.settle.ywcConfigured.clcConfigured).settle

/-- A record is accepted (02 R33). -/
def State.accept (s : State) (serial : Nat) (p : Params) : State :=
  State.configuredIndication
    { s with icu := { s.icu with
      phase := .configured
      assembly := none
      params := some p
      serial := serial
      reject := 0 } }

/-- A record is rejected (02 R32). -/
def State.rejectRecord (s : State) (field : Nat) : State :=
  State.raiseNow { s with icu := { s.icu with assembly := none, reject := field } } .configRejected field

/-- Validation of 48 bytes within the arrival of part 5 (02 R29). -/
def State.validateRecord (s : State) (a : Assembly) : State :=
  let p := decodeRecord a.bytes
  match validate s.own p with
  | some field => s.rejectRecord field
  | none => s.accept a.serial p

/-- Set the assembly record. -/
def State.setAssembly (s : State) (a : Assembly) : State := { s with icu := { s.icu with assembly := some a } }

/-- Whether a target station field names this station: the own number, or 8 for all (02 R26, R34). -/
def State.targeted (s : State) (target : Nat) : Bool := target == s.own.val || target == 8

/-- A later part (02 R28). -/
def State.takeLaterPart (s : State) (f : PartFields) : State :=
  match s.icu.assembly with
  | none => s
  | some a =>
    if f.index = a.next ∧ f.serial = a.serial then
      let a' : Assembly := { a with next := a.next + 1, bytes := a.bytes ++ f.bytes }
      if f.index = 5 then s.validateRecord a' else s.setAssembly a'
    else s

/-- A CONFIG_PART at the ICU (02 R26 to R28). -/
def State.takePart (s : State) (f : PartFields) : State :=
  if s.configured || !s.targeted f.target || decide (5 < f.index) then s
  else if f.index = 0 then
    if f.serial = 0 then s else s.setAssembly { serial := f.serial, next := 1, bytes := f.bytes }
  else s.takeLaterPart f

/-! ## Resets (02 R35, R36) -/

/-- At the end of every reset a pump owner requests one PUMP_STATE (08 R134, R149). -/
def State.reportAtReset (s : State) : State := s.requestPump

/-- A full reset (02 R36): the straps are latched, every block takes its full-reset values, and the qualified levels
take those of the first sample (06 R94, 12 R196). The hold passes within it (log entry 28). -/
def State.fullReset (s : State) (pins : BitVec 10) (first : Levels) : State :=
  let straps := latchStraps pins
  State.reportAtReset
    { s with
      icu := Icu.atReset straps
      lif := Lif.atReset
      ptb := Ptb.atReset
      stc := Stc.atReset first.contactorClosed
      ywc := Ywc.atReset straps.drives
      clc := Clc.atReset straps.pumpRole
      flu := Flu.atReset
      levels := first
      differing := Differing.none }

/-- The YWC through a line reset: position, twist and the copies stand (06 R110). -/
def Ywc.lineReset (y : Ywc) (drives : Nat) : Ywc :=
  { Ywc.atReset drives with
    turn := y.turn
    position := y.position
    referenced := y.referenced
    twist := y.twist
    known := y.known }

/-- The FLU through a line reset (10 R181, 11 R191): the log stands with every ACTIVE entry INACTIVE and every
IN_SERVICE entry PENDING; the counter, the seconds, the clock timer and the overflow flag stand. -/
def Flu.lineReset (f : Flu) : Flu :=
  { Flu.atReset with
    seconds := f.seconds
    clockTimer := f.clockTimer
    log := f.log.map (fun e =>
      { e with active := false, report := if e.report = .inService then .pending else e.report })
    counter := f.counter
    overflow := f.overflow }

/-- A line reset (02 R35): straps, line rate and qualified levels stand, sampling runs on. -/
def State.lineReset (s : State) : State :=
  State.reportAtReset
    (State.testPressure
      { s with
        icu := Icu.atReset s.icu.straps
        lif := Lif.atReset
        ptb := Ptb.atReset
        stc := Stc.atReset s.levels.contactorClosed
        ywc := s.ywc.lineReset s.icu.straps.drives
        clc := Clc.atReset s.icu.straps.pumpRole
        flu := s.flu.lineReset })

end Sys2Proof.Machine
end

