-- ==== Sys2Proof/Machine/Reception.lean ====
section
/-! DEFINITION. The LIF's shared operations on received frames and on the STATUS: the error counter, the decisions at one
arrival, STATUS composition and the STATUS place (01 R12 to R20). -/

namespace Sys2Proof.Machine

/-! ## Reception (01 section 1.6) -/

/-- A damaged frame (01 R15, R16): the counter rises by 8, saturating at 255; the line is no longer idle (01 R2). -/
def State.damaged (s : State) : State :=
  let n := min 255 (s.lif.errors + 8)
  if 96 ≤ n ∧ s.lif.degraded = false then
    State.raiseNow { s with lif := { s.lif with errors := n, lineIdle := false, degraded := true } } .lineDegraded n
  else { s with lif := { s.lif with errors := n, lineIdle := false } }

/-- The count of a good frame (01 R16): the counter falls by 1, not below 0. -/
def State.countGood (s : State) : State :=
  let n := s.lif.errors - 1
  if n < 64 ∧ s.lif.degraded = true then
    State.clearNow { s with lif := { s.lif with errors := n, lineIdle := false, degraded := false } } .lineDegraded
  else { s with lif := { s.lif with errors := n, lineIdle := false } }

/-- A good frame under the own number that is not the own frame (01 R16, R17). -/
def State.duplicate (s : State) (kindCode : Nat) : State := s.countGood.raiseNow .duplicateStation kindCode

/-- The sender test (01 R19). -/
def State.passes (s : State) (kind : Kind) (source : Station) : Bool :=
  !kind.supervisorOnly ||
    (if s.configured then source == s.prm.supervisor else kind == .configPart || kind == .stationReset)

/-- One received frame of a known kind, taken through the decisions of 01 section 1.6 in order: its length (R15), its
count (R16), its source (R17), the presence refresh (R18), the sender test (R19) and the owner's arrival `deliver`
(R20). -/
def State.receive (s : State) (kind : Kind) (source : Station) (payload : List Byte) (deliver : State → State) : State :=
  if payload.length = kind.payloadLength then
    if source = s.own then s.duplicate kind.code
    else
      let t := s.countGood.refresh source (some kind)
      if t.passes kind source then deliver t else t
  else s.damaged

/-! ## STATUS composition (01 section 1.5) -/

/-- The STATUS of the moment (01 R13). -/
def State.composeStatus (s : State) : StatusRecord where
  phase := s.icu.phase
  stringState := s.stc.state
  participant := s.ywc.participant
  eligible := s.eligible
  twistKnown := s.ywc.known
  overflow := s.flu.overflow
  pressure := s.flu.pressure
  fanRole := s.icu.straps.fanRole
  fanStages := if s.ownsFans then s.clc.nFan else 0
  pumpOwner := s.clc.owner
  limit := if s.configured then s.stc.limit else 0
  drives := s.icu.straps.drives
  setpoint := s.stc.setpoint
  reject := s.icu.reject
  loss := s.stc.loss
  supplyValid := s.clc.rawValid
  supply := s.clc.raw
  referenced := s.ywc.referenced
  position := s.ywc.position
  unacked := unackedCount s.flu.log
  twist := s.ywc.twist
  serial := if s.configured then s.icu.serial else 0

/-- Put a composed STATUS into the STATUS place (01 R12). -/
def State.placeStatus (s : State) (payload : List Byte) : State :=
  { s with lif := { s.lif with statusPlace := some payload } }

/-- Replace the STATUS of the queue in its place, with attempt count 0 (01 R12). -/
def State.replaceStatus (s : State) (payload : List Byte) : State :=
  let queue := s.lif.queue.map (fun f => if f.kind = .status then s.newFrame .status payload else f)
  { s with lif := { s.lif with queue := queue } }

/-- A newly composed STATUS, handled by the first case of 01 R12 that applies. -/
def State.handleStatus (s : State) (payload : List Byte) : State :=
  if s.lif.hasStatus then
    if s.lif.queue.any (fun f => f.kind == .status && f.transmitting) then s.placeStatus payload
    else s.replaceStatus payload
  else if s.hasPlace then s.enqueue .status payload
  else s.placeStatus payload

/-! ## The end of a transmission (01 R3 to R6, R12) -/

/-- The frame in transmission, if there is one. -/
def Lif.inTransmission (l : Lif) : Option QueuedFrame := l.queue.find? (·.transmitting)

/-- The frame in transmission stays in the queue, no longer in transmission, after a failed attempt (`failed`) or lost
arbitration (01 R3, R4). -/
def Lif.stopSending (l : Lif) (failed : Bool) : Lif :=
  { l with
    sent := none
    queue := l.queue.map (fun f =>
      if f.transmitting = true then
        { f with transmitting := false, attempts := if failed = true then f.attempts + 1 else f.attempts }
      else f) }

/-- The frame in transmission leaves the queue (01 R5, R6). -/
def Lif.removeSent (l : Lif) : Lif := { l with sent := none, queue := l.queue.filter (fun f => !f.transmitting) }

/-- After an ended transmission that left a STATUS in the queue, a waiting STATUS replaces it (01 R12). -/
def State.refreshStatus (s : State) (f : QueuedFrame) : State :=
  match f.kind, s.lif.statusPlace with
  | .status, some p =>
    let t := s.replaceStatus p
    { t with lif := { t.lif with statusPlace := none } }
  | _, _ => s

/-- The discard notice and the raise of LINE_TX_FAIL of a sixteenth failed attempt (01 R5, R11). -/
def State.reportDiscard (s : State) (f : QueuedFrame) : State :=
  (s.discardNotice f).raiseNow .lineTxFail f.kind.code

/-- Whether a STATUS whose transmission ended has a successor waiting in the STATUS place (01 R12). -/
def State.hasSuccessor (s : State) (f : QueuedFrame) : Bool := f.kind == .status && s.lif.statusPlace.isSome

/-- A discard after 16 failed attempts (01 R5, R9). For a STATUS with a successor waiting, R5 takes effect first and the
successor is then offered (01 R12); otherwise the place-free indication may be worked before or after the notice and the
raise (log entry 12). -/
def State.discardSent (s : State) (f : QueuedFrame) : State :=
  let t : State := { s with lif := s.lif.removeSent }
  if s.hasSuccessor f then (t.reportDiscard f).placeFree
  else if Config.placeFreeFirst s.draws then t.drew.placeFree.reportDiscard f
  else (t.drew.reportDiscard f).placeFree

end Sys2Proof.Machine
end

