-- ==== Sys2Proof/Machine/CoolantCommands.lean ====
section
/-! DEFINITION. The meanings of the commands of the Coolant Controller (08, 09). -/

namespace Sys2Proof.Machine

/-! ## Pumps (08) -/

/-- A loop view change, with the FLU's work on what it brings about (08 R136, 10 R166). -/
def State.lookAgain (s : State) : State := s.viewChanged.settle

/-- Failure of the own pump for a cause, its codes, and the loop view change it is (08 R141, R136). -/
def State.pumpFails (s : State) (cause : Int) : State := (s.failPump cause).settle.lookAgain

/-- A PUMP_STATE naming the own pump (08 R146). -/
def State.pumpConflict (s : State) (source : Station) : State :=
  if s.clc.conflict then s
  else
    let t := State.raiseNow { s with clc := { s.clc with conflict := true } } .roleConflict source.val (some .pump)
    if source.val < t.own.val then t.pumpFails 3 else t

/-- A PUMP_STATE at the CLC: the own pump's is a conflict (08 R146), any other is taken into the view or ignored (08 R135),
and one taken brings a handover request (08 R143) and a loop view change (08 R136). That a request is taken before the
tests of the loop view change, the flow test among them, is the model's choice (log entry 38). -/
def State.takePump (s : State) (f : PumpFields) (source : Station) : State :=
  if s.ownPump = some f.pump then s.pumpConflict source
  else if s.takesView f.pump source then ((s.takeView f source).handoverRequest f).lookAgain
  else s

/-- PUMP_STATE received (08 R135, R143, R146). -/
def execPumpState (source : Station) (payload : List Byte) (s : State) : Host.Outcome State Fault Refusal :=
  .next (s.receive .pumpState source payload (fun t =>
    match decodePump payload with
    | some f => t.takePump f source
    | none => t))

/-- PUMP_REPORT_TIMER_EXPIRY (08 R134). -/
def execPumpReportTimerExpiry (s : State) : Host.Outcome State Fault Refusal :=
  .next
    (if s.clc.reportTimer.isSome then
      State.requestPump { s with clc := { s.clc with reportTimer := some 1000 } }
    else s)

/-- START_HOLD_EXPIRY (08 R139). -/
def execStartHoldExpiry (s : State) : Host.Outcome State Fault Refusal :=
  .next
    (if s.clc.startHold.isSome then
      let t : State := { s with clc := { s.clc with startHold := none } }
      if t.mayStartPump then t.enterStarting.lookAgain else t
    else s)

/-- FLOW_SWITCH_SHOWS_FLOW (08 R137, R140). -/
def execFlowSwitchShowsFlow (s : State) : Host.Outcome State Fault Refusal :=
  .next
    (if s.levels.flow then s
    else
      let t : State := { s with levels := { s.levels with flow := true } }
      if t.clc.owner = .starting then t.enterRunning.lookAgain else t)

/-- FLOW_SWITCH_NO_FLOW (08 R137): cause 2 in RUNNING and HANDING_OFF. -/
def execFlowSwitchNoFlow (s : State) : Host.Outcome State Fault Refusal :=
  .next
    (if s.levels.flow then
      let t : State := { s with levels := { s.levels with flow := false } }
      if t.clc.owner = .running ∨ t.clc.owner = .handingOff then t.pumpFails 2 else t
    else s)

/-- FLOW_CONFIRM_EXPIRY (08 R140, R141): cause 1. -/
def execFlowConfirmExpiry (s : State) : Host.Outcome State Fault Refusal :=
  .next (if s.clc.confirmTimer.isSome then s.pumpFails 1 else s)

/-- Whether the other pump can take the loop: reported STANDBY by a PRESENT owner (08 R142). -/
def State.otherReady (s : State) : Bool :=
  match s.ownPump with
  | some p => s.reported p.other == .shown .standby && s.ownerPresent p.other
  | none => false

/-- The end of a duty period (08 R142). -/
def State.dutyEnds (s : State) : State :=
  if s.otherReady then (s.changeOwner .handingOff).lookAgain else s.loadDuty

/-- DUTY_MINUTE_EXPIRY (08 R142). -/
def execDutyMinuteExpiry (s : State) : Host.Outcome State Fault Refusal :=
  .next
    (if s.clc.dutyTimer.isSome then
      let t : State := { s with clc := { s.clc with dutyTimer := some 60000, duty := s.clc.duty - 1 } }
      if t.clc.duty = 0 then t.dutyEnds else t
    else s)

/-- HANDOFF_TIMER_EXPIRY (08 R144). -/
def execHandoffTimerExpiry (s : State) : Host.Outcome State Fault Refusal :=
  .next (if s.clc.handoffTimer.isSome then s.enterRunning.lookAgain else s)

/-- The flow is lost at the end of the grace (08 R147). That the flow indication comes before the raise of FLOW_LOST is the
model's choice (log entry 32). -/
def State.flowLost (s : State) : State :=
  let t := State.setFlow { s with clc := { s.clc with graceTimer := none } } .flowLost
  State.raiseNow { t with clc := { t.clc with lostFlag := true } } .flowLost t.pumpsFailed

/-- FLOW_GRACE_EXPIRY (08 R147). -/
def execFlowGraceExpiry (s : State) : Host.Outcome State Fault Refusal :=
  .next (if s.clc.graceTimer.isSome then s.flowLost else s)

/-! ## The sample timer (09) -/

/-- The vote and what it sets (09 R152 to R154). That the voted temperature is given to the STC, with the FLU's work on
what it brings about, before the two code tests is the model's choice (log entry 33), and so is that SENSOR_DISAGREE is
tested before SENSOR_SUPPLY (log entry 40). -/
def State.voteRound (s : State) : State :=
  let peers := s.peerReadings
  let v := voteOf s.clc.raw s.clc.rawValid peers
  let t := (State.stcTheta { s with clc := { s.clc with theta := v.theta } } v.theta).settle
  ((t.disagreeTest v).settle.supplyTest v peers.length).settle

/-- The fan computations of a sample (09 R157, R159), made in phase CONFIGURED by an owner of a bank. -/
def State.heatRound (s : State) : State :=
  if s.configured && s.ownsFans then s.formHeat.raiseStages else s

/-- SAMPLE_TIMER_EXPIRY (09 R151 to R154, R157, R159, R161, R162). The rules put the reading before the vote, the heat
count after the vote, R159 after the heat count and the cover after R159. That the code tests of R154 come before the heat
count and the rival test of R162 last is the model's choice (log entry 33). -/
def execSampleTimerExpiry (word : BitVec 12) (s : State) : Host.Outcome State Fault Refusal :=
  .next
    (if s.clc.sampleTimer.isSome then
      (State.readSupply { s with clc := { s.clc with sampleTimer := some s.period } } word).voteRound.heatRound.setCover.rivalTest.settle
    else s)

/-! ## Fans (09) -/

/-- FAN_STEP_EXPIRY (09 R158, R159). -/
def execFanStepExpiry (s : State) : Host.Outcome State Fault Refusal :=
  .next
    (if s.clc.fanStepTimer.isSome then
      State.stepStages
        { s with clc := { s.clc with
          fanStepTimer := some 60000
          nTemp := stepTemp s.clc.nTemp s.prm.derateStart s.clc.theta } }
    else s)

/-- FAN_FEEDBACK_CHANGE (09 R156): the feedback timer runs exactly while the output is on and the feedback does not
show. -/
def execFanFeedbackChange (fan : Fin 3) (shows : Bool) (s : State) : Host.Outcome State Fault Refusal :=
  .next
    (if shows = s.levels.fans[fan] then s
    else
      let f := s.clc.fans[fan]
      let timer : Timer := if f.output && !shows then some 5000 else none
      { s with
        levels := { s.levels with fans := s.levels.fans.set fan shows }
        clc := { s.clc with fans := s.clc.fans.set fan { f with timer := timer } } })

/-- The number of a fan of the own bank: 1 to 3 in bank A, 4 to 6 in bank B (09 R155). -/
def State.fanNumber (s : State) (fan : Fin 3) : Nat :=
  match s.icu.straps.fanRole with
  | .b => fan.val + 4
  | .a | .noRole => fan.val + 1

/-- FAN_FEEDBACK_TIMER_EXPIRY (09 R156): the fan has failed; the duty is applied again. -/
def execFanFeedbackTimerExpiry (fan : Fin 3) (s : State) : Host.Outcome State Fault Refusal :=
  .next
    (if s.clc.fans[fan].timer.isSome then
      let failed : Fan := { output := false, healthy := false, timer := none }
      State.applyDuty
        (State.raiseNow { s with clc := { s.clc with fans := s.clc.fans.set fan failed } } .fanFailed (s.fanNumber fan))
    else s)

end Sys2Proof.Machine
end

