-- ==== Sys2Proof/Machine/FaultCommands.lean ====
section
/-! DEFINITION. The meanings of the commands of the Fault Unit (10, 11). -/

namespace Sys2Proof.Machine

/-- STATION_CLOCK_EXPIRY (10 R171): station seconds rise by one and saturate. -/
def execStationClockExpiry (s : State) : Host.Outcome State Fault Refusal :=
  .next
    (if s.flu.clockTimer.isSome then
      { s with flu := { s.flu with clockTimer := some 1000, seconds := min 4294967295 (s.flu.seconds + 1) } }
    else s)

/-- The entry of a class that is IN_SERVICE (11 R184). -/
def inServiceOf (c : FaultClass) (log : List Entry) : Option Entry :=
  log.find? (fun e => e.report == .inService && e.cls == c)

/-- NOTICE_REPEAT_EXPIRY (11 R186): the entry of the class that is IN_SERVICE is announced again with its fields as they
then stand. -/
def execNoticeRepeatExpiry (cls : FaultClass) (s : State) : Host.Outcome State Fault Refusal :=
  .next
    (if (s.flu.repeats.timer cls).isSome then
      let t := s.stopRepeat cls
      match inServiceOf cls t.flu.log with
      | some e => t.requestNotice e
      | none => t
    else s)

/-- FAULT_ACK received (11 R189): taken where it names this station or all stations. -/
def execFaultAck (source : Station) (payload : List Byte) (s : State) : Host.Outcome State Fault Refusal :=
  .next (s.receive .faultAck source payload (fun t =>
    match decodeAck payload with
    | some (target, order) => if t.targeted target then t.acknowledge order else t
    | none => t))

end Sys2Proof.Machine
end

