-- ==== Sys2Proof/Machine/LineCommands.lean ====
section
/-! DEFINITION. The meanings of the commands of the Line Interface and of the frames handed to no block (01). -/

namespace Sys2Proof.Machine

/-- LINE_IDLE (01 R2): the head of the queue begins. A line on which the own frame is in transmission is not idle (log
entry 11). -/
def execLineIdle (s : State) : Host.Outcome State Fault Refusal :=
  .next (if s.lif.transmits then s else { s with lif := Lif.beginIfIdle { s.lif with lineIdle := true } })

/-- LOST_ARBITRATION (01 R3, R12). -/
def execLostArbitration (s : State) : Host.Outcome State Fault Refusal :=
  .next
    (match s.lif.inTransmission with
      | some f => State.refreshStatus { s with lif := s.lif.stopSending false } f
      | none => s)

/-- READ_BACK_MISMATCH (01 R4, R5, R12). -/
def execReadBackMismatch (s : State) : Host.Outcome State Fault Refusal :=
  .next
    (match s.lif.inTransmission with
      | some f =>
        if 16 ≤ f.attempts + 1 then s.discardSent f
        else State.refreshStatus { s with lif := s.lif.stopSending true } f
      | none => s)

/-- FRAME_GONE_OUT_WHOLE (01 R6, R9, R12). -/
def execFrameGoneOutWhole (s : State) : Host.Outcome State Fault Refusal :=
  .next
    (match s.lif.inTransmission with
      | some f => (State.completionNotice { s with lif := s.lif.removeSent } f).placeFree
      | none => s)

/-- STATUS_INTERVAL_EXPIRY (01 R13, R12). -/
def execStatusIntervalExpiry (s : State) : Host.Outcome State Fault Refusal :=
  .next
    (if s.lif.statusTimer.isSome then
      State.handleStatus { s with lif := { s.lif with statusTimer := some s.period } } (encodeStatus s.composeStatus)
    else s)

/-- DAMAGED_FRAME (01 R15, R16). -/
def execDamagedFrame (s : State) : Host.Outcome State Fault Refusal := .next s.damaged

/-- OWN_NUMBER_FRAME (01 R16, R17). -/
def execOwnNumberFrame (kind : BitVec 6) (s : State) : Host.Outcome State Fault Refusal :=
  .next (s.duplicate kind.toNat)

/-- UNKNOWN_KIND_FRAME (01 R16 to R18). -/
def execUnknownKindFrame (kind : BitVec 6) (source : Station) (s : State) : Host.Outcome State Fault Refusal :=
  .next (if source = s.own then s.duplicate kind.toNat else s.countGood.refresh source none)

/-- FAULT_NOTICE from a peer (01 R1, R20): no further than its presence refresh. -/
def execFaultNotice (source : Station) (payload : List Byte) (s : State) : Host.Outcome State Fault Refusal :=
  .next (s.receive .faultNotice source payload (fun t => t))

end Sys2Proof.Machine
end

