-- ==== Sys2Proof/Machine/PeerCommands.lean ====
section
/-! DEFINITION. The meanings of the commands of the Peer Table (03) and of the Identity and Configuration Unit (02). -/

namespace Sys2Proof.Machine

/-- STATUS received (03 R44). -/
def execStatus (source : Station) (payload : List Byte) (s : State) : Host.Outcome State Fault Refusal :=
  .next (s.receive .status source payload (fun t =>
    match decodeStatus payload with
    | some r => t.takeStatus source r
    | none => t))

/-- TRIP_NOTICE received (03 R45). -/
def execTripNotice (source : Station) (payload : List Byte) (s : State) : Host.Outcome State Fault Refusal :=
  .next (s.receive .tripNotice source payload (fun t =>
    match decodeTrip payload with
    | some _ => t.takeTripNotice source
    | none => t))

/-- DEMAND received (03 R47). -/
def execDemand (source : Station) (payload : List Byte) (s : State) : Host.Outcome State Fault Refusal :=
  .next (s.receive .demand source payload (fun t =>
    match decodeDemand payload with
    | some f => t.takeDemand f
    | none => t))

/-- WIND received (03 R50). -/
def execWind (source : Station) (payload : List Byte) (s : State) : Host.Outcome State Fault Refusal :=
  .next (s.receive .wind source payload (fun t =>
    match decodeWind payload with
    | some (angle, speed) => t.takeWind angle speed
    | none => t))

/-- WIND_AGE_TIMER_EXPIRY (03 R51): the record goes stale, and the wind-stale indication empties the window (06 R101). -/
def execWindAgeTimerExpiry (s : State) : Host.Outcome State Fault Refusal :=
  .next
    (if s.ptb.windTimer.isSome then
      State.emptyWindow
        { s with ptb := { s.ptb with wind := { s.ptb.wind with fresh := false }, windTimer := none } }
    else s)

/-- SILENCE_TIMER_EXPIRY (03 R41): the entries in ascending station number. -/
def execSilenceTimerExpiry (s : State) : Host.Outcome State Fault Refusal :=
  .next
    (if s.ptb.silenceTimer.isSome then
      stations.foldl State.silenceAt { s with ptb := { s.ptb with silenceTimer := some s.period } }
    else s)

/-- CONFIG_PART received (02 R26 to R33). -/
def execConfigPart (source : Station) (payload : List Byte) (s : State) : Host.Outcome State Fault Refusal :=
  .next (s.receive .configPart source payload (fun t =>
    match decodePart payload with
    | some f => t.takePart f
    | none => t))

/-- STATION_RESET received (02 R34, R35). The frame's own presence refresh comes before the line reset, by the order of 01
R18 and 03 R39, and the reset table does not keep it, so the sender is NEVER_HEARD: the model's choice beside the last
sentence of 03 R53 (log entry 30). -/
def execStationReset (source : Station) (payload : List Byte) (s : State) : Host.Outcome State Fault Refusal :=
  .next (s.receive .stationReset source payload (fun t =>
    match decodeReset payload with
    | some target => if t.targeted target then t.lineReset else t
    | none => t))

/-- FULL_RESET (02 R36), at its end. -/
def execFullReset (pins : BitVec 10) (first : Levels) (s : State) : Host.Outcome State Fault Refusal :=
  .next (s.fullReset pins first)

end Sys2Proof.Machine
end

