-- ==== Sys2Proof/Machine/StringCommands.lean ====
section
/-! DEFINITION. The meanings of the commands of the String Controller (04, 05). A feedback command carries the new
qualified level; one that repeats the standing level describes no change (log entry 11). -/

namespace Sys2Proof.Machine

/-- DC_LINK_READY (04 R56, R60). -/
def execDcLinkReady (shows : Bool) (s : State) : Host.Outcome State Fault Refusal :=
  .next
    (if shows = s.levels.dcLink then s
    else
      let t : State := { s with levels := { s.levels with dcLink := shows } }
      if shows = true ∧ t.stc.state = .precharge then t.enterSync else t)

/-- PRECHARGE_TIMER_EXPIRY (04 R60, R66). -/
def execPrechargeTimerExpiry (s : State) : Host.Outcome State Fault Refusal :=
  .next
    (if s.stc.prechargeTimer.isSome then
      let t : State := { s with stc := { s.stc with prechargeTimer := none } }
      (t.trip .prechargeTimeout (some (.prechargeTimeout, (s.prm.prechargeTime : Int)))).settle
    else s)

/-- GRID_SYNC_ACHIEVED (04 R56, R62). -/
def execGridSyncAchieved (shows : Bool) (s : State) : Host.Outcome State Fault Refusal :=
  .next
    (if shows = s.levels.gridSync then s
    else
      let t : State := { s with levels := { s.levels with gridSync := shows } }
      if shows = true ∧ t.stc.state = .sync then t.enterRun else t)

/-- SYNC_TIMER_EXPIRY (04 R62, R66). -/
def execSyncTimerExpiry (s : State) : Host.Outcome State Fault Refusal :=
  .next
    (if s.stc.syncTimer.isSome then
      let t : State := { s with stc := { s.stc with syncTimer := none } }
      (t.trip .syncTimeout (some (.syncTimeout, (syncPeriod : Int)))).settle
    else s)

/-- MODULATOR_FAULT_FEEDBACK (04 R70): coming on in an active state, it trips the string. -/
def execModulatorFaultFeedback (shows : Bool) (s : State) : Host.Outcome State Fault Refusal :=
  .next
    (if shows = s.levels.modulatorFault then s
    else
      let t : State := { s with levels := { s.levels with modulatorFault := shows } }
      if shows then t.modulatorTrip.settle else t)

/-- MAIN_CONTACTOR_FEEDBACK_CHANGE (04 R71): the feedback enters the contactor check. -/
def execMainContactorFeedbackChange (closed : Bool) (s : State) : Host.Outcome State Fault Refusal :=
  .next
    (if closed = s.levels.contactorClosed then s
    else
      let timer := contactorCheck (s.stc.mainCommand == s.levels.contactorClosed) (s.stc.mainCommand == closed)
        s.stc.contactorTimer
      { s with
        levels := { s.levels with contactorClosed := closed }
        stc := { s.stc with contactorTimer := timer } })

/-- The value of a found contactor fault (04 R71). -/
def contactorValue (closed : Bool) : Int := if closed then 1 else 2

/-- The fault that a contactor check expiry finds (04 R71): an active string trips, and the code is raised unless the STC
has raised it before. -/
def State.contactorFound (s : State) : State :=
  let value := contactorValue s.levels.contactorClosed
  let t : State := { s with stc := { s.stc with contactorFault := true } }
  if s.stc.state.isActive then
    t.trip .contactorFeedback (if s.stc.contactorFault then none else some (.contactorFeedback, value))
  else if s.stc.contactorFault then s
  else t.raise .contactorFeedback value

/-- CONTACTOR_CHECK_EXPIRY (04 R71). -/
def execContactorCheckExpiry (s : State) : Host.Outcome State Fault Refusal :=
  .next
    (if s.stc.contactorTimer.isSome then
      (State.contactorFound { s with stc := { s.stc with contactorTimer := none } }).settle
    else s)

/-- The string leaves TRIPPED: the held TRIP_NOTICE is dropped (04 R73), and it goes to LOCKED under the string-latch and
to OFF otherwise. In OFF the start conditions fail on a string-latch indication that arrives together with the expiry and
is taken after it; that indication, a command of its own, then moves the string to LOCKED by R59 (04 R74). That the
arriving together is an operand of the expiry is the model's choice (log entry 37). -/
def State.leaveTripped (s : State) (latchArrives : Bool) : State :=
  let t := State.noteHolders { s with stc := { s.stc with heldTrip := none } }
  if t.stc.latch then t.drive .locked 0 else if latchArrives then t.drive .off 0 else t.enterOff

/-- COOL_DOWN_EXPIRY (04 R74). -/
def execCoolDownExpiry (s : State) (latchArrives : Bool := false) : Host.Outcome State Fault Refusal :=
  .next
    (if s.stc.coolDownTimer.isSome then
      let t : State := { s with stc := { s.stc with coolDownTimer := none } }
      if t.stc.state = .tripped then (t.leaveTripped latchArrives).settle else t
    else s)

/-- SHARE_ROUND_EXPIRY (04 R63, R65; 05 R86 to R92). -/
def execShareRoundExpiry (s : State) : Host.Outcome State Fault Refusal :=
  .next
    (if s.stc.shareTimer.isSome then
      (State.shareRound { s with stc := { s.stc with shareTimer := some s.period } }).settle
    else s)

/-- ZERO_LIMIT_HOLD_EXPIRY (04 R64). -/
def execZeroLimitHoldExpiry (s : State) : Host.Outcome State Fault Refusal :=
  .next
    (if s.stc.zeroHoldTimer.isSome then
      let t : State := { s with stc := { s.stc with zeroHoldTimer := none } }
      if t.stc.state = .run then (t.drive .stopping 0).raiseNow .zeroLimitStop 0 else t
    else s)

end Sys2Proof.Machine
end

