-- ==== Sys2Proof/Machine/YawCommands.lean ====
section
/-! DEFINITION. The meanings of the commands of the Yaw Controller (06, 07). -/

namespace Sys2Proof.Machine

/-! ## Counting (06) -/

/-- TOOTH_STEP (06 R95; 07 R123). A station without drives does not read its tooth inputs (06 section 6.1). -/
def execToothStep (channel : Channel) (s : State) : Host.Outcome State Fault Refusal :=
  .next
    (if s.hasSensors then
      let levels := changeTooth s.levels channel
      let clockwise := stepIsClockwise channel levels.toothA levels.toothB
      (State.countStep { s with levels := levels } clockwise).motionStep clockwise
    else s)

/-- The states whose participant an invalid step halts (06 R96). -/
def Participant.haltedByEncoder : Participant → Bool
  | .releasing | .released | .driving => true
  | .idle | .answered | .stopping | .braking => false

/-- What the YWC does when an invalid step brings the count to 4 (06 R96). -/
def State.encoderFails (s : State) : State :=
  State.raiseNow (if s.ywc.participant.haltedByEncoder then s.haltMove .fault else s) .encoderInvalid 4

/-- INVALID_STEP (06 R96). -/
def execInvalidStep (s : State) : Host.Outcome State Fault Refusal :=
  .next
    (if s.hasSensors then
      let levels := changeTooth (changeTooth s.levels .a) .b
      let t : State := { s with
        levels := levels
        ywc := { s.ywc with invalidSteps := min 4 (s.ywc.invalidSteps + 1) } }
      if s.ywc.invalidSteps = 3 then t.encoderFails else t
    else s)

/-- MARK_EDGE (06 R98): a change from high to low has no effect beyond the level. -/
def execMarkEdge (high : Bool) (s : State) : Host.Outcome State Fault Refusal :=
  .next
    (if s.hasSensors = false ∨ high = s.levels.mark then s
    else
      let t : State := { s with levels := { s.levels with mark := high } }
      if high then t.markSeen.settle else t)

/-! ## The proposal test (06 R100 to R108) -/

/-- The proposal test at a check timer expiry, with what follows from its finding (06 R103, R104, R107). -/
def State.testAndPropose (s : State) : State :=
  if s.eligible && !s.defers then
    match s.proposalTest with
    | .nothing => s
    | .plan p => s.propose p
    | .blocked d => (s.raiseNow .yawBlocked d).startHoldoff
  else s

/-- CHECK_TIMER_EXPIRY (06 R100, R103, R104): the vote, then the proposal test. -/
def execCheckTimerExpiry (s : State) : Host.Outcome State Fault Refusal :=
  .next
    (if s.ywc.checkTimer.isSome then
      (State.positionVote { s with ywc := { s.ywc with checkTimer := some s.period } }).settle.testAndPropose
    else s)

/-- PROPOSAL_HOLDOFF_EXPIRY (06 R108), which ends YAW_STALL (07 R124). -/
def execProposalHoldoffExpiry (s : State) : Host.Outcome State Fault Refusal :=
  .next
    (if s.ywc.holdoffTimer.isSome then
      if s.ywc.stall then
        State.clearNow { s with ywc := { s.ywc with holdoffTimer := none, stall := false } } .yawStall
      else { s with ywc := { s.ywc with holdoffTimer := none } }
    else s)

/-! ## The agreement (07) -/

/-- YAW_PROPOSE received (07 R114 to R116). -/
def execYawPropose (source : Station) (payload : List Byte) (s : State) : Host.Outcome State Fault Refusal :=
  .next (s.receive .yawPropose source payload (fun t =>
    match decodePropose payload with
    | some f => t.answerProposal { proposer := source.val, number := f.number } f.path
    | none => t))

/-- A YAW_ANSWER at the proposer, by the phase of the record its ref names (07 R117, R130). -/
def State.takeAnswer (s : State) (source : Station) (f : AnswerFields) : State :=
  match s.ywc.proposal with
  | none => s
  | some r =>
    if r.ref = f.ref then
      match r.phase, f.answer with
      | .collecting, .ready => s.enterAnswer r source (.ready f.drives)
      | .collecting, .refuse => s.enterAnswer r source (.refuse f.reason)
      | .committed, .released => s.joinReleased source
      | _, _ => s
    else s

/-- YAW_ANSWER received (07 R117). -/
def execYawAnswer (source : Station) (payload : List Byte) (s : State) : Host.Outcome State Fault Refusal :=
  .next (s.receive .yawAnswer source payload (fun t =>
    match decodeAnswer payload with
    | some f => t.takeAnswer source f
    | none => t))

/-- ANSWER_TIMER_EXPIRY (07 R118). -/
def execAnswerTimerExpiry (s : State) : Host.Outcome State Fault Refusal :=
  .next
    (if s.ywc.answerTimer.isSome then
      match s.ywc.proposal with
      | some r =>
        if r.phase = .collecting then s.takeDecision r else { s with ywc := { s.ywc with answerTimer := none } }
      | none => { s with ywc := { s.ywc with answerTimer := none } }
    else s)

/-- A YAW_COMMIT (07 R119): it empties the window whatever its ref (06 R101), and is taken in ANSWERED for the current
ref. -/
def State.takeCommit (s : State) (r : Ref) (committed : StationSet) : State :=
  let t := s.emptyWindow
  if t.ywc.participant = .answered ∧ t.ywc.moveRef = some r then
    if inSet committed t.own then t.enterReleasing else t.enterIdle
  else t

/-- YAW_COMMIT received (07 R119). -/
def execYawCommit (source : Station) (payload : List Byte) (s : State) : Host.Outcome State Fault Refusal :=
  .next (s.receive .yawCommit source payload (fun t =>
    match decodeCommit payload with
    | some (r, committed) => t.takeCommit r committed
    | none => t))

/-- COMMIT_WAIT_EXPIRY (07 R119). -/
def execCommitWaitExpiry (s : State) : Host.Outcome State Fault Refusal :=
  .next (if s.ywc.commitWait.isSome then s.enterIdle else s)

/-! ## The brakes (07 R120, R121, R127) -/

/-- BRAKE_FEEDBACK_RELEASED (07 R120): the qualified level of the brake feedback falls. -/
def execBrakeFeedbackReleased (s : State) : Host.Outcome State Fault Refusal :=
  .next
    (if s.levels.brakeApplied then
      let t : State := { s with levels := { s.levels with brakeApplied := false } }
      if t.ywc.participant = .releasing then t.brakesReleased else t
    else s)

/-- BRAKE_TIMER_EXPIRY (07 R120). -/
def execBrakeTimerExpiry (s : State) : Host.Outcome State Fault Refusal :=
  .next (if s.ywc.brakeTimer.isSome then (s.haltMove .fault).raiseNow .brakeFeedback 1 else s)

/-- RELEASE_TIMER_EXPIRY (07 R121). -/
def execReleaseTimerExpiry (s : State) : Host.Outcome State Fault Refusal :=
  .next
    (if s.ywc.releaseTimer.isSome then
      State.haltProposal { s with ywc := { s.ywc with releaseTimer := none } } .abandoned
    else s)

/-- BRAKE_FEEDBACK_APPLIED (07 R127): the qualified level of the brake feedback rises. -/
def execBrakeFeedbackApplied (s : State) : Host.Outcome State Fault Refusal :=
  .next
    (if s.levels.brakeApplied then s
    else
      let t : State := { s with levels := { s.levels with brakeApplied := true } }
      if t.ywc.participant = .braking then t.enterIdle else t)

/-- BRAKING_TIMER_EXPIRY (07 R127): the raise, then the return to IDLE (log entry 22). -/
def execBrakingTimerExpiry (s : State) : Host.Outcome State Fault Refusal :=
  .next (if s.ywc.brakingTimer.isSome then (s.raiseNow .brakeFeedback 2).enterIdle else s)

/-! ## Motion and the halt (07 R122 to R126) -/

/-- YAW_DRIVE received (07 R122). -/
def execYawDrive (source : Station) (payload : List Byte) (s : State) : Host.Outcome State Fault Refusal :=
  .next (s.receive .yawDrive source payload (fun t =>
    match decodeDrive payload with
    | some r => if t.ywc.participant = .released ∧ t.ywc.moveRef = some r then t.takeDrive else t
    | none => t))

/-- DRIVE_WAIT_EXPIRY (07 R122). -/
def execDriveWaitExpiry (s : State) : Host.Outcome State Fault Refusal :=
  .next (if s.ywc.driveWait.isSome then s.enterBraking else s)

/-- The movement count M of the move record, 0 where none is held. -/
def Ywc.moved (y : Ywc) : Int :=
  match y.move with
  | some m => m.count
  | none => 0

/-- What the YWC does at a stall (07 R124): the halt, YAW_STALL with M and the stall flag, the holdoff. -/
def State.stalls (s : State) : State :=
  let t := s.haltMove .stall
  State.startHoldoff (State.raiseNow { t with ywc := { t.ywc with stall := true } } .yawStall s.ywc.moved)

/-- STALL_TIMER_EXPIRY (07 R124). -/
def execStallTimerExpiry (s : State) : Host.Outcome State Fault Refusal :=
  .next (if s.ywc.stallTimer.isSome then s.stalls else s)

/-- YAW_HALT received (07 R125). -/
def execYawHalt (source : Station) (payload : List Byte) (s : State) : Host.Outcome State Fault Refusal :=
  .next (s.receive .yawHalt source payload (fun t =>
    match decodeHalt payload with
    | some r => t.takeHalt r
    | none => t))

/-- SETTLE_TIMER_EXPIRY (07 R126). -/
def execSettleTimerExpiry (s : State) : Host.Outcome State Fault Refusal :=
  .next (if s.ywc.settleTimer.isSome then s.enterBraking else s)

end Sys2Proof.Machine
end

