-- ==== Sys2Proof/Machine/Dispatch.lean ====
section
/-! DEFINITION. The meaning of a command: one arm per constructor, each one direct call. -/

namespace Sys2Proof.Machine

/-- The effect of a command on everything but the queue of waiting commands. -/
def exec (i : Instr) (s : State) : Host.Outcome State Fault Refusal :=
  match i with
  | .fullReset pins first => Sys2Proof.Machine.execFullReset pins first s
  | .lineIdle => Sys2Proof.Machine.execLineIdle s
  | .lostArbitration => Sys2Proof.Machine.execLostArbitration s
  | .readBackMismatch => Sys2Proof.Machine.execReadBackMismatch s
  | .frameGoneOutWhole => Sys2Proof.Machine.execFrameGoneOutWhole s
  | .statusIntervalExpiry => Sys2Proof.Machine.execStatusIntervalExpiry s
  | .damagedFrame => Sys2Proof.Machine.execDamagedFrame s
  | .ownNumberFrame kind => Sys2Proof.Machine.execOwnNumberFrame kind s
  | .unknownKindFrame kind source => Sys2Proof.Machine.execUnknownKindFrame kind source s
  | .faultNotice source payload => Sys2Proof.Machine.execFaultNotice source payload s
  | .status source payload => Sys2Proof.Machine.execStatus source payload s
  | .tripNotice source payload => Sys2Proof.Machine.execTripNotice source payload s
  | .demand source payload => Sys2Proof.Machine.execDemand source payload s
  | .wind source payload => Sys2Proof.Machine.execWind source payload s
  | .windAgeTimerExpiry => Sys2Proof.Machine.execWindAgeTimerExpiry s
  | .silenceTimerExpiry => Sys2Proof.Machine.execSilenceTimerExpiry s
  | .configPart source payload => Sys2Proof.Machine.execConfigPart source payload s
  | .stationReset source payload => Sys2Proof.Machine.execStationReset source payload s
  | .dcLinkReady shows => Sys2Proof.Machine.execDcLinkReady shows s
  | .prechargeTimerExpiry => Sys2Proof.Machine.execPrechargeTimerExpiry s
  | .gridSyncAchieved shows => Sys2Proof.Machine.execGridSyncAchieved shows s
  | .syncTimerExpiry => Sys2Proof.Machine.execSyncTimerExpiry s
  | .modulatorFaultFeedback shows => Sys2Proof.Machine.execModulatorFaultFeedback shows s
  | .mainContactorFeedbackChange closed => Sys2Proof.Machine.execMainContactorFeedbackChange closed s
  | .contactorCheckExpiry => Sys2Proof.Machine.execContactorCheckExpiry s
  | .coolDownExpiry latchArrives => Sys2Proof.Machine.execCoolDownExpiry s latchArrives
  | .shareRoundExpiry => Sys2Proof.Machine.execShareRoundExpiry s
  | .zeroLimitHoldExpiry => Sys2Proof.Machine.execZeroLimitHoldExpiry s
  | .toothStep channel => Sys2Proof.Machine.execToothStep channel s
  | .invalidStep => Sys2Proof.Machine.execInvalidStep s
  | .markEdge high => Sys2Proof.Machine.execMarkEdge high s
  | .checkTimerExpiry => Sys2Proof.Machine.execCheckTimerExpiry s
  | .proposalHoldoffExpiry => Sys2Proof.Machine.execProposalHoldoffExpiry s
  | .yawPropose source payload => Sys2Proof.Machine.execYawPropose source payload s
  | .yawAnswer source payload => Sys2Proof.Machine.execYawAnswer source payload s
  | .answerTimerExpiry => Sys2Proof.Machine.execAnswerTimerExpiry s
  | .yawCommit source payload => Sys2Proof.Machine.execYawCommit source payload s
  | .commitWaitExpiry => Sys2Proof.Machine.execCommitWaitExpiry s
  | .brakeFeedbackReleased => Sys2Proof.Machine.execBrakeFeedbackReleased s
  | .brakeTimerExpiry => Sys2Proof.Machine.execBrakeTimerExpiry s
  | .releaseTimerExpiry => Sys2Proof.Machine.execReleaseTimerExpiry s
  | .yawDrive source payload => Sys2Proof.Machine.execYawDrive source payload s
  | .driveWaitExpiry => Sys2Proof.Machine.execDriveWaitExpiry s
  | .stallTimerExpiry => Sys2Proof.Machine.execStallTimerExpiry s
  | .yawHalt source payload => Sys2Proof.Machine.execYawHalt source payload s
  | .settleTimerExpiry => Sys2Proof.Machine.execSettleTimerExpiry s
  | .brakeFeedbackApplied => Sys2Proof.Machine.execBrakeFeedbackApplied s
  | .brakingTimerExpiry => Sys2Proof.Machine.execBrakingTimerExpiry s
  | .pumpState source payload => Sys2Proof.Machine.execPumpState source payload s
  | .pumpReportTimerExpiry => Sys2Proof.Machine.execPumpReportTimerExpiry s
  | .startHoldExpiry => Sys2Proof.Machine.execStartHoldExpiry s
  | .flowSwitchShowsFlow => Sys2Proof.Machine.execFlowSwitchShowsFlow s
  | .flowSwitchNoFlow => Sys2Proof.Machine.execFlowSwitchNoFlow s
  | .flowConfirmExpiry => Sys2Proof.Machine.execFlowConfirmExpiry s
  | .dutyMinuteExpiry => Sys2Proof.Machine.execDutyMinuteExpiry s
  | .handoffTimerExpiry => Sys2Proof.Machine.execHandoffTimerExpiry s
  | .flowGraceExpiry => Sys2Proof.Machine.execFlowGraceExpiry s
  | .sampleTimerExpiry word => Sys2Proof.Machine.execSampleTimerExpiry word s
  | .fanStepExpiry => Sys2Proof.Machine.execFanStepExpiry s
  | .fanFeedbackChange fan shows => Sys2Proof.Machine.execFanFeedbackChange fan shows s
  | .fanFeedbackTimerExpiry fan => Sys2Proof.Machine.execFanFeedbackTimerExpiry fan s
  | .stationClockExpiry => Sys2Proof.Machine.execStationClockExpiry s
  | .noticeRepeatExpiry cls => Sys2Proof.Machine.execNoticeRepeatExpiry cls s
  | .faultAck source payload => Sys2Proof.Machine.execFaultAck source payload s

end Sys2Proof.Machine
end

