-- ==== Sys2Proof/Machine/Line.lean ====
section
/-! DEFINITION. The nacelle line bit by bit (01 R2 to R6, R14, R15; 12 R192): what the part drives, and which commands the
bit it reads back puts into the queue of commands. No row of the table stands for a single bit (log entry 3). -/

namespace Sys2Proof.Machine

/-- The level that the part drives in this bit time: the next bit of the frame in transmission, else recessive
(01 R2, R3). -/
def Lif.driven (l : Lif) : Level :=
  match l.inTransmission, l.sent with
  | some f, some k => f.bits.getD k true
  | _, _ => true

/-- How many line bits a frame's start bit and arbitration field take, with the bits inserted among them (01 R3,
12 R192; log entry 26). -/
def QueuedFrame.arbitrationBits (f : QueuedFrame) : Nat :=
  (stuffFrom true 0 ((plainBits f.kind.code f.source.val f.payload f.check).take 10)).length

/-- What the sender makes of one bit read back: the number of bits then sent, and the command it puts into the queue. -/
structure SentBit where
  sent : Option Nat
  command : Option Instr
  deriving DecidableEq, Repr

/-- The sender's decision on one bit read back (01 R3, R4, R6). -/
def Lif.sendBit (l : Lif) (read : Level) : SentBit :=
  match l.inTransmission, l.sent with
  | some f, some k =>
    if l.driven = read then
      if k + 1 = f.bits.length then { sent := none, command := some .frameGoneOutWhole }
      else { sent := some (k + 1), command := none }
    else if l.driven = true ∧ k < f.arbitrationBits then { sent := none, command := some .lostArbitration }
    else { sent := none, command := some .readBackMismatch }
  | _, _ => { sent := l.sent, command := none }

/-- Whether a bit is the sixth equal one of a frame in reception (12 R192). -/
def Reception.sixth (r : Reception) (b : Level) : Bool :=
  match r with
  | .taking last run _ => run == 5 && b == last
  | .waiting | .ready => false

/-- The command of a received frame of a known kind. -/
def frameCommand (kind : Kind) (source : Station) (payload : List Byte) : Instr :=
  match kind with
  | .tripNotice => .tripNotice source payload
  | .yawHalt => .yawHalt source payload
  | .yawPropose => .yawPropose source payload
  | .yawAnswer => .yawAnswer source payload
  | .yawCommit => .yawCommit source payload
  | .yawDrive => .yawDrive source payload
  | .pumpState => .pumpState source payload
  | .demand => .demand source payload
  | .wind => .wind source payload
  | .faultAck => .faultAck source payload
  | .stationReset => .stationReset source payload
  | .status => .status source payload
  | .faultNotice => .faultNotice source payload
  | .configPart => .configPart source payload

/-- The command of a frame received whole with a good check (01 R15, R17, R18). -/
def goodFrameCommand (own : Station) (kindCode : Nat) (source : Station) (payload : List Byte) : Instr :=
  match Kind.ofCode kindCode with
  | some kind =>
    if payload.length = kind.payloadLength then
      if source = own then .ownNumberFrame (BitVec.ofNat 6 kindCode) else frameCommand kind source payload
    else .damagedFrame
  | none =>
    if source = own then .ownNumberFrame (BitVec.ofNat 6 kindCode)
    else .unknownKindFrame (BitVec.ofNat 6 kindCode) source

/-- The command that a verdict of the receiving side comes to. -/
def verdictCommand (own : Station) : Verdict → Option Instr
  | .incomplete => none
  | .damaged => some .damagedFrame
  | .good kindCode source payload => some (goodFrameCommand own kindCode source payload)

/-- The recessive bit times counted toward an idle line (01 R2): the count begins again at the end of a frame and where
the part itself stops sending; a frame ended at a sixth recessive bit was released by its sender, and its run stands (log
entry 27). -/
def idleRun (run : Nat) (restarts : Bool) (read : Level) : Nat :=
  if !read || restarts then 0 else min 12 (run + 1)

/-- The commands that are there. -/
def commandsOf (cs : List (Option Instr)) : List Instr := cs.filterMap (fun c => c)

/-- One bit time of the line: `read` is the level that the part reads. The sender's command comes first, then the
receiver's, then LINE_IDLE. -/
def State.lineBit (s : State) (read : Level) : State :=
  let sent := s.lif.sendBit read
  let taken := s.lif.reception.take read
  let own := sent.command = some .frameGoneOutWhole
  let ends := taken.2 != .incomplete && !s.lif.reception.sixth read
  let run := idleRun s.lif.recessiveRun (ends || sent.command == some .readBackMismatch) read
  let idle := run = 11
  let commands := commandsOf
    [ sent.command,
      if own then none else verdictCommand s.own taken.2,
      if idle then some .lineIdle else none ]
  { s with
    lif := { s.lif with
      sent := sent.sent
      reception := if idle then .ready else taken.1
      recessiveRun := run
      lineIdle := s.lif.lineIdle && read }
    pending := s.pending ++ commands }

end Sys2Proof.Machine
end

