-- ==== Sys2Proof/Machine/Sampling.lean ====
section
/-! DEFINITION. The samplers of the plant inputs (06 R94; 12 R196): which commands a sample puts into the queue of
commands. No row of the table stands for a sample (log entry 3). -/

namespace Sys2Proof.Machine

/-- The outcome of one sample of one input: how many successive samples have then differed, and whether the qualified
level changes. -/
structure Sampled where
  count : Nat
  changes : Bool
  deriving DecidableEq, Repr

/-- One sample of an input whose qualified level changes at the `need`-th successive differing sample (06 R94,
12 R196). -/
def sampleOne (need : Nat) (level raw : Level) (count : Nat) : Sampled :=
  if raw = level then { count := 0, changes := false }
  else if need ≤ count + 1 then { count := 0, changes := true }
  else { count := count + 1, changes := false }

/-- The samples that change a feedback line: five (12 R196). -/
def feedbackSamples : Nat := 5

/-- The samples that change a tooth channel or the reference mark: two (06 R94). -/
def toothSamples : Nat := 2

/-- The command of a sample that changes its level, if it does. -/
def Sampled.command (x : Sampled) (c : Instr) : List Instr := if x.changes then [c] else []

/-- One sample of every feedback line, taken each millisecond (12 R196). Lines that change at one sample are commanded in
the order of 12 R195's table (log entry 2). -/
def State.sampleFeedbacks (s : State) (raw : Levels) : State :=
  let l := s.levels
  let d := s.differing
  let one := sampleOne feedbackSamples
  let contactor := one l.contactorClosed raw.contactorClosed d.contactorClosed
  let dc := one l.dcLink raw.dcLink d.dcLink
  let sync := one l.gridSync raw.gridSync d.gridSync
  let modulator := one l.modulatorFault raw.modulatorFault d.modulatorFault
  let brake := one l.brakeApplied raw.brakeApplied d.brakeApplied
  let flow := one l.flow raw.flow d.flow
  let fan (i : Fin 3) : Sampled := one l.fans[i] raw.fans[i] d.fans[i]
  let commands :=
    contactor.command (.mainContactorFeedbackChange raw.contactorClosed)
      ++ dc.command (.dcLinkReady raw.dcLink)
      ++ sync.command (.gridSyncAchieved raw.gridSync)
      ++ modulator.command (.modulatorFaultFeedback raw.modulatorFault)
      ++ brake.command (if raw.brakeApplied then .brakeFeedbackApplied else .brakeFeedbackReleased)
      ++ flow.command (if raw.flow then .flowSwitchShowsFlow else .flowSwitchNoFlow)
      ++ (fan 0).command (.fanFeedbackChange 0 raw.fans[0])
      ++ (fan 1).command (.fanFeedbackChange 1 raw.fans[1])
      ++ (fan 2).command (.fanFeedbackChange 2 raw.fans[2])
  { s with
    differing := { d with
      contactorClosed := contactor.count
      dcLink := dc.count
      gridSync := sync.count
      modulatorFault := modulator.count
      brakeApplied := brake.count
      flow := flow.count
      fans := Vector.ofFn (fun i => (fan i).count) }
    pending := s.pending ++ commands }

/-- The commands of the tooth channels at one sample: one step, or one invalid step (06 R95, R96). -/
def toothCommands (a b : Sampled) : List Instr :=
  if a.changes && b.changes then [.invalidStep]
  else a.command (.toothStep .a) ++ b.command (.toothStep .b)

/-- One sample of the tooth channels and of the reference mark, taken at 8 kHz (06 R94), at a station that carries the
sensors. A step and a mark edge of one sample come in either order (06 R98, log entry 13). -/
def State.sampleTeeth (s : State) (a b mark : Level) : State :=
  if s.hasSensors then
    let x := sampleOne toothSamples s.levels.toothA a s.differing.toothA
    let y := sampleOne toothSamples s.levels.toothB b s.differing.toothB
    let m := sampleOne toothSamples s.levels.mark mark s.differing.mark
    let steps := toothCommands x y
    let marks := m.command (.markEdge mark)
    let t : State := if steps.isEmpty || marks.isEmpty then s else s.drew
    { t with
      differing := { s.differing with toothA := x.count, toothB := y.count, mark := m.count }
      pending := s.pending ++ (if Config.stepBeforeMark s.draws then steps ++ marks else marks ++ steps) }
  else s

end Sys2Proof.Machine
end

