-- ==== Sys2Proof/Safety.lean ====
section
/-! DEFINITION. What counts as a safe state, and the standing conditions and states that claims about commands speak of. -/

namespace Sys2Proof.Machine

/-! ## Safe states -/

/-- The string's commands are those of its state (04 R55). -/
def State.StringOutputs (s : State) : Prop :=
  s.stc.prechargeCommand = (s.stc.state == .precharge) ∧ s.stc.mainCommand = s.stc.state.isClosed ∧
    s.stc.enable = s.stc.state.isClosed

/-- The setpoint is within the limit (05 R83), and 0 outside RUN and STOPPING (04 R55). -/
def State.SetpointHeld (s : State) : Prop :=
  s.stc.setpoint ≤ s.stc.limit ∧ (s.stc.state = .run ∨ s.stc.state = .stopping ∨ s.stc.setpoint = 0)

/-- The brake release is that of the participant state; the motors are off outside DRIVING, and in DRIVING those of the
drive count turn in the direction of the move that is held; no motor is driven both ways (07 R111). -/
def State.YawOutputs (s : State) : Prop :=
  s.ywc.brakeRelease = s.ywc.participant.holdsRelease ∧
    (s.ywc.participant ≠ .driving → s.ywc.motors = motorsOff) ∧
    (s.ywc.participant = .driving →
      s.ywc.move.map (fun m => motorsOn s.icu.straps.drives m.clockwise) = some s.ywc.motors) ∧
    (s.ywc.motors.cw1 && s.ywc.motors.ccw1) = false ∧ (s.ywc.motors.cw2 && s.ywc.motors.ccw2) = false

/-- The pump output is that of the owner state (08 R133). -/
def State.PumpOutput (s : State) : Prop := s.clc.pumpOutput = s.clc.owner.runsPump

/-- The transmit queue holds at most 8 frames in ascending kind code (01 section 1.3). -/
def State.QueueHeld (s : State) : Prop :=
  s.lif.queue.length ≤ 8 ∧ s.lif.queue.Pairwise (fun f g => f.kind.code ≤ g.kind.code)

/-- The fault log holds at most 32 entries (10 R173). -/
def State.LogHeld (s : State) : Prop := s.flu.log.length ≤ 32

/-- How many entries were made since one was, by its number: 0 for the newest, counted modulo 4,096 back from the entry
counter (10 R173). -/
def State.age (s : State) (e : Entry) : Nat := (s.flu.counter + 4095 - e.number) % 4096

/-- The order of the fault log (10 R173): its entries stand oldest first, none of them 4,096 entries old; an ACTIVE entry is
the latest of its code, and its code is in the condition set. -/
def State.LogOrdered (s : State) : Prop :=
  s.flu.counter < 4096 ∧ (∀ e ∈ s.flu.log, e.number < 4096) ∧ s.flu.log.Pairwise (fun e x => s.age x < s.age e) ∧
    s.flu.log.Pairwise (fun e x => e.code = x.code → e.active = false) ∧
    ∀ e ∈ s.flu.log, e.active = true → inMembers e.code s.flu.members = true

/-- A record is frozen exactly in phase CONFIGURED, and it passes validation; the assembly is then empty (02 R24, R29,
R33). -/
def State.RecordHeld (s : State) : Prop :=
  match s.icu.phase, s.icu.params with
  | .configured, some p => validate s.own p = none ∧ s.icu.assembly = none ∧ s.icu.reject = 0
  | .unconfigured, none => s.icu.serial = 0
  | _, _ => False

/-- A safe state. -/
def State.Safe (s : State) : Prop :=
  s.RecordHeld ∧ s.StringOutputs ∧ s.SetpointHeld ∧ s.YawOutputs ∧ s.PumpOutput ∧ s.QueueHeld ∧ s.LogHeld

/-! ## Standing conditions of commands -/

/-- The derate exponent and the lock indications are those of the condition set, and their readers keep them as they
stand (10 R168, R169). -/
def State.Indicated (s : State) : Prop :=
  s.flu.exponent = exponentOf s.flu.members ∧
    s.flu.stringLatch = s.flu.members.any (fun m => m.actions.stringLatch) ∧
    s.flu.yawLock = s.flu.members.any (fun m => m.actions.yawLock) ∧
    s.flu.pumpLatch = s.flu.members.any (fun m => m.actions.pumpLatch) ∧
    s.stc.exponent = s.flu.exponent ∧ s.stc.latch = s.flu.stringLatch ∧ s.ywc.lock = s.flu.yawLock ∧
    s.clc.latch = s.flu.pumpLatch

/-- The FLU has taken every request handed to it, and its indications stand, as they do at the end of every event
(10 R166, R168, R169). -/
def State.Calm (s : State) : Prop := s.flu.inbox = [] ∧ s.Indicated

/-- Every member of the condition set is a condition code with the actions that the table gives it; ROLE_CONFLICT's are those
of the origins it was raised with (10 R165, R167). -/
def State.Tabled (s : State) : Prop :=
  ∀ m ∈ s.flu.members, m.code.isCondition = true ∧
    if m.code = .roleConflict then
      m.actions = { Actions.none with pumpLatch := m.actions.pumpLatch, fanBankOff := m.actions.fanBankOff }
    else m.actions = m.code.actions none

/-- No block holds a refused request, and the STATUS place is empty (01 R8, R12). -/
def State.NothingHeld (s : State) : Prop :=
  s.stc.heldTrip = none ∧ s.ywc.held = [] ∧ s.clc.heldPump = none ∧ s.flu.held = [] ∧ s.lif.statusPlace = none ∧
    s.lif.holders = { stc := false, ywc := false, clc := false, flu := false }

/-- A frame of a kind that is taken from a PRESENT source without a change of the degraded flag (01 R15 to R19). -/
def State.Hears (s : State) (kind : Kind) (source : Station) (payload : List Byte) : Prop :=
  payload.length = kind.payloadLength ∧ source ≠ s.own ∧ (s.peer source).presence = .present ∧
    (s.lif.degraded = true → 64 < s.lif.errors) ∧ s.passes kind source = true

/-- The state after such a frame's count and presence refresh (01 R16; 03 R39, R40); `kind` is none for an unknown kind. -/
def State.heard (s : State) (kind : Option Kind) (source : Station) : State :=
  let e := s.peer source
  let e' := { e with silence := 0, presence := .present, seen := kindSeenAfter e.seen kind }
  { s with
    lif := { s.lif with errors := s.lif.errors - 1, lineIdle := false }
    ptb := { s.ptb with entries := s.ptb.entries.set source e' } }

/-- A command that brings a good frame of a known kind, with the kind's payload length, or of an unknown kind (01 R15 to
R18). -/
def FrameFrom (c : Instr) (kind : Option Kind) (source : Station) : Prop :=
  match kind with
  | some k => ∃ payload, payload.length = k.payloadLength ∧ c = frameCommand k source payload
  | none => ∃ code, c = .unknownKindFrame code source

/-! ## The Peer Table -/

/-- A PRESENT NT44 peer with a CURRENT record shows phase CONFIGURED with another config serial (03 R46). -/
def State.SerialsDiffer (s : State) : Prop :=
  s.configured = true ∧ ∃ n r, s.peerShowing n = some r ∧ r.phase = .configured ∧ r.serial ≠ s.icu.serial

/-- From `s` to `t` the mismatch test has been made, and of the condition set only CONFIG_MISMATCH has followed its flag
(03 R46). -/
def State.MismatchTested (s t : State) : Prop :=
  (t.ptb.mismatch = true ↔ t.SerialsDiffer) ∧
    ∀ c, inMembers c t.flu.members =
      if c = .configMismatch ∧ t.ptb.mismatch ≠ s.ptb.mismatch then t.ptb.mismatch else inMembers c s.flu.members

/-! ## Requests that blocks hold -/

/-- A refused request, with the payload it is offered with. -/
structure Offer where
  kind : Kind
  payload : List Byte
  deriving DecidableEq, Repr

/-- The requests offered at a place-free indication, in ascending kind code and within a kind oldest first: a held yaw
request counts while its ref is that of the proposal or of the move, a waiting STATUS while the queue holds none, and a
held FAULT_NOTICE, with its payload formed afresh, while its entry is IN_SERVICE (01 R8, R9, R12; 04 R73; 07 R130; 08 R134;
11 R185). -/
def State.offers (s : State) : List Offer :=
  let yaw (k : Kind) : List Offer :=
    (s.ywc.held.filter (fun h =>
      decide (h.kind = k ∧ (s.ywc.proposalRef = some h.ref ∨ s.ywc.moveRef = some h.ref)))).map (fun h => ⟨k, h.payload⟩)
  s.stc.heldTrip.toList.map (Offer.mk .tripNotice)
    ++ yaw .yawHalt ++ yaw .yawPropose ++ yaw .yawAnswer ++ yaw .yawCommit ++ yaw .yawDrive
    ++ s.clc.heldPump.toList.map (Offer.mk .pumpState)
    ++ (if s.lif.hasStatus then [] else s.lif.statusPlace.toList.map (Offer.mk .status))
    ++ s.flu.held.filterMap (fun h => (s.inService h.number).map (fun e => ⟨.faultNotice, encodeNotice e⟩))

/-- From `s` to `t` one place-free indication has been worked: the first offers have gone into the free places, each where
01 R7 puts it, the rest are still held, the record of holders follows, and nothing else has changed (01 R8, R9). -/
def State.Offered (s t : State) : Prop :=
  let free := 8 - s.lif.queue.length
  t.lif.queue =
      (s.offers.take free).foldl (fun q (o : Offer) => insertFrame (s.newFrame o.kind o.payload) q) s.lif.queue ∧
    t.offers = s.offers.drop free ∧
    (s.lif.hasStatus = true → t.lif.statusPlace = s.lif.statusPlace) ∧
    t.lif.holders =
      { stc := t.stc.heldTrip.isSome, ywc := !t.ywc.held.isEmpty, clc := t.clc.heldPump.isSome,
        flu := !t.flu.held.isEmpty } ∧
    t = { s with
      lif := { s.lif with queue := t.lif.queue, statusPlace := t.lif.statusPlace, holders := t.lif.holders }
      stc := { s.stc with heldTrip := t.stc.heldTrip }
      ywc := { s.ywc with held := t.ywc.held }
      clc := { s.clc with heldPump := t.clc.heldPump }
      flu := { s.flu with held := t.flu.held } }

/-! ## A step of the nacelle -/

/-- The state after a step has been counted, before the stop conditions are tested: the tooth level, P modulo the counting
modulus, W while KNOWN, the count of a MOVING record, and while DRIVING the count M with the stall timer started afresh
(06 R95; 07 R123, R124). -/
def State.stepped (s : State) (channel : Channel) : State :=
  let levels := changeTooth s.levels channel
  let cw := match channel with
    | .a => levels.toothA != levels.toothB
    | .b => levels.toothB == levels.toothA
  let along := fun (clockwise : Bool) (n : Int) => if clockwise = cw then n + 1 else n - 1
  let driving := s.ywc.participant = .driving ∧ s.ywc.move.isSome = true
  { s with
    levels := levels
    ywc := { s.ywc with
      position := (((s.ywc.position : Int) + (if cw then 1 else -1)) % (s.modulus : Int)).toNat
      twist :=
        if s.ywc.known then max (-131072) (min 131071 (if cw then s.ywc.twist + 1 else s.ywc.twist - 1))
        else s.ywc.twist
      proposal := s.ywc.proposal.map (fun r =>
        if r.phase = .moving then { r with count := along r.clockwise r.count } else r)
      move :=
        if driving then s.ywc.move.map (fun m => { m with count := along m.clockwise m.count }) else s.ywc.move
      stallTimer := if driving then some 3000 else s.ywc.stallTimer } }

/-- Stop condition 1: the MOVING record's movement count equals the magnitude of its path (07 R123). -/
def State.Reached (s : State) : Prop :=
  ∃ r, s.ywc.proposal = some r ∧ r.phase = .moving ∧ r.count = (r.path.natAbs : Int)

/-- Stop condition 2: a DRIVING station's M is at or above the magnitude of the path plus the overrun margin (07 R123). -/
def State.Overrun (s : State) : Prop :=
  s.ywc.participant = .driving ∧
    ∃ m, s.ywc.move = some m ∧ m.path.natAbs + s.prm.overrunMargin ≤ m.count.natAbs

/-- Stop condition 3: a DRIVING station winds a KNOWN twist at or past its limit (07 R123). -/
def State.Overtwisted (s : State) : Prop :=
  s.ywc.participant = .driving ∧ s.ywc.known = true ∧ s.prm.twistLimit ≤ s.ywc.twist.natAbs ∧
    ∃ m, s.ywc.move = some m ∧ (if m.clockwise then 0 ≤ s.ywc.twist else s.ywc.twist ≤ 0)

/-! ## Fields of payloads and of the record -/

/-- The fields of a STATUS within the ranges of their fields (12 R194). -/
def StatusRecord.InRange (r : StatusRecord) : Prop :=
  r.fanStages < 8 ∧ r.limit < 8192 ∧ r.drives < 4 ∧ r.setpoint < 8192 ∧ r.reject < 64 ∧ r.loss < 512 ∧
    -2048 ≤ r.supply ∧ r.supply < 2048 ∧ r.position < 16384 ∧ r.unacked < 64 ∧
    -131072 ≤ r.twist ∧ r.twist < 131072 ∧ r.serial < 256

/-- A ref that a frame can carry. -/
def Ref.InRange (r : Ref) : Prop := r.proposer < 256 ∧ r.number < 256

/-- Whether the field of a number passes its test (02 R30, R31). -/
def fieldPasses (own : Station) (p : Params) (field : Nat) : Prop :=
  match field with
  | 1 => p.supervisor ≠ own
  | 2 => 20 ≤ p.statusInterval ∧ p.statusInterval ≤ 250
  | 3 => 500 ≤ p.ratedPower ∧ p.ratedPower ≤ 5000
  | 4 => 500 ≤ p.maxPower ∧ p.maxPower ≤ 20000
  | 5 => p.fallbackDemand ≤ p.maxPower
  | 6 => 1 ≤ p.fallbackRamp ∧ p.fallbackRamp ≤ 5000
  | 9 => 1 ≤ p.stopRamp ∧ p.stopRamp ≤ 5000
  | 10 => 500 ≤ p.prechargeTime ∧ p.prechargeTime ≤ 10000
  | 11 => 10 ≤ p.coolDown ∧ p.coolDown ≤ 600
  | 12 => 200 ≤ p.derateStart ∧ p.derateStart ≤ 800
  | 13 => p.derateStart + 20 ≤ p.tripTemp ∧ p.tripTemp ≤ 900
  | 14 => 10 ≤ p.fanCapacity ∧ p.fanCapacity ≤ 500
  | 15 => p.lossFraction ≤ 100
  | 16 => 5 ≤ p.flowGrace ∧ p.flowGrace ≤ 60
  | 17 => 1 ≤ p.dutyHours ∧ p.dutyHours ≤ 720
  | 18 => 720 ≤ p.counts ∧ p.counts ≤ 16384
  | 19 => p.markPosition ≤ p.counts - 1
  | 20 => p.counts ≤ p.twistLimit ∧ p.twistLimit ≤ 4 * p.counts ∧ p.twistLimit ≤ 65535
  | 21 => p.counts ≤ p.untwistThreshold ∧ p.untwistThreshold ≤ p.twistLimit - 1
  | 22 => p.untwistWind ≤ 250
  | 23 => -(p.twistLimit : Int) ≤ p.startTwist ∧ p.startTwist ≤ p.twistLimit
  | 24 => p.sectorCount ≤ 2
  | 25 => p.sectorCount ≠ 0 → p.sector1Start % 16 = 0 ∧ p.sector1Start < p.counts
  | 26 => p.sectorCount ≠ 0 →
      p.sector1Length % 16 = 0 ∧ 16 ≤ p.sector1Length ∧ p.sector1Length ≤ p.counts / 4
  | 27 => 2 ≤ p.sectorCount → p.sector2Start % 16 = 0 ∧ p.sector2Start < p.counts
  | 28 => 2 ≤ p.sectorCount →
      p.sector2Length % 16 = 0 ∧ 16 ≤ p.sector2Length ∧ p.sector2Length ≤ p.counts / 4 ∧
        (p.sector1Length : Int) ≤ ((p.sector2Start : Int) - p.sector1Start) % p.counts ∧
        (p.sector2Length : Int) ≤ ((p.sector1Start : Int) - p.sector2Start) % p.counts
  | 29 => 20 ≤ p.misalignment ∧ p.misalignment ≤ 450
  | 30 => 4 ≤ p.overrunMargin ∧ p.overrunMargin ≤ 512
  | 31 => 1 ≤ p.minDrives ∧ p.minDrives ≤ 12
  | 32 => 10 ≤ p.holdoff ∧ p.holdoff ≤ 600
  | 34 => 1 ≤ p.watermark ∧ p.watermark ≤ 32
  | _ => True

/-- The fields of a parameter record within the widths of their fields (12 R194). -/
def Params.Fits (p : Params) : Prop :=
  (p.statusInterval < 256 ∧ p.ratedPower < 65536 ∧ p.maxPower < 65536 ∧ p.fallbackDemand < 65536 ∧
    p.fallbackRamp < 65536 ∧ p.stopRamp < 65536 ∧ p.prechargeTime < 65536 ∧ p.coolDown < 1024 ∧
    p.derateStart < 1024 ∧ p.tripTemp < 1024 ∧ p.fanCapacity < 1024 ∧ p.lossFraction < 128) ∧
  (p.flowGrace < 64 ∧ p.dutyHours < 1024 ∧ p.counts < 65536 ∧ p.markPosition < 65536 ∧ p.twistLimit < 65536 ∧
    p.untwistThreshold < 65536 ∧ p.untwistWind < 256 ∧ -65536 ≤ p.startTwist ∧ p.startTwist < 65536) ∧
  (p.sectorCount < 4 ∧ p.sector1Start < 65536 ∧ p.sector1Length < 65536 ∧ p.sector2Start < 65536 ∧
    p.sector2Length < 65536 ∧ p.misalignment < 1024 ∧ p.overrunMargin < 1024 ∧ p.minDrives < 16 ∧
    p.holdoff < 1024 ∧ p.watermark < 64)

/-- A position lies within a sector in use: from its start, clockwise for its length, modulo C (02 R31; 06 R106). -/
def Params.Forbids (p : Params) (pos : Nat) : Prop :=
  1 ≤ p.sectorCount ∧ ((pos : Int) - p.sector1Start) % p.counts < p.sector1Length ∨
    2 ≤ p.sectorCount ∧ ((pos : Int) - p.sector2Start) % p.counts < p.sector2Length

/-- The string after a trip that did not lock it (04 R68). -/
def State.TrippedNow (s t : State) (history : List Nat) : Prop :=
  t.stc.state = .tripped ∧ t.stc.prechargeCommand = false ∧ t.stc.mainCommand = false ∧ t.stc.enable = false ∧
    t.stc.setpoint = 0 ∧ t.stc.loss = 0 ∧ t.stc.link = 0 ∧ t.stc.linkSends = s.stc.linkSends + 1 ∧
    t.stc.prechargeTimer = none ∧ t.stc.syncTimer = none ∧ t.stc.zeroHoldTimer = none ∧
    t.stc.coolDownTimer = some (s.prm.coolDown * 1000) ∧ t.stc.history = history

end Sys2Proof.Machine
end

