-- ==== Sys2Proof/Certificates/Slice0/Obligations.lean ====
section
/-! DEFINITION. The statements for the provers. -/

section

open Sys2Proof Sys2Proof.Machine

/-! ## Every command -/

/-- A step runs the command at the front of the queue on the state with the queue's rest. -/
def Obligations.StepRunsFront : Prop :=
  ∀ (c : Instr) (rest : List Instr) (s : State),
    step { s with pending := c :: rest } = exec c { s with pending := rest }

/-- Every command completes: it answers a next state, and leaves the queue of commands as it stands. That an event
which the state says cannot happen changes nothing is the model's choice (log entry 11). -/
def Obligations.CommandsComplete : Prop :=
  ∀ (c : Instr) (s : State), ∃ t, exec c s = .next t ∧ t.pending = s.pending

/-- What no command but a full reset undoes: the strap latch (02 R23), the station seconds and their timer, which the
clock expiry alone moves (10 R171), a known twist (06 R99) and a set overflow flag (10 R177). -/
def Obligations.FullResetAlone : Prop :=
  ∀ (c : Instr) (s : State), (∀ pins first, c ≠ .fullReset pins first) →
    ∃ t, exec c s = .next t ∧ t.icu.straps = s.icu.straps ∧
      (c ≠ .stationClockExpiry → t.flu.seconds = s.flu.seconds ∧ t.flu.clockTimer = s.flu.clockTimer) ∧
      (s.ywc.known = true → t.ywc.known = true) ∧ (s.flu.overflow = true → t.flu.overflow = true)

/-! ## Invariants -/

/-- A frozen record exists exactly in phase CONFIGURED and passes validation: kept by every step. -/
def Obligations.RecordHeldKept : Prop := ∀ s t : State, s.RecordHeld → step s = .next t → t.RecordHeld

/-- Every output follows its state, and the setpoint its limit: each kept by every step. The string's commands are those of
its state, and the setpoint never exceeds the limit and is 0 outside RUN and STOPPING (04 R55, 05 R83). The yaw outputs are
those of the participant state: brakes held off exactly from RELEASING to STOPPING, motors off outside DRIVING, and in
DRIVING the motors of the drive count on in the direction of the move (07 R111). The direction of a path of 0 is the model's
free value (log entry 8). The pump output is that of the owner state (08 R133). -/
def Obligations.OutputsKept : Prop :=
  (∀ s t : State, s.StringOutputs → step s = .next t → t.StringOutputs) ∧
  (∀ s t : State, s.SetpointHeld → step s = .next t → t.SetpointHeld) ∧
  (∀ s t : State, s.YawOutputs → step s = .next t → t.YawOutputs) ∧
  (∀ s t : State, s.PumpOutput → step s = .next t → t.PumpOutput)

/-- The transmit queue holds at most 8 frames in ascending kind code (01 section 1.3), the fault log at most 32 entries, and
the log is ordered: each kept by every step (10 R173). An ordered log has no number twice, its numbers ascend modulo 4,096
from that of its oldest entry, no code has two ACTIVE entries, and every ACTIVE entry's code is in the condition set. -/
def Obligations.QueueAndLogKept : Prop :=
  (∀ s t : State, s.QueueHeld → step s = .next t → t.QueueHeld) ∧
  (∀ s t : State, s.LogHeld → step s = .next t → t.LogHeld) ∧
  (∀ s t : State, s.LogOrdered → step s = .next t → t.LogOrdered) ∧
  (∀ s : State, s.LogOrdered →
    (s.flu.log.map (·.number)).Nodup ∧
    (∀ oldest, s.flu.log.head? = some oldest → s.flu.log.Pairwise (fun e x =>
      (e.number + 4096 - oldest.number) % 4096 < (x.number + 4096 - oldest.number) % 4096)) ∧
    (∀ e ∈ s.flu.log, ∀ x ∈ s.flu.log, e.active = true → x.active = true → e.code = x.code → e = x) ∧
    ∀ e ∈ s.flu.log, e.active = true → inMembers e.code s.flu.members = true)

/-- At the end of every command the FLU has taken every request, and its indications are those of the condition set,
as their readers keep them; and the members of the condition set carry the actions that the table gives their codes: each
kept by every step (10 R165 to R169). The queue of requests is the model's own (log entry 9). -/
def Obligations.CalmKept : Prop :=
  (∀ s t : State, s.Calm → step s = .next t → t.Calm) ∧ (∀ s t : State, s.Tabled → step s = .next t → t.Tabled)

/-- The state right after reset is safe and calm, its log ordered. Its pins and levels are the model's choice (log entry 4). -/
def Obligations.ResetSafe : Prop := State.reset.Safe ∧ State.reset.Calm ∧ State.reset.Tabled ∧ State.reset.LogOrdered

/-! ## Frames and payloads -/

/-- The line bits of a frame, taken by the receiving side at an idle line, end as that frame, good (12 R192; 01 R14).
That no bit is inserted after the last check bit is the model's reading (log entry 26). -/
def Obligations.FrameReadBack : Prop :=
  ∀ (kind : Kind) (source : Station) (payload : List Byte), payload.length = kind.payloadLength →
    Reception.takeAll .ready (lineBits kind.code source.val payload (frameCheck kind.code source.val payload)) =
      (.waiting, .good kind.code source payload)

/-- The payloads of STATUS, of the yaw frames, of PUMP_STATE and of TRIP_NOTICE read back as the fields they were formed
from (12 R194). -/
def Obligations.PayloadsReadBack : Prop :=
  (∀ r : StatusRecord, r.InRange → decodeStatus (encodeStatus r) = some r) ∧
  (∀ (n : Nat) (path : Int) (target : Nat) (p : Purpose), n < 256 → -8388608 ≤ path → path < 8388608 →
    target < 65536 → decodePropose (encodePropose n path target p) =
      some { number := n, path := path, target := target, purpose := p }) ∧
  (∀ (r : Ref) (a : Answer) (drives : Nat) (e : Refusing), r.InRange → drives < 256 →
    decodeAnswer (encodeAnswer r a drives e) = some { ref := r, answer := a, drives := drives, reason := e }) ∧
  (∀ (r : Ref) (set : StationSet), r.InRange → decodeCommit (encodeCommit r set) = some (r, set)) ∧
  (∀ r : Ref, r.InRange → decodeDrive (encodeDrive r) = some r) ∧
  (∀ (r : Ref) (e : HaltReason), r.InRange → decodeHalt (encodeHalt r e) = some r) ∧
  (∀ (p : Pump) (o : PumpOwner) (duty : Nat), duty < 65536 → decodePump (encodePump p o duty) =
    some { pump := p, owner := o, handover := o == .handingOff, duty := duty }) ∧
  (∀ (cause : TripCause) (st : StringState), decodeTrip (encodeTrip cause st) = some (cause, st))

/-- The fields of a parameter record and their ranges. The 48 bytes formed by the table of 12 R194 read back as the record
they were formed from. Validation finds nothing exactly where all 34 fields pass their tests, and otherwise the number of
the first field that does not (02 R29 to R31). -/
def Obligations.RecordFields : Prop :=
  (∀ p : Params, (encodeRecord p).length = 48 ∧ (p.Fits → decodeRecord (encodeRecord p) = p)) ∧
  (∀ (own : Station) (p : Params),
    (validate own p = none ↔ ∀ k, 1 ≤ k → k ≤ 34 → fieldPasses own p k) ∧
    (∀ n, validate own p = some n ↔
      1 ≤ n ∧ n ≤ 34 ∧ ¬ fieldPasses own p n ∧ ∀ k, 1 ≤ k → k < n → fieldPasses own p k))

/-! ## The Line Interface -/

/-- LINE_IDLE begins the head of the queue, and on an empty queue only marks the line idle (01 R2). Lost arbitration leaves
the frame in its place with its attempt count, and a read-back mismatch below the sixteenth adds one to it; neither touches
anything else, but that a waiting STATUS replaces a STATUS so left, with attempt count 0 (01 R3, R4, R12). -/
def Obligations.AttemptEnds : Prop :=
  (∀ s : State, s.lif.transmits = false →
    (s.lif.queue = [] → exec .lineIdle s = .next { s with lif := { s.lif with lineIdle := true } }) ∧
    (∀ f rest, s.lif.queue = f :: rest → exec .lineIdle s = .next
      { s with lif := { s.lif with
        queue := { f with transmitting := true } :: rest
        lineIdle := false
        sent := some 0 } })) ∧
  (∀ (s : State) (a b : List QueuedFrame) (f : QueuedFrame), s.lif.queue = a ++ f :: b → f.transmitting = true →
    (∀ g ∈ a ++ b, g.transmitting = false) →
    ((f.kind ≠ .status ∨ s.lif.statusPlace = none) →
      exec .lostArbitration s = .next
        { s with lif := { s.lif with sent := none, queue := a ++ { f with transmitting := false } :: b } } ∧
      (f.attempts < 15 → exec .readBackMismatch s = .next
        { s with lif := { s.lif with
          sent := none
          queue := a ++ { f with transmitting := false, attempts := f.attempts + 1 } :: b } })) ∧
    (∀ (p : List Byte) (c : Instr), f.kind = .status → s.lif.statusPlace = some p → (∀ g ∈ a ++ b, g.kind ≠ .status) →
      (c = .lostArbitration ∨ c = .readBackMismatch ∧ f.attempts < 15) →
      exec c s = .next
        { s with lif := { s.lif with
          sent := none
          statusPlace := none
          queue := a ++ s.newFrame .status p :: b } }))

/-- A sixteenth failed attempt takes the frame out of the queue and raises LINE_TX_FAIL with its kind code, here on an
empty log with nothing held; a STATUS that waits for the place of a discarded STATUS is offered once that is done (01 R5,
R12). -/
def Obligations.SixteenthFailure : Prop :=
  (∀ (s : State) (a b : List QueuedFrame) (f : QueuedFrame), s.lif.queue = a ++ f :: b → f.transmitting = true →
    (∀ g ∈ a ++ b, g.transmitting = false) → 15 ≤ f.attempts → s.Calm → s.NothingHeld → s.flu.log = [] →
    s.flu.supervisor = false →
    ∃ t, exec .readBackMismatch s = .next t ∧
      t.lif = { s.lif with sent := none, queue := a ++ b } ∧
      t.flu = { s.flu with
        log := [s.newEntry .lineTxFail f.kind.code]
        counter := (s.flu.counter + 1) % 4096
        pressure := decide (s.watermark ≤ unackedCount [s.newEntry .lineTxFail f.kind.code]) } ∧
      t = { s with lif := t.lif, flu := t.flu, draws := t.draws }) ∧
  (∀ (s : State) (a b : List QueuedFrame) (f : QueuedFrame) (p : List Byte), s.lif.queue = a ++ f :: b →
    f.transmitting = true → f.kind = .status → (∀ g ∈ a ++ b, g.transmitting = false ∧ g.kind ≠ .status) →
    15 ≤ f.attempts → s.lif.statusPlace = some p → s.lif.lineIdle = false →
    ∃ t, exec .readBackMismatch s = .next t ∧
      (State.raiseNow { s with lif := { s.lif with sent := none, queue := a ++ b } } .lineTxFail 0x20).Offered t)

/-- A frame gone out whole leaves the queue, a FAULT_NOTICE whose entry is IN_SERVICE starts its class's repeat timer, and
the place-free indication is worked: the requests that blocks hold are offered in ascending kind code into the free places
(01 R6, R8, R9; 11 R186). With nothing held nothing else changes. -/
def Obligations.FrameGoneOut : Prop :=
  ∀ (s : State) (a b : List QueuedFrame) (f : QueuedFrame), s.lif.queue = a ++ f :: b → f.transmitting = true →
    (∀ g ∈ a ++ b, g.transmitting = false) →
    let left := { s with lif := { s.lif with sent := none, queue := a ++ b } }
    let repeated := fun (e : Entry) => { left with flu := { s.flu with repeats := s.flu.repeats.put (some 10000) e.cls } }
    ((f.kind ≠ .faultNotice ∨ ∀ n, noticeNumber f.payload = some n → s.inService n = none) →
      (s.NothingHeld → exec .frameGoneOutWhole s = .next left) ∧
      (s.lif.lineIdle = false → ∃ t, exec .frameGoneOutWhole s = .next t ∧ left.Offered t)) ∧
    (∀ n e, f.kind = .faultNotice → noticeNumber f.payload = some n → s.inService n = some e →
      (s.NothingHeld → exec .frameGoneOutWhole s = .next (repeated e)) ∧
      (s.lif.lineIdle = false → ∃ t, exec .frameGoneOutWhole s = .next t ∧ (repeated e).Offered t))

/-- A status interval expiry composes one STATUS. It goes into a free place of a queue that holds none, in the order of the
kinds; it replaces one that stands in the queue out of transmission; and where the queue is full without one, or holds one
in transmission, it goes to the STATUS place (01 R12, R13). -/
def Obligations.StatusComposed : Prop :=
  ∀ s : State, s.lif.statusTimer.isSome = true → s.lif.lineIdle = false →
    let p := encodeStatus s.composeStatus
    (s.lif.hasStatus = false → s.lif.queue.length < 8 → exec .statusIntervalExpiry s = .next
      { s with lif := { s.lif with
        statusTimer := some s.period
        queue := insertFrame (s.newFrame .status p) s.lif.queue } }) ∧
    (s.lif.hasStatus = true → (∀ f ∈ s.lif.queue, f.kind = .status → f.transmitting = false) →
      exec .statusIntervalExpiry s = .next
        { s with lif := { s.lif with
          statusTimer := some s.period
          queue := s.lif.queue.map (fun f => if f.kind = .status then s.newFrame .status p else f) } }) ∧
    (s.lif.hasStatus = false ∧ 8 ≤ s.lif.queue.length ∨
        (∃ f ∈ s.lif.queue, f.kind = .status ∧ f.transmitting = true) →
      exec .statusIntervalExpiry s = .next
        { s with lif := { s.lif with statusTimer := some s.period, statusPlace := some p } })

/-- The places of the transmit queue. A new frame stands behind every frame of a lower or equal kind code and in front of
every frame of a higher one (01 R7). A request that finds a place is accepted, and one that finds the queue full is answered
FULL and changes nothing (01 R8). The frame displaced for a TRIP_NOTICE or a YAW_HALT is the youngest of the highest kind
code among the frames that are not in transmission and have a higher kind code than the new frame's; nothing is displaced,
and the answer is FULL, exactly when no frame qualifies (01 R10). The displaced frame's requester has its discard notice after
the new frame is in, the model's reading (log entry 21); only that of a FAULT_NOTICE whose entry is IN_SERVICE acts on it,
and the new frame keeps its place (01 R11; 11 R187). -/
def Obligations.QueuePlaces : Prop :=
  (∀ (f : QueuedFrame) (q : List QueuedFrame), q.Pairwise (fun g h => g.kind.code ≤ h.kind.code) →
    ∃ a b, q = a ++ b ∧ insertFrame f q = a ++ f :: b ∧ (∀ g ∈ a, g.kind.code ≤ f.kind.code) ∧
      (∀ g ∈ b, f.kind.code < g.kind.code)) ∧
  (∀ (kind : Kind) (q : List QueuedFrame),
    (displaced kind q = none ↔ ∀ g ∈ q, g.transmitting = true ∨ g.kind.code ≤ kind.code) ∧
    (∀ f rest, displaced kind q = some (f, rest) →
      ∃ a b, q = a ++ f :: b ∧ rest = a ++ b ∧ f.transmitting = false ∧ kind.code < f.kind.code ∧
        (∀ g ∈ q, g.transmitting = false → g.kind.code ≤ f.kind.code) ∧
        (∀ g ∈ b, g.transmitting = false → g.kind.code < f.kind.code))) ∧
  (∀ (kind : Kind) (payload : List Byte) (s : State), s.lif.lineIdle = false →
    let entered := fun (q : List QueuedFrame) =>
      { s with lif := { s.lif with queue := insertFrame (s.newFrame kind payload) q } }
    (s.lif.queue.length < 8 → s.request kind payload = (entered s.lif.queue, true) ∧
      s.requestUrgent kind payload = (entered s.lif.queue, true)) ∧
    (8 ≤ s.lif.queue.length →
      s.request kind payload = (s, false) ∧
      (displaced kind s.lif.queue = none → s.requestUrgent kind payload = (s, false)) ∧
      (∀ f rest, displaced kind s.lif.queue = some (f, rest) → s.NothingHeld →
        s.requestUrgent kind payload = ((entered rest).discardNotice f, true) ∧
        ((f.kind ≠ .faultNotice ∨ ∀ n, noticeNumber f.payload = some n → s.inService n = none) →
          s.requestUrgent kind payload = (entered rest, true)) ∧
        (∀ n e, f.kind = .faultNotice → noticeNumber f.payload = some n → s.inService n = some e →
          ∃ t, s.requestUrgent kind payload = (t, true) ∧ t.lif.queue = insertFrame (s.newFrame kind payload) rest))))

/-- A damaged frame raises the error counter by 8, saturating at 255; when that brings it to 96 or more with the degraded
flag clear, the flag is set and LINE_DEGRADED joins the condition set; otherwise nothing else changes (01 R15, R16). A good
frame that brings the counter below 64 clears a set flag and takes LINE_DEGRADED out of the condition set, and is then
worked as one that finds the flag clear (01 R16). A good frame under the own number refreshes no presence; it puts
DUPLICATE_STATION into the condition set, which turns the string-latch and yaw-lock indications on (01 R17; 10 R165,
R169). -/
def Obligations.CountedFrames : Prop :=
  (∀ s : State,
    (s.lif.errors + 8 < 96 ∨ s.lif.degraded = true → exec .damagedFrame s = .next
      { s with lif := { s.lif with errors := min 255 (s.lif.errors + 8), lineIdle := false } }) ∧
    (96 ≤ s.lif.errors + 8 → s.lif.degraded = false → s.Calm →
      ∃ t, exec .damagedFrame s = .next t ∧ t.lif.errors = min 255 (s.lif.errors + 8) ∧ t.lif.degraded = true ∧
        inMembers .lineDegraded t.flu.members = true ∧ t.icu = s.icu ∧ t.ptb = s.ptb ∧ t.stc = s.stc ∧
        t.ywc = s.ywc ∧ t.clc = s.clc ∧ t.levels = s.levels)) ∧
  (∀ (c : Instr) (kind : Option Kind) (source : Station) (s : State), FrameFrom c kind source → source ≠ s.own →
    s.lif.degraded = true → s.lif.errors ≤ 64 → s.Calm → s.Tabled → s.LogOrdered →
    ∃ v t, exec c v = .next t ∧ exec c s = .next t ∧ v.lif.errors = s.lif.errors ∧ v.lif.degraded = false ∧
      v.lif.queue = s.lif.queue ∧ v.Calm ∧
      (∀ x, inMembers x v.flu.members = (x != .lineDegraded && inMembers x s.flu.members)) ∧
      (∀ e ∈ v.flu.log, e.code = .lineDegraded → e.active = false) ∧ v = { s with lif := v.lif, flu := v.flu }) ∧
  (∀ (kind : BitVec 6) (s : State), s.Calm →
    ∃ t, exec (.ownNumberFrame kind) s = .next t ∧ t.icu = s.icu ∧ t.ptb = s.ptb ∧ t.levels = s.levels ∧
      t.lif.errors = s.lif.errors - 1 ∧ (s.lif.errors ≤ 64 → t.lif.degraded = false) ∧
      (64 < s.lif.errors → t.lif.degraded = s.lif.degraded) ∧ inMembers .duplicateStation t.flu.members = true ∧
      t.flu.stringLatch = true ∧ t.flu.yawLock = true ∧ t.stc.latch = true ∧ t.ywc.lock = true)

/-- A FAULT_NOTICE from a peer, a frame of unknown kind and a frame turned away by the sender test go no further than the
count and the presence refresh of their source: a DEMAND, FAULT_ACK, STATION_RESET or CONFIG_PART from another station than
the supervisor in phase CONFIGURED, and a DEMAND or FAULT_ACK in phase UNCONFIGURED (01 R16, R18, R19, R20). -/
def Obligations.RefreshOnlyFrames : Prop :=
  (∀ (source : Station) (payload : List Byte) (s : State), s.Hears .faultNotice source payload →
    exec (.faultNotice source payload) s = .next (s.heard (some .faultNotice) source)) ∧
  (∀ (kind : BitVec 6) (source : Station) (s : State), source ≠ s.own → (s.peer source).presence = .present →
    (s.lif.degraded = true → 64 < s.lif.errors) →
    exec (.unknownKindFrame kind source) s = .next (s.heard none source)) ∧
  (∀ (kind : Kind) (source : Station) (payload : List Byte) (s : State), payload.length = kind.payloadLength →
    source ≠ s.own → (s.peer source).presence = .present → (s.lif.degraded = true → 64 < s.lif.errors) →
    (kind.supervisorOnly = true ∧ s.configured = true ∧ source ≠ s.prm.supervisor ∨
      (kind = .demand ∨ kind = .faultAck) ∧ s.configured = false) →
    exec (frameCommand kind source payload) s = .next (s.heard (some kind) source))

/-- A good frame from a NEVER_HEARD or ABSENT station makes its entry PRESENT with silence count 0 and its kind seen. The
presence indications go to the CLC, for which a reported owner of a pump is a loop view change, and, for the supervisor
station, to the FLU, whose supervisor flag becomes present; an entry then seen as NT44 brings the mismatch test. The frame
is then worked as one from a PRESENT station (03 R39, R40, R42, R46; 08 R136). That the mismatch test follows the indications
is the model's reading (log entry 22). -/
def Obligations.PresenceBegins : Prop :=
  ∀ (c : Instr) (kind : Option Kind) (source : Station) (s : State), FrameFrom c kind source → source ≠ s.own →
    (s.peer source).presence ≠ .present → (s.lif.degraded = true → 64 < s.lif.errors) → s.Calm → s.Tabled →
    let seen := kindSeenAfter (s.peer source).seen kind
    let entered := { s.setPeer source { s.peer source with silence := 0, presence := .present, seen := seen } with
      lif := { s.lif with lineIdle := false } }
    let viewed := if s.ownsViewedPump source then entered.viewChanged.settle else entered
    ∃ v t, exec c v = .next t ∧ exec c s = .next t ∧ v.ptb.entries = entered.ptb.entries ∧
      v.lif.errors = s.lif.errors ∧ v.Calm ∧
      (v.flu.supervisor = true ↔
        s.configured = true ∧ source = s.prm.supervisor ∨ s.flu.supervisor = true) ∧
      (seen = .nt44 → viewed.MismatchTested v) ∧
      (seen ≠ .nt44 → v.ptb.mismatch = s.ptb.mismatch ∧ v.flu.members = viewed.flu.members) ∧
      v = { viewed with ptb := { viewed.ptb with mismatch := v.ptb.mismatch }, lif := v.lif, flu := v.flu }

/-! ## The Peer Table -/

/-- A STATUS replaces the source's record whole, makes it CURRENT and clears the tripped override; no other entry changes,
and the mismatch test follows: the flag stands exactly where a PRESENT NT44 peer shows another serial, a new mismatch raises
CONFIG_MISMATCH with the lowest such station number, and the end of it clears the code (03 R44, R46). A TRIP_NOTICE sets the
source's tripped override and changes nothing else but its presence refresh (03 R45). -/
def Obligations.PeerRecordsTaken : Prop :=
  (∀ (source : Station) (payload : List Byte) (r : StatusRecord) (s : State), s.Hears .status source payload →
    decodeStatus payload = some r →
    ∃ t, exec (.status source payload) s = .next t ∧
      (t.peer source).record = some r ∧ (t.peer source).standing = .current ∧ (t.peer source).tripped = false ∧
      (t.peer source).serial = (if r.phase = .configured then r.serial else 0) ∧ (t.peer source).silence = 0 ∧
      (∀ n : Station, n ≠ source → t.peer n = s.peer n) ∧ t.icu = s.icu ∧ t.levels = s.levels ∧
      (s.Calm → s.Tabled → s.MismatchTested t ∧ t.stc = s.stc ∧ t.ywc = s.ywc ∧ t.clc = s.clc ∧
        (s.ptb.mismatch = false → t.ptb.mismatch = true → s.flu.log.length < 32 →
          ∃ e ∈ t.flu.log, e.code = .configMismatch ∧ ∃ (n : Station) (x : StatusRecord), e.value = n.val ∧
            t.peerShowing n = some x ∧ x.phase = .configured ∧ x.serial ≠ s.icu.serial ∧
            ∀ (m : Station) (y : StatusRecord), m < n → t.peerShowing m = some y →
              y.phase = .configured → y.serial = s.icu.serial))) ∧
  (∀ (source : Station) (cause : TripCause) (st : StringState) (s : State),
    s.Hears .tripNotice source (encodeTrip cause st) →
    let u := s.heard (some .tripNotice) source
    exec (.tripNotice source (encodeTrip cause st)) s =
      .next (u.setPeer source { u.peer source with tripped := true }))

/-- A DEMAND replaces the demand record with its fields brought into range, and takes SUPERVISOR_LOST out of the condition
set (03 R47). A run permit that changes is given to the STC: no takes RUN to STOPPING with s as it stands, SYNC to STOPPING
with s at 0 and PRECHARGE to OFF; yes starts an OFF string whose other start conditions hold, here with the DC link not yet
ready and no modulator fault; other string states only keep it (03 R49; 04 R58, R61, R63, R65). A yaw permit that changes is
given to the YWC: no ends a held proposal with its holdoff running (03 R49; 07 R129). The order of the two indications is the
model's choice (log entry 31). -/
def Obligations.DemandTaken : Prop :=
  ∀ (source : Station) (payload : List Byte) (f : DemandFields) (s : State), s.Hears .demand source payload →
    decodeDemand payload = some f → s.Calm → s.Tabled →
    ∃ t, exec (.demand source payload) s = .next t ∧
      t.ptb.demand =
        { power := if f.power ≤ s.prm.maxPower then f.power else s.prm.maxPower
          ramp := if f.ramp = 0 then 1 else if f.ramp ≤ 5000 then f.ramp else 5000
          run := f.run
          yaw := f.yaw
          fresh := true } ∧
      inMembers .supervisorLost t.flu.members = false ∧ t.ptb.wind = s.ptb.wind ∧ t.icu = s.icu ∧
      t.levels = s.levels ∧
      (f.run = s.effectiveRun → t.stc = s.stc) ∧
      (f.run ≠ s.effectiveRun → t.stc.permit = f.run ∧
        (f.run = false →
          (s.stc.state = .run → t.stc.state = .stopping ∧ t.stc.setpoint = s.stc.setpoint ∧
            t.stc.zeroHoldTimer = none) ∧
          (s.stc.state = .sync → t.stc.state = .stopping ∧ t.stc.setpoint = 0 ∧ t.stc.syncTimer = none) ∧
          (s.stc.state = .precharge → t.stc.state = .off ∧ t.stc.prechargeCommand = false ∧
            t.stc.prechargeTimer = none)) ∧
        (f.run = true → s.stc.state = .off → s.levels.dcLink = false → s.levels.modulatorFault = false →
          s.stc.flow = .flowOk ∧ 0 < s.stc.limit ∧ s.stc.latch = false →
          t.stc.state = .precharge ∧ t.stc.prechargeCommand = true ∧
            t.stc.prechargeTimer = some s.prm.prechargeTime) ∧
        (f.run = true ∧ (s.stc.state ≠ .off ∨ s.stc.flow ≠ .flowOk ∨ s.stc.limit = 0 ∨ s.stc.latch = true) ∨
            f.run = false ∧ s.stc.state ∈ [StringState.off, .stopping, .tripped, .locked] →
          t.stc = { s.stc with permit := f.run })) ∧
      (s.levels.modulatorFault = false →
        (f.yaw = s.effectiveYaw → t.ywc = s.ywc) ∧
        (f.yaw ≠ s.effectiveYaw → t.ywc.permit = f.yaw ∧
          (f.yaw = true ∨ s.ywc.proposal = none → t.ywc = { s.ywc with permit := f.yaw }) ∧
          (f.yaw = false → s.ywc.proposal.isSome = true → t.ywc.proposal = none ∧ t.ywc.answerTimer = none ∧
            t.ywc.releaseTimer = none ∧ t.ywc.holdoffTimer = some (s.prm.holdoff * 1000))))

/-- A WIND handed to the PTB, in every state, replaces the wind record with its values brought into range, starts the wind
age timer afresh, and gives the YWC the angle, which a station with drives appends to its misalignment window, whatever
the record held before; it changes nothing else and raises no code (03 R50; 06 R101). A WIND heard from a PRESENT source is
handed to it after its count and presence refresh. -/
def Obligations.WindTaken : Prop :=
  (∀ (angle : Int) (speed : Nat) (s : State),
    let a := (angle + 1800) % 3600 - 1800
    let w : Wind := { angle := a, speed := if speed ≤ 600 then speed else 600, fresh := true }
    let ptb := { s.ptb with wind := w, windTimer := some 2000 }
    let ywc := { s.ywc with window := if s.hasSensors then pushAngle s.ywc.window a else s.ywc.window }
    s.takeWind angle speed = { s with ptb := ptb, ywc := ywc }) ∧
  (∀ (source : Station) (payload : List Byte) (angle : Int) (speed : Nat) (s : State), s.Hears .wind source payload →
    decodeWind payload = some (angle, speed) →
    exec (.wind source payload) s = .next ((s.heard (some .wind) source).takeWind angle speed))

/-- At the wind age timer's expiry the wind record goes stale and the misalignment window is emptied (03 R51; 06 R101). A
silence timer expiry works the entries in ascending station number: the silence count of each PRESENT peer rises by one,
and others stand. An entry that reaches 3 goes ABSENT with a CURRENT record OLD; one seen as NT44 brings PEER_LOST with its
number, here where it owns no pump of the loop view and is not the supervisor, and the mismatch test (03 R41, R46). The
supervisor station's absence makes the demand record stale, puts SUPERVISOR_LOST into the condition set, gives the STC and
the YWC the fallback permits that differ, and clears the FLU's supervisor flag (03 R42, R48, R49). -/
def Obligations.PeerTimersExpire : Prop :=
  (∀ s : State, s.ptb.windTimer.isSome = true →
    let w := { s.ptb.wind with fresh := false }
    exec .windAgeTimerExpiry s = .next
      { s with ptb := { s.ptb with wind := w, windTimer := none }, ywc := { s.ywc with window := [] } }) ∧
  (∀ s : State, s.ptb.silenceTimer.isSome = true →
    exec .silenceTimerExpiry s = .next
      (stations.foldl State.silenceAt { s with ptb := { s.ptb with silenceTimer := some s.period } })) ∧
  (∀ s : State, s.ptb.silenceTimer.isSome = true → (∀ n : Station, (s.peer n).silence < 2) →
    ∃ t, exec .silenceTimerExpiry s = .next t ∧ t.ptb.silenceTimer = some s.period ∧
      (∀ n : Station, t.peer n =
        if n ≠ s.own ∧ (s.peer n).presence = .present then
          { s.peer n with silence := (s.peer n).silence + 1 }
        else s.peer n) ∧
      t = { s with ptb := { s.ptb with silenceTimer := some s.period, entries := t.ptb.entries } }) ∧
  (∀ (s : State) (n : Station), n = s.own ∨ (s.peer n).presence ≠ .present → s.silenceAt n = s) ∧
  (∀ (s : State) (n : Station), n ≠ s.own → (s.peer n).presence = .present → 2 ≤ (s.peer n).silence → s.Calm →
    s.Tabled →
    let t := s.silenceAt n
    (t.peer n).presence = .absent ∧ (t.peer n).record = (s.peer n).record ∧
      (t.peer n).standing = (if (s.peer n).standing = .current then .old else (s.peer n).standing) ∧
      (∀ m : Station, m ≠ n → t.peer m = s.peer m) ∧ t.icu = s.icu ∧ t.levels = s.levels ∧ t.Calm ∧
      (s.ownsViewedPump n = false → (s.configured = true → n ≠ s.prm.supervisor) →
        t = { s with ptb := { s.ptb with entries := t.ptb.entries, mismatch := t.ptb.mismatch },
                     lif := t.lif, flu := t.flu } ∧
          ((s.peer n).seen = .nt44 → s.MismatchTested t ∧
            (s.flu.log.length < 31 → ∃ e ∈ t.flu.log, e.code = .peerLost ∧ e.value = n.val)) ∧
          ((s.peer n).seen ≠ .nt44 → t.flu = s.flu ∧ t.ptb.mismatch = s.ptb.mismatch)) ∧
      (s.configured = true → n = s.prm.supervisor →
        t.ptb.demand = { s.ptb.demand with fresh := false } ∧ inMembers .supervisorLost t.flu.members = true ∧
          t.flu.supervisor = false ∧
          t.stc.permit = (if s.effectiveRun = s.prm.fallbackRun then s.stc.permit else s.prm.fallbackRun) ∧
          t.ywc.permit = (if s.effectiveYaw = s.prm.fallbackYaw then s.ywc.permit else s.prm.fallbackYaw)))

/-! ## Identity and configuration -/

/-- Parts at an UNCONFIGURED station. A part 0 with a serial that is not 0 starts a fresh assembly whatever was held; a
part in turn joins the assembly; a part 0 with serial 0, a part out of turn and a part for another station change nothing;
none of them raises a code or changes the reject reason (02 R26 to R28). A CONFIG_PART heard from a PRESENT source is handed
to the ICU after its count and presence refresh. In phase CONFIGURED every CONFIG_PART that the LIF passes, one from the
supervisor station, is ignored (02 R26; 01 R19). -/
def Obligations.ConfigParts : Prop :=
  (∀ (f : PartFields) (s : State), s.configured = false →
    (s.targeted f.target = true → f.index = 0 → f.serial ≠ 0 →
      let x : Assembly := { serial := f.serial, next := 1, bytes := f.bytes }
      s.takePart f = { s with icu := { s.icu with assembly := some x } }) ∧
    (∀ a, s.icu.assembly = some a → s.targeted f.target = true → f.index ≠ 0 → f.index < 5 → f.index = a.next →
      f.serial = a.serial →
      let x : Assembly := { serial := a.serial, next := a.next + 1, bytes := a.bytes ++ f.bytes }
      s.takePart f = { s with icu := { s.icu with assembly := some x } }) ∧
    ((s.targeted f.target = false ∨ 5 < f.index ∨ f.index = 0 ∧ f.serial = 0 ∨
        f.index ≠ 0 ∧ (∀ a, s.icu.assembly = some a → f.index ≠ a.next ∨ f.serial ≠ a.serial)) →
      s.takePart f = s)) ∧
  (∀ (source : Station) (payload : List Byte) (f : PartFields) (s : State), s.Hears .configPart source payload →
    decodePart payload = some f →
    exec (.configPart source payload) s = .next ((s.heard (some .configPart) source).takePart f)) ∧
  (∀ (source : Station) (payload : List Byte) (s : State), s.Hears .configPart source payload → s.configured = true →
    exec (.configPart source payload) s = .next (s.heard (some .configPart) source))

/-- Part 5 in turn is validated at once: a record whose first failing field is n is discarded with reject reason n, and a
record without a failing field is frozen with the assembly's serial and makes the phase CONFIGURED (02 R29, R32, R33). -/
def Obligations.RecordOutcome : Prop :=
  ∀ (source : Station) (payload : List Byte) (f : PartFields) (a : Assembly) (s : State),
    s.Hears .configPart source payload → decodePart payload = some f → s.configured = false →
    s.targeted f.target = true → f.index = 5 → s.icu.assembly = some a → a.next = 5 → f.serial = a.serial →
    let p := decodeRecord (a.bytes ++ f.bytes)
    (∀ n, validate s.own p = some n → ∃ t, exec (.configPart source payload) s = .next t ∧
      t.icu = { s.icu with assembly := none, reject := n } ∧ t.levels = s.levels) ∧
    (validate s.own p = none → ∃ t, exec (.configPart source payload) s = .next t ∧
      t.icu = { s.icu with phase := .configured, assembly := none, params := some p, serial := a.serial, reject := 0 } ∧
      t.lif.statusTimer = some p.statusInterval ∧ t.ptb.silenceTimer = some p.statusInterval ∧
      t.stc.shareTimer = some p.statusInterval ∧ t.clc.sampleTimer = some p.statusInterval ∧ t.levels = s.levels)

/-- A full reset latches the straps from the pins and leaves every block at its full-reset values, with one PUMP_STATE
in the queue of a pump owner (02 R36, R37; 01 R21; 03 R52; 04 R76; 06 R109; 07 R131; 08 R149; 10 R180; 11 R191). The
count of link updates and the stopped check timer of a station without drives are the model's (log entries 5 and 7).
-/
def Obligations.FullResetLeaves : Prop :=
  ∀ (pins : BitVec 10) (first : Levels) (s : State),
    let x := latchStraps pins
    ∃ t, exec (.fullReset pins first) s = .next t ∧ t.icu = Icu.atReset x ∧ t.ptb = Ptb.atReset ∧
      t.stc = Stc.atReset first.contactorClosed ∧ t.ywc = Ywc.atReset x.drives ∧ t.clc = Clc.atReset x.pumpRole ∧
      t.flu = Flu.atReset ∧ t.levels = first ∧ t.lif.errors = 0 ∧ t.lif.degraded = false ∧
      t.lif.statusTimer = some 100 ∧ t.lif.statusPlace = none ∧
      (match x.pumpRole with
        | .noRole => t.lif.queue = []
        | .a => t.lif.queue = [t.newFrame .pumpState (encodePump .a .standby 0)]
        | .b => t.lif.queue = [t.newFrame .pumpState (encodePump .b .standby 0)])

/-- A STATION_RESET that names the station or all stations takes a line reset: the phase becomes UNCONFIGURED, the string
and every output go off, and straps, station seconds, entry counter, overflow flag, position and twist stand, the log
keeping its entries INACTIVE and out of service (02 R34, R35, R37; 06 R110; 10 R181; 11 R191). The queue holds the one
PUMP_STATE of a pump owner, the error counter is 0, the status timer runs with 100 ms, the STATUS place and the record of
holders are empty (01 R22); the FLU's indications are off, its repeat timers stopped and its supervisor flag absent. Any
other STATION_RESET changes nothing. The count of link updates in the STC, the stopped check timer of a station without
drives and the sender's entry, NEVER_HEARD, are the model's (log entries 5, 7 and 30). -/
def Obligations.LineResetKeeps : Prop :=
  ∀ (source : Station) (target : Byte) (s : State), s.Hears .stationReset source [target] →
    (target.toNat ≠ s.own.val ∧ target.toNat ≠ 8 →
      exec (.stationReset source [target]) s = .next (s.heard (some .stationReset) source)) ∧
    (target.toNat = s.own.val ∨ target.toNat = 8 →
    ∃ t, exec (.stationReset source [target]) s = .next t ∧ t.icu = Icu.atReset s.icu.straps ∧ t.ptb = Ptb.atReset ∧
      t.stc = Stc.atReset s.levels.contactorClosed ∧ t.clc = Clc.atReset s.icu.straps.pumpRole ∧
      t.ywc = { Ywc.atReset s.icu.straps.drives with
        turn := s.ywc.turn
        position := s.ywc.position
        referenced := s.ywc.referenced
        twist := s.ywc.twist
        known := s.ywc.known } ∧
      t.flu = { Flu.atReset with
        log := s.flu.log.map (fun e =>
          { e with active := false, report := if e.report = .inService then .pending else e.report })
        seconds := s.flu.seconds
        clockTimer := s.flu.clockTimer
        counter := s.flu.counter
        overflow := s.flu.overflow
        pressure := decide (32 ≤ unackedCount s.flu.log) } ∧
      t.lif.errors = 0 ∧ t.lif.degraded = false ∧ t.lif.statusTimer = some 100 ∧ t.lif.statusPlace = none ∧
      t.lif.holders = { stc := false, ywc := false, clc := false, flu := false } ∧ t.lif.sent = none ∧
      (match s.icu.straps.pumpRole with
        | .noRole => t.lif.queue = []
        | .a => t.lif.queue = [s.newFrame .pumpState (encodePump .a .standby 0)]
        | .b => t.lif.queue = [s.newFrame .pumpState (encodePump .b .standby 0)]) ∧
      t.levels = s.levels ∧ t.differing = s.differing ∧ t.draws = s.draws)

/-! ## The string -/

/-- In PRECHARGE the DC-link ready feedback coming on moves the string to SYNC with one link update, and in SYNC the
grid sync feedback moves it to RUN without one; in other states only the level changes (04 R60, R62). Link updates are
counted in the model's own field (log entry 5). A change of the main contactor feedback starts the contactor check when it
leaves the command's value and stops it when it takes it; it changes nothing else (04 R71). -/
def Obligations.StringFeedbacks : Prop :=
  (∀ s : State, s.levels.dcLink = false → s.levels.gridSync = false → s.stc.state = .precharge → s.stc.enable = false →
    ∃ t, exec (.dcLinkReady true) s = .next t ∧ t.stc.state = .sync ∧ t.stc.prechargeCommand = false ∧
      t.stc.mainCommand = true ∧ t.stc.enable = true ∧ t.stc.setpoint = 0 ∧ t.stc.prechargeTimer = none ∧
      t.stc.syncTimer = some 5000 ∧ t.stc.link = 0x8000#16 ∧ t.stc.linkSends = s.stc.linkSends + 1 ∧
      t.stc.limit = s.stc.limit ∧ t = { s with levels := { s.levels with dcLink := true }, stc := t.stc }) ∧
  (∀ s : State, s.levels.gridSync = false → s.stc.state = .sync →
    ∃ t, exec (.gridSyncAchieved true) s = .next t ∧ t.stc.state = .run ∧ t.stc.syncTimer = none ∧
      t.stc.setpoint = s.stc.setpoint ∧ t.stc.linkSends = s.stc.linkSends ∧ t.stc.enable = true ∧
      t.stc.zeroHoldTimer = (if s.stc.limit = 0 then some 30000 else none) ∧ t.stc.limit = s.stc.limit ∧
      t = { s with levels := { s.levels with gridSync := true }, stc := t.stc }) ∧
  (∀ s : State, s.levels.dcLink = false → s.stc.state ≠ .precharge →
    exec (.dcLinkReady true) s = .next { s with levels := { s.levels with dcLink := true } }) ∧
  (∀ s : State, s.levels.gridSync = false → s.stc.state ≠ .sync →
    exec (.gridSyncAchieved true) s = .next { s with levels := { s.levels with gridSync := true } }) ∧
  (∀ s : State,
    (s.levels.contactorClosed = s.stc.mainCommand →
      exec (.mainContactorFeedbackChange (!s.levels.contactorClosed)) s = .next
        { s with
          levels := { s.levels with contactorClosed := !s.levels.contactorClosed }
          stc := { s.stc with contactorTimer := some 200 } }) ∧
    (s.levels.contactorClosed ≠ s.stc.mainCommand →
      exec (.mainContactorFeedbackChange s.stc.mainCommand) s = .next
        { s with
          levels := { s.levels with contactorClosed := s.stc.mainCommand }
          stc := { s.stc with contactorTimer := none } }))

/-- The precharge timer, the sync timer, the modulator fault feedback and the contactor check trip an active string:
the outputs go off, s becomes 0 with one link update, and the time joins the history. With fewer than three times in
it the string is TRIPPED with its cool-down running; with three it is LOCKED, and REPEATED_TRIPS stands in the
condition set with the string-latch on (04 R66 to R68). Link updates are counted in the model's own field (log entry
5). -/
def Obligations.TripsOpenString : Prop :=
  ∀ (s : State) (c : Instr), s.Calm → s.stc.state.isActive = true →
    (c = .prechargeTimerExpiry ∧ s.stc.prechargeTimer.isSome = true ∨
      c = .syncTimerExpiry ∧ s.stc.syncTimer.isSome = true ∨
      c = .modulatorFaultFeedback true ∧ s.levels.modulatorFault = false ∨
      c = .contactorCheckExpiry ∧ s.stc.contactorTimer.isSome = true) →
    ((tripHistory s.flu.seconds s.stc.history).length < 3 →
      ∃ t, exec c s = .next t ∧ s.TrippedNow t (tripHistory s.flu.seconds s.stc.history) ∧ t.icu = s.icu ∧
        t.ptb = s.ptb) ∧
    (3 ≤ (tripHistory s.flu.seconds s.stc.history).length →
      ∃ t, exec c s = .next t ∧ t.stc.state = .locked ∧ t.stc.setpoint = 0 ∧ t.stc.mainCommand = false ∧
        t.stc.prechargeCommand = false ∧ t.stc.enable = false ∧ inMembers .repeatedTrips t.flu.members = true ∧
        t.flu.stringLatch = true ∧ t.icu = s.icu ∧ t.ptb = s.ptb)

/-- A cool-down expiry takes a TRIPPED string to LOCKED under the string-latch and otherwise to OFF, dropping a held
TRIP_NOTICE. In OFF the start conditions are tested at once: where they hold, here with the DC link not ready and no
modulator fault, the string is in PRECHARGE within the expiry; where one fails it stays in OFF. They fail on a string-latch
indication that arrives together with the expiry, and that indication, brought here by a frame under the own number, then
takes the string to LOCKED (04 R58, R59, R74); the arriving together is an operand, the model's choice (log entry 37). A
share round in STOPPING takes s down by the stop ramp step, and at 0 opens the string to OFF; a zero-limit hold expiry takes
a string in RUN to STOPPING with s at 0 (04 R64, R65). Link updates are counted in the model's own field (log entry 5). -/
def Obligations.StringStops : Prop :=
  (∀ (latchArrives : Bool) (s : State), s.Calm → s.Tabled → s.stc.coolDownTimer.isSome = true → s.stc.state = .tripped →
    s.stc.enable = false → s.stc.setpoint = 0 →
    let left := fun (t : State) => t.stc.coolDownTimer = none ∧ t.stc.heldTrip = none ∧ t.stc.setpoint = 0 ∧
      t.stc.enable = false ∧ t = { s with stc := t.stc, lif := t.lif }
    (s.stc.latch = true →
      ∃ t, exec (.coolDownExpiry latchArrives) s = .next t ∧ t.stc.state = .locked ∧ left t) ∧
    (s.stc.latch = false → latchArrives = true ∨ s.mayStart = false →
      ∃ t, exec (.coolDownExpiry latchArrives) s = .next t ∧ t.stc.state = .off ∧ left t ∧
        (s.configured = true → ∀ kind, ∃ u, exec (.ownNumberFrame kind) t = .next u ∧ u.stc.state = .locked ∧
          u.stc.history = s.stc.history)) ∧
    (latchArrives = false → s.mayStart = true → s.levels.dcLink = false → s.levels.modulatorFault = false →
      ∃ t, exec (.coolDownExpiry latchArrives) s = .next t ∧ t.stc.state = .precharge ∧ left t ∧
        t.stc.prechargeCommand = true ∧ t.stc.prechargeTimer = some s.prm.prechargeTime)) ∧
  (∀ s : State, s.Calm → s.stc.shareTimer.isSome = true → s.stc.state = .stopping →
    let step := max 1 (s.prm.stopRamp * s.period / 1000)
    (step < s.stc.setpoint →
      ∃ t, exec .shareRoundExpiry s = .next t ∧ t.stc.state = .stopping ∧ t.stc.setpoint = s.stc.setpoint - step ∧
        t.stc.linkSends = s.stc.linkSends + 1 ∧ t = { s with stc := t.stc }) ∧
    (s.stc.setpoint ≤ step → s.mayStart = false →
      ∃ t, exec .shareRoundExpiry s = .next t ∧ t.stc.state = .off ∧ t.stc.setpoint = 0 ∧
        t.stc.mainCommand = false ∧ t.stc.enable = false ∧ t = { s with stc := t.stc })) ∧
  (∀ s : State, s.Calm → s.stc.zeroHoldTimer.isSome = true → s.stc.state = .run →
    ∃ t, exec .zeroLimitHoldExpiry s = .next t ∧ t.stc.state = .stopping ∧ t.stc.setpoint = 0 ∧
      t.stc.zeroHoldTimer = none ∧ t.flu.members = s.flu.members ∧ t.icu = s.icu ∧ t.ptb = s.ptb)

/-- A share round in RUN takes the own share of the allocation as the target and moves s toward it by at most one ramp
step, never past it, with one link update when s changes (05 R86, R90, R91, R92). Link updates are counted in the
model's own field (log entry 5). -/
def Obligations.ShareRoundInRun : Prop :=
  ∀ s : State, s.Calm → s.stc.shareTimer.isSome = true → s.stc.state = .run → s.stc.setpoint ≤ s.stc.limit →
    let a := shareOf s.own.val (allocate s.effectiveDemand s.sharers)
    let step := max 1 (s.effectiveRamp * s.period / 1000)
    a ≤ s.stc.limit →
    ∃ t, exec .shareRoundExpiry s = .next t ∧ t.stc.target = a ∧ t.stc.shareTimer = some s.period ∧
      t.stc.setpoint = (if s.stc.setpoint < a then min a (s.stc.setpoint + step) else max a (s.stc.setpoint - step)) ∧
      t.stc.loss = t.stc.setpoint * s.prm.lossFraction / 1000 ∧
      t.stc.linkSends = s.stc.linkSends + (if t.stc.setpoint = s.stc.setpoint then 0 else 1) ∧ t.stc.state = .run ∧
      t.stc.limit = s.stc.limit ∧ t.stc.mainCommand = s.stc.mainCommand ∧ t.stc.enable = s.stc.enable ∧
      t = { s with stc := t.stc }

/-- The kept derate exponent e gives R_div as the floor of R / 2^e, by the rows of the table for e = 0 to 3; it is at least
62 kW for every rating a record may carry, so that a derate alone brings L to 0 for no such rating (05 R80). -/
def Obligations.DividedRating : Prop :=
  (∀ s : State, s.configured = true →
    s.formLimit.stc.parts = some (limitParts s.prm s.stc.exponent s.stc.theta s.stc.flow)) ∧
  (∀ (p : Params) (theta : Option Int) (flow : FlowState),
    (limitParts p 0 theta flow).rDiv = p.ratedPower ∧ (limitParts p 1 theta flow).rDiv = p.ratedPower / 2 ∧
    (limitParts p 2 theta flow).rDiv = p.ratedPower / 4 ∧ (limitParts p 3 theta flow).rDiv = p.ratedPower / 8 ∧
    (500 ≤ p.ratedPower → ∀ e, e ≤ 3 → 62 ≤ (limitParts p e theta flow).rDiv ∧
      ((limitParts p e theta flow).least = 0 →
        (limitParts p e theta flow).dTherm = 0 ∨ (limitParts p e theta flow).dFlow = 0)))

/-- The allocations of one share round sum exactly to the lesser of the effective demand and the sum of the limits, no
participant's allocation exceeds its limit, and every participant has one (05 R88, R89). -/
def Obligations.AllocationSums : Prop :=
  ∀ (demand : Nat) (xs : List Sharer), (xs.map (·.station)).Nodup →
    ((allocate demand xs).map (·.power)).sum = min demand (xs.map (·.limit)).sum ∧
    (∀ x ∈ xs, ∃ y ∈ allocate demand xs, y.station = x.station) ∧
    (∀ x ∈ xs, ∀ y ∈ allocate demand xs, y.station = x.station → y.power ≤ x.limit)

/-! ## The yaw -/

/-- A step that meets no stop condition moves P by one count modulo the counting modulus and, while KNOWN, W by one,
saturating; while DRIVING it moves M by one along the path and starts the stall timer afresh, and while a record is MOVING
it moves the record's count in the same way; nothing else changes (06 R95; 07 R123, R124). -/
def Obligations.ToothSteps : Prop :=
  ∀ (channel : Channel) (s : State), s.hasSensors = true →
    let v := s.stepped channel
    ¬ v.Reached → ¬ v.Overrun → ¬ v.Overtwisted → exec (.toothStep channel) s = .next v

/-- A step that meets a stop condition halts the move, by the first condition that holds: REACHED for the ref of the MOVING
record, OVERRUN and TWIST for the ref of the move. A YAW_HALT with that reason goes into the queue; a participant that
releases, waits or drives is STOPPING with its motors off and its brakes held off for the settle time, and one that is
STOPPING, BRAKING or IDLE stands; a record of that ref is cleared with its timers and the holdoff runs. P, W, the counts and
everything else are as the step left them (07 R123, R125; 06 R108). -/
def Obligations.MoveEnds : Prop :=
  ∀ (channel : Channel) (s : State) (ref : Ref) (e : HaltReason), s.hasSensors = true → s.lif.queue.length < 8 →
    s.lif.lineIdle = false →
    let v := s.stepped channel
    (v.Reached ∧ v.ywc.proposalRef = some ref ∧ e = .reached ∨
      ¬ v.Reached ∧ v.Overrun ∧ v.ywc.moveRef = some ref ∧ e = .overrun ∨
      ¬ v.Reached ∧ ¬ v.Overrun ∧ v.Overtwisted ∧ v.ywc.moveRef = some ref ∧ e = .twist) →
    ∃ t, exec (.toothStep channel) s = .next t ∧
      t.lif.queue = insertFrame (s.newFrame .yawHalt (encodeHalt ref e)) s.lif.queue ∧
      (s.ywc.participant ∈ [.releasing, .released, .driving] → t.ywc.participant = .stopping ∧
        t.ywc.motors = motorsOff ∧ t.ywc.brakeRelease = true ∧ t.ywc.settleTimer = some 1000 ∧
        t.ywc.stallTimer = none ∧ t.ywc.move = v.ywc.move) ∧
      (s.ywc.participant ∈ [.idle, .stopping, .braking] → t.ywc.participant = s.ywc.participant ∧
        t.ywc.move = s.ywc.move ∧ t.ywc.motors = s.ywc.motors ∧ t.ywc.brakeRelease = s.ywc.brakeRelease) ∧
      (v.ywc.proposalRef = some ref → t.ywc.proposal = none ∧ t.ywc.answerTimer = none ∧
        t.ywc.releaseTimer = none ∧ t.ywc.holdoffTimer = some (s.prm.holdoff * 1000)) ∧
      (v.ywc.proposalRef ≠ some ref → t.ywc.proposal = v.ywc.proposal ∧ t.ywc.holdoffTimer = s.ywc.holdoffTimer) ∧
      t.ywc.position = v.ywc.position ∧ t.ywc.twist = v.ywc.twist ∧
      t = { v with lif := { v.lif with queue := t.lif.queue }, ywc := t.ywc }

/-- An invalid step changes both tooth levels and adds one to the invalid-step count, saturating at 4; when it brings the
count to 4, ENCODER_INVALID is raised, which turns the yaw-lock on, and a driving station stops; P and W do not change
(06 R96). A mark edge references an unreferenced position at the kept mark position, leaves a referenced one within 8
counts as it stands, corrects one farther off, and never changes W (06 R98). -/
def Obligations.PositionSensors : Prop :=
  (∀ s : State, s.hasSensors = true →
    let levels := { s.levels with toothA := !s.levels.toothA, toothB := !s.levels.toothB }
    (s.ywc.invalidSteps ≠ 3 → exec .invalidStep s = .next
      { s with levels := levels, ywc := { s.ywc with invalidSteps := min 4 (s.ywc.invalidSteps + 1) } }) ∧
    (s.ywc.invalidSteps = 3 → s.Calm → ∃ t, exec .invalidStep s = .next t ∧ t.levels = levels ∧
      t.ywc.invalidSteps = 4 ∧ t.ywc.position = s.ywc.position ∧ t.ywc.twist = s.ywc.twist ∧
      inMembers .encoderInvalid t.flu.members = true ∧ t.flu.yawLock = true ∧ t.icu = s.icu ∧ t.ptb = s.ptb ∧
      (s.ywc.participant = .driving → s.ywc.move.isSome = true → t.ywc.participant = .stopping))) ∧
  (∀ s : State, s.hasSensors = true → s.levels.mark = false → s.Calm →
    let levels := { s.levels with mark := true }
    (∀ k, s.ywc.turn = some k → s.ywc.referenced = false → exec (.markEdge true) s = .next
      { s with levels := levels, ywc := { s.ywc with position := k.mark, referenced := true } }) ∧
    ((s.ywc.turn = none ∨ ∃ k, s.ywc.turn = some k ∧ s.ywc.referenced = true ∧
        circularDistance s.ywc.position k.mark k.modulus ≤ 8) →
      exec (.markEdge true) s = .next { s with levels := levels }) ∧
    (∀ k, s.ywc.turn = some k → s.ywc.referenced = true → 8 < circularDistance s.ywc.position k.mark k.modulus →
      ∃ t, exec (.markEdge true) s = .next t ∧ t.ywc = { s.ywc with position := k.mark } ∧
        t.flu.members = s.flu.members ∧ t.levels = levels ∧ t.stc = s.stc ∧ t.clc = s.clc ∧ t.icu = s.icu))

/-- The check timer. Its expiry makes the position vote: the disagreement flag stands exactly while a vote is made whose
median lies more than 32 counts off, HEADING_DISAGREE being raised with the median and cleared as the flag changes (06
R100). A station that is then not eligible, or defers to a lower-numbered station with drives that shows itself eligible,
makes no proposal (06 R102, R103), nor does one whose test finds no move. A move whose both ways pass the twist limit raises
YAW_BLOCKED with d and starts the holdoff (06 R107). A move found makes a proposal record in phase COLLECTING with the
own answer entered and the station ANSWERED, decided at once where no other station is expected (06 R104; 07 R112, R113,
R117). At the holdoff expiry a set stall flag is cleared with YAW_STALL; without it only the timer stops (06 R108; 07
R124). -/
def Obligations.CheckAndHoldoff : Prop :=
  (∀ s : State, s.ywc.checkTimer.isSome = true → s.Calm → s.Tabled →
    let flag : Bool := match s.headingMedian with
      | some m => decide (32 < m.natAbs)
      | none => false
    let voted := { s with ywc := { s.ywc with checkTimer := some s.period, disagree := flag } }
    (voted.eligible = false ∨
        ∃ (n : Station) (r : StatusRecord), s.peerShowing n = some r ∧ n < s.own ∧ 0 < r.drives ∧ r.eligible = true) →
    (flag = s.ywc.disagree → exec .checkTimerExpiry s = .next voted) ∧
    (flag ≠ s.ywc.disagree → ∃ t, exec .checkTimerExpiry s = .next t ∧
      (∀ c, inMembers c t.flu.members = if c = .headingDisagree then flag else inMembers c s.flu.members) ∧
      (∀ m, flag = true → s.headingMedian = some m → -32768 ≤ m → m ≤ 32767 → s.flu.log.length < 32 →
        ∃ e ∈ t.flu.log, e.code = .headingDisagree ∧ e.value = m) ∧
      t = { voted with lif := t.lif, flu := t.flu })) ∧
  (∀ s : State, s.ywc.checkTimer.isSome = true → s.Calm →
    (∀ m, s.headingMedian = some m → m.natAbs ≤ 32) → s.eligible = true →
    (∀ (n : Station) (r : StatusRecord), s.peerShowing n = some r → n < s.own → r.drives = 0 ∨ r.eligible = false) →
    let waiting := { s with ywc := { s.ywc with checkTimer := some s.period } }
    (s.proposalTest = .nothing → exec .checkTimerExpiry s = .next waiting) ∧
    (∀ d, s.proposalTest = .blocked d → ∃ t, exec .checkTimerExpiry s = .next t ∧
      t.ywc = { waiting.ywc with holdoffTimer := some (s.prm.holdoff * 1000) } ∧ t.flu.members = s.flu.members ∧
      (-32768 ≤ d → d ≤ 32767 → s.flu.log.length < 32 →
        ∃ e ∈ t.flu.log, e.code = .yawBlocked ∧ e.value = d) ∧
      t = { s with ywc := t.ywc, lif := t.lif, flu := t.flu }) ∧
    (∀ p, s.proposalTest = .plan p → ∃ u r,
      (s.expectedSet ≠ stationBit s.own → exec .checkTimerExpiry s = .next u) ∧
      (s.expectedSet = stationBit s.own → ∃ t, exec .answerTimerExpiry u = .next t ∧ exec .checkTimerExpiry s = .next t) ∧
      u.ywc.proposal = some r ∧
      r.ref = { proposer := s.own.val, number := s.ywc.nextNumber } ∧ r.purpose = p.purpose ∧ r.path = p.path ∧
      r.target = p.target ∧ r.phase = .collecting ∧ r.expected = s.expectedSet ∧ r.count = 0 ∧
      r.answers = (Vector.replicate 8 none).set s.own
        (some (if s.levels.brakeApplied then .ready s.icu.straps.drives else .refuse .brake)) ∧
      u.ywc.moveRef = some r.ref ∧
      u.ywc.nextNumber = (s.ywc.nextNumber + 1) % 256 ∧ u.ywc.answerTimer = some 250 ∧
      u.ywc.participant = .answered ∧ u.ywc.commitWait = none ∧ u.ywc.position = s.ywc.position ∧
      u.ywc.twist = s.ywc.twist ∧ u.ywc.motors = motorsOff ∧ u.ywc.brakeRelease = false ∧
      (s.lif.queue.length < 8 → ∃ f ∈ u.lif.queue, f.kind = .yawPropose ∧
        f.payload = encodePropose s.ywc.nextNumber p.path p.target p.purpose) ∧
      u = { s with ywc := u.ywc, lif := u.lif, draws := u.draws })) ∧
  (∀ s : State, s.ywc.holdoffTimer.isSome = true →
    (s.ywc.stall = false →
      exec .proposalHoldoffExpiry s = .next { s with ywc := { s.ywc with holdoffTimer := none } }) ∧
    (s.ywc.stall = true → s.Calm → ∃ t, exec .proposalHoldoffExpiry s = .next t ∧ t.ywc.stall = false ∧
      t.ywc.holdoffTimer = none ∧ inMembers .yawStall t.flu.members = false ∧ t.icu = s.icu ∧ t.ptb = s.ptb))

/-- The proposal test under a frozen record. A twist at or above the untwist threshold under a fresh wind at or below the
untwist limit finds an UNTWIST to the present position: whole turns toward zero twist that leave less than one turn (06
R104). Otherwise a window that is not full, or whose mean (the sum over 16, truncated toward zero) is below the misalignment
threshold, finds nothing. A mean at or above it finds an offset o, the mean in counts rounded to the nearest, halves away
from zero (06 R105); a target t that no sector in use forbids, the unclamped target itself or, where that is forbidden, the
allowed position at the smallest circular distance, the counter-clockwise one of two (06 R106); and a d in (-C/2, C/2] that
leads to t modulo C. A d of 0 finds nothing; d is the path where it keeps the twist within its limit, the long way round
where that one does, and where neither does the move is blocked with d (06 R107). -/
def Obligations.MovesFound : Prop :=
  ∀ s : State, s.RecordHeld → s.configured = true →
    let c : Int := (s.prm.counts : Int)
    let w := s.ywc.twist
    let untwists := s.prm.untwistThreshold ≤ w.natAbs ∧ s.ptb.wind.fresh = true ∧ s.ptb.wind.speed ≤ s.prm.untwistWind
    let mean := s.ywc.window.sum.tdiv 16
    let aligns := s.ywc.window.length = 16 ∧ s.prm.misalignment ≤ mean.natAbs
    (untwists → ∃ n : Int, s.proposalTest = .plan { purpose := .untwist, path := n * c, target := s.ywc.position } ∧
      (w + n * c).natAbs < s.prm.counts ∧ (w + n * c).natAbs + (n * c).natAbs = w.natAbs ∧ n ≠ 0) ∧
    (¬ untwists → ¬ aligns → s.proposalTest = .nothing) ∧
    (¬ untwists → aligns → ∃ (o d : Int) (t : Nat),
      let pos := ((s.ywc.position : Int) + o) % c
      let far := if 0 < d then d - c else d + c
      (3600 * o.natAbs ≤ mean.natAbs * s.prm.counts + 1800 ∧ mean.natAbs * s.prm.counts < 3600 * o.natAbs + 1800 ∧
        0 ≤ o * mean) ∧
      t < s.prm.counts ∧ ¬ s.prm.Forbids t ∧ (¬ s.prm.Forbids pos.toNat → t = pos.toNat) ∧
      (∀ q, q < s.prm.counts → ¬ s.prm.Forbids q →
        circularDistance pos.toNat t s.prm.counts ≤ circularDistance pos.toNat q s.prm.counts ∧
        (circularDistance pos.toNat t s.prm.counts = circularDistance pos.toNat q s.prm.counts →
          q = t ∨ (t : Int) = (pos - circularDistance pos.toNat t s.prm.counts) % c)) ∧
      (-c < 2 * d ∧ 2 * d ≤ c ∧ ((s.ywc.position : Int) + d) % c = (t : Int)) ∧
      (d = 0 → s.proposalTest = .nothing) ∧
      (d ≠ 0 → (w + d).natAbs ≤ s.prm.twistLimit →
        s.proposalTest = .plan { purpose := .align, path := d, target := t }) ∧
      (d ≠ 0 → s.prm.twistLimit < (w + d).natAbs → (w + far).natAbs ≤ s.prm.twistLimit →
        s.proposalTest = .plan { purpose := .align, path := far, target := t }) ∧
      (d ≠ 0 → s.prm.twistLimit < (w + d).natAbs → s.prm.twistLimit < (w + far).natAbs →
        s.proposalTest = .blocked d))

/-- A YAW_PROPOSE at an IDLE station without a record: it answers READY and is ANSWERED with the proposal's ref and path
where no row of the refusal table applies, and stays IDLE where one does, answering REFUSE with the reason of the first row
that applies: no drives, phase UNCONFIGURED or yaw-lock, brakes not applied, twist past its limit (07 R114). -/
def Obligations.ProposalAnswered : Prop :=
  ∀ (source : Station) (number : Nat) (path : Int) (target : Nat) (purpose : Purpose) (s : State),
    let payload := encodePropose number path target purpose
    s.Hears .yawPropose source payload → number < 256 → -8388608 ≤ path → path < 8388608 → target < 65536 →
    s.ywc.participant = .idle → s.ywc.proposal = none → s.lif.queue.length < 8 →
    let ref : Ref := { proposer := source.val, number := number }
    let u := s.heard (some .yawPropose) source
    let ready := 0 < s.icu.straps.drives ∧ s.configured = true ∧ s.ywc.lock = false ∧ s.levels.brakeApplied = true ∧
      (s.ywc.known = true → (s.ywc.twist + path).natAbs ≤ s.prm.twistLimit)
    (ready → ∃ t m, exec (.yawPropose source payload) s = .next t ∧ t.ywc.participant = .answered ∧
      t.ywc.move = some m ∧ m.ref = ref ∧ m.path = path ∧ (0 < path → m.clockwise = true) ∧
      (path < 0 → m.clockwise = false) ∧ t.ywc.commitWait = some 500 ∧ t.ywc.brakeRelease = false ∧
      t.ywc.motors = motorsOff ∧
      t.lif.queue =
        insertFrame (s.newFrame .yawAnswer (encodeAnswer ref .ready s.icu.straps.drives .noReason)) s.lif.queue ∧
      t = { u with ywc := t.ywc, lif := { u.lif with queue := t.lif.queue }, draws := t.draws }) ∧
    (¬ ready →
      let reason : Refusing :=
        if s.icu.straps.drives = 0 then .noDrives
        else if s.configured = false ∨ s.ywc.lock = true then .lockedOut
        else if s.levels.brakeApplied = false then .brake
        else .twist
      let answer := s.newFrame .yawAnswer (encodeAnswer ref .refuse s.icu.straps.drives reason)
      exec (.yawPropose source payload) s =
        .next { u with lif := { u.lif with queue := insertFrame answer s.lif.queue } })

/-- A YAW_PROPOSE that meets another proposal. A participant that has answered turns to a proposer numbered at or below its
own move's, and a proposer that is COLLECTING or COMMITTED withdraws for a lower-numbered one, sending nothing and starting
no holdoff: from ANSWERED or IDLE the frame is then answered as by an IDLE station, from RELEASING or RELEASED the brakes go
on. In every other case the answer is REFUSE with BUSY and nothing else changes (07 R115, R116). Brakes that already show
applied end BRAKING at once, the model's reading (log entry 16). -/
def Obligations.ProposalsCompete : Prop :=
  ∀ (source : Station) (number : Nat) (path : Int) (target : Nat) (purpose : Purpose) (s : State),
    let payload := encodePropose number path target purpose
    s.Hears .yawPropose source payload → number < 256 → -8388608 ≤ path → path < 8388608 → target < 65536 →
    s.lif.queue.length < 8 →
    let ref : Ref := { proposer := source.val, number := number }
    let u := s.heard (some .yawPropose) source
    let answer := s.newFrame .yawAnswer (encodeAnswer ref .refuse s.icu.straps.drives .busy)
    let busy := fun (y : Ywc) => { u with ywc := y, lif := { u.lif with queue := insertFrame answer s.lif.queue } }
    let dropped := { s.ywc with proposal := none, answerTimer := none, releaseTimer := none }
    let asIdle := ∃ v t, exec (.yawPropose source payload) v = .next t ∧ exec (.yawPropose source payload) s = .next t ∧
      v.ywc.participant = .idle ∧ v.ywc.proposal = none ∧ v.ywc.move = none ∧ v.ywc.commitWait = none ∧
      (s.ywc.proposal.isSome = true → v.ywc.answerTimer = none ∧ v.ywc.releaseTimer = none) ∧
      v.ywc.holdoffTimer = s.ywc.holdoffTimer ∧
      v.ywc.brakeRelease = false ∧ v.ywc.motors = motorsOff ∧ v.ywc.position = s.ywc.position ∧
      v.ywc.twist = s.ywc.twist ∧ v = { s with ywc := v.ywc }
    (s.ywc.proposal = none →
      (∀ r, s.ywc.participant = .answered → s.ywc.moveRef = some r →
        (source.val ≤ r.proposer → asIdle) ∧
        (r.proposer < source.val → exec (.yawPropose source payload) s = .next (busy s.ywc))) ∧
      (s.ywc.participant ∈ [.releasing, .released, .driving, .stopping, .braking] →
        exec (.yawPropose source payload) s = .next (busy s.ywc))) ∧
    (∀ r, s.ywc.proposal = some r →
      (r.phase = .moving ∨ s.own < source → exec (.yawPropose source payload) s = .next (busy s.ywc)) ∧
      (r.phase ≠ .moving → source < s.own →
        (s.ywc.participant ∈ [.answered, .idle] → asIdle) ∧
        (s.ywc.participant ∈ [.releasing, .released] →
          ∃ t, exec (.yawPropose source payload) s = .next t ∧ t = busy t.ywc ∧ t.ywc.proposal = none ∧
            t.ywc.answerTimer = none ∧ t.ywc.releaseTimer = none ∧ t.ywc.holdoffTimer = s.ywc.holdoffTimer ∧
            t.ywc.participant = (if s.levels.brakeApplied then .idle else .braking) ∧ t.ywc.brakeRelease = false ∧
            t.ywc.motors = motorsOff ∧ t.ywc.brakingTimer = (if s.levels.brakeApplied then none else some 2000)) ∧
        (s.ywc.participant ∈ [.driving, .stopping, .braking] →
          exec (.yawPropose source payload) s = .next (busy dropped))))

/-- An answer to the own proposal is entered while COLLECTING; the one that completes the expected set brings the decision
within the same arrival, as the answer timer's expiry brings it. A RELEASED joins the released set while COMMITTED; the one
that completes the committed set moves the record to MOVING with count 0, stops the release timer and puts YAW_DRIVE into
the queue, and an own participant that is RELEASED takes it as its own, driving where its twist does not forbid it (07 R117,
R118, R121, R122). -/
def Obligations.AnswersEntered : Prop :=
  ∀ (source : Station) (ref : Ref) (answer : Answer) (drives : Nat) (e : Refusing) (r : Proposal) (s : State),
    let payload := encodeAnswer ref answer drives e
    s.Hears .yawAnswer source payload → ref.InRange → drives < 256 → s.ywc.proposal = some r → r.ref = ref →
    let u := s.heard (some .yawAnswer) source
    let entered := fun (a : Reply) => { r with answers := r.answers.set source (some a) }
    let joined := { r with released := r.released ||| stationBit source }
    (∀ a, r.phase = .collecting → (answer = .ready ∧ a = .ready drives ∨ answer = .refuse ∧ a = .refuse e) →
      (answeredInFull (entered a) = false →
        exec (.yawAnswer source payload) s = .next (u.setProposal (some (entered a)))) ∧
      (answeredInFull (entered a) = true →
        ∃ v t, exec .answerTimerExpiry v = .next t ∧ exec (.yawAnswer source payload) s = .next t ∧
          v = { u with ywc := { s.ywc with proposal := some (entered a), answerTimer := some 250 } })) ∧
    (r.phase = .committed → answer = .released → inSet r.committed source = true →
      (joined.released ≠ r.committed →
        exec (.yawAnswer source payload) s = .next (u.setProposal (some joined))) ∧
      (joined.released = r.committed → s.lif.queue.length < 8 →
        let driving := insertFrame (s.newFrame .yawDrive (encodeDrive ref)) s.lif.queue
        let moving := { joined with phase := .moving, count := 0 }
        (s.ywc.participant ≠ .released → exec (.yawAnswer source payload) s = .next { u with
          ywc := { s.ywc with proposal := some moving, releaseTimer := none }
          lif := { u.lif with queue := driving } }) ∧
        (∀ m, s.ywc.participant = .released → s.ywc.move = some m →
          (s.ywc.known = true → (if m.clockwise then 0 ≤ s.ywc.twist else s.ywc.twist ≤ 0) →
            s.ywc.twist.natAbs < s.prm.twistLimit) →
          ∃ t, exec (.yawAnswer source payload) s = .next t ∧ t.ywc.proposal = some moving ∧
            t.ywc.releaseTimer = none ∧ t.ywc.participant = .driving ∧ t.ywc.move = some { m with count := 0 } ∧
            t.ywc.motors = motorsOn s.icu.straps.drives m.clockwise ∧ t.ywc.stallTimer = some 3000 ∧
            t = { u with ywc := t.ywc, lif := { u.lif with queue := driving } }))) ∧
    (r.phase = .committed → (answer ≠ .released ∨ inSet r.committed source = false) →
      exec (.yawAnswer source payload) s = .next u) ∧
    (r.phase = .collecting → answer = .released → exec (.yawAnswer source payload) s = .next u) ∧
    (r.phase = .moving → exec (.yawAnswer source payload) s = .next u)

/-- The answer timer's expiry takes the decision: with the READY total at or above the minimum drives the record is
COMMITTED to the stations that answered READY and the release timer runs; below it the proposal ends and the holdoff runs
(07 R118, R125). -/
def Obligations.DecisionTaken : Prop :=
  ∀ (r : Proposal) (s : State), s.ywc.answerTimer.isSome = true → s.ywc.proposal = some r → r.phase = .collecting →
    s.levels.brakeApplied = true → s.lif.queue.length < 8 → s.lif.lineIdle = false →
    (s.prm.minDrives ≤ readyDrives r.answers.toList → ∃ t, exec .answerTimerExpiry s = .next t ∧
      t.ywc.proposal = some { r with phase := .committed, committed := readySet r.answers } ∧
      t.ywc.releaseTimer = some 4000 ∧ t.ywc.answerTimer = none ∧ t.ywc.window = [] ∧
      s.newFrame .yawCommit (encodeCommit r.ref (readySet r.answers)) ∈ t.lif.queue ∧
      (inSet (readySet r.answers) s.own = true → t.ywc.participant = .releasing ∧ t.ywc.brakeRelease = true ∧
        t.ywc.brakeTimer = some 4000 ∧ t.ywc.move = s.ywc.move) ∧
      (inSet (readySet r.answers) s.own = false → t.ywc.participant = .idle ∧ t.ywc.brakeRelease = false) ∧
      t.ywc.motors = motorsOff ∧ t = { s with ywc := t.ywc, lif := t.lif }) ∧
    (readyDrives r.answers.toList < s.prm.minDrives → ∃ t, exec .answerTimerExpiry s = .next t ∧
      t.ywc.proposal = none ∧ t.ywc.answerTimer = none ∧ t.ywc.holdoffTimer = some (s.prm.holdoff * 1000) ∧
      s.newFrame .yawHalt (encodeHalt r.ref .abandoned) ∈ t.lif.queue ∧ t = { s with ywc := t.ywc, lif := t.lif })

/-- A YAW_COMMIT empties the window whatever its ref; in ANSWERED for the current ref it takes a listed station to
RELEASING with its brake release on, and another to IDLE (07 R119; 06 R101). A YAW_DRIVE for the current ref starts a
RELEASED participant with its motors on in the direction of the path; where that would wind a KNOWN twist at or past its
limit it halts the move with TWIST instead; any other YAW_DRIVE is ignored (07 R122, R125). -/
def Obligations.CommitAndDrive : Prop :=
  (∀ (source : Station) (ref : Ref) (set : StationSet) (s : State),
    let payload := encodeCommit ref set
    s.Hears .yawCommit source payload → ref.InRange →
    let u := (s.heard (some .yawCommit) source).emptyWindow
    (s.ywc.participant ≠ .answered ∨ s.ywc.moveRef ≠ some ref → exec (.yawCommit source payload) s = .next u) ∧
    (s.ywc.participant = .answered → s.ywc.moveRef = some ref → inSet set s.own = false →
      exec (.yawCommit source payload) s = .next (u.participate .idle)) ∧
    (s.ywc.participant = .answered → s.ywc.moveRef = some ref → inSet set s.own = true → s.levels.brakeApplied = true →
      ∃ t, exec (.yawCommit source payload) s = .next t ∧ t.ywc.participant = .releasing ∧ t.ywc.brakeRelease = true ∧
        t.ywc.brakeTimer = some 4000 ∧ t.ywc.commitWait = none ∧ t.ywc.motors = motorsOff ∧ t.ywc.window = [] ∧
        t.ywc.move = s.ywc.move ∧ t = { u with ywc := t.ywc })) ∧
  (∀ (source : Station) (ref : Ref) (s : State),
    let payload := encodeDrive ref
    s.Hears .yawDrive source payload → ref.InRange →
    let u := s.heard (some .yawDrive) source
    (s.ywc.participant ≠ .released ∨ s.ywc.moveRef ≠ some ref → exec (.yawDrive source payload) s = .next u) ∧
    (∀ m, s.ywc.participant = .released → s.ywc.move = some m → m.ref = ref →
      let winds := s.ywc.known = true ∧ s.prm.twistLimit ≤ s.ywc.twist.natAbs ∧
        (if m.clockwise then 0 ≤ s.ywc.twist else s.ywc.twist ≤ 0)
      (¬ winds → ∃ t, exec (.yawDrive source payload) s = .next t ∧ t.ywc.participant = .driving ∧
        t.ywc.move = some { m with count := 0 } ∧ t.ywc.invalidSteps = 0 ∧
        t.ywc.motors = motorsOn s.icu.straps.drives m.clockwise ∧ t.ywc.stallTimer = some 3000 ∧
        t.ywc.driveWait = none ∧ t.ywc.brakeRelease = true ∧ t = { u with ywc := t.ywc }) ∧
      (winds → s.lif.queue.length < 8 → ∃ t, exec (.yawDrive source payload) s = .next t ∧
        t.ywc.participant = .stopping ∧ t.ywc.motors = motorsOff ∧ t.ywc.brakeRelease = true ∧
        t.ywc.settleTimer = some 1000 ∧ t.ywc.driveWait = none ∧
        t.lif.queue = insertFrame (s.newFrame .yawHalt (encodeHalt ref .twist)) s.lif.queue ∧
        t = { u with ywc := t.ywc, lif := { u.lif with queue := t.lif.queue } })))

/-- The brake feedback: falling in RELEASING it makes a participant RELEASED, which answers RELEASED; at the proposer the own
station joins the released set of its COMMITTED record instead, and where that completes the committed set the record is
MOVING, YAW_DRIVE goes into the queue and the station drives, or halts the move with TWIST (07 R120 to R122, R125). Rising
in BRAKING the feedback returns the participant to IDLE; in other states only the level changes (07 R120, R127). The commit wait takes a participant
in ANSWERED to IDLE, the drive-wait and the settle timer take one to BRAKING with the brake release off, while the brakes do
not yet show applied, and the release timer ends a COMMITTED proposal with its holdoff running (07 R119, R121, R122,
R126). -/
def Obligations.BrakesAndWaits : Prop :=
  (∀ (m : Move) (s : State), s.levels.brakeApplied = true → s.ywc.participant = .releasing → s.ywc.move = some m →
    m.ref.proposer ≠ s.own.val → s.lif.queue.length < 8 → s.lif.lineIdle = false →
    ∃ t, exec .brakeFeedbackReleased s = .next t ∧ t.ywc.participant = .released ∧ t.ywc.brakeTimer = none ∧
      t.ywc.driveWait = some 4000 ∧ t.ywc.brakeRelease = true ∧ t.ywc.motors = motorsOff ∧ t.ywc.move = s.ywc.move ∧
      s.newFrame .yawAnswer (encodeAnswer m.ref .released s.icu.straps.drives .noReason) ∈ t.lif.queue ∧
      t = { s with levels := { s.levels with brakeApplied := false }, ywc := t.ywc, lif := t.lif }) ∧
  (∀ (m : Move) (r : Proposal) (s : State), s.levels.brakeApplied = true → s.ywc.participant = .releasing →
    s.ywc.move = some m → m.ref.proposer = s.own.val → s.ywc.proposal = some r → r.ref = m.ref →
    let low := { s.levels with brakeApplied := false }
    let joined := { r with released := r.released ||| stationBit s.own }
    let joins := r.phase = .committed ∧ inSet r.committed s.own = true
    (¬ joins ∨ joined.released ≠ r.committed → ∃ t, exec .brakeFeedbackReleased s = .next t ∧
      t.ywc.participant = .released ∧ t.ywc.brakeTimer = none ∧ t.ywc.driveWait = some 4000 ∧
      t.ywc.brakeRelease = true ∧ t.ywc.motors = motorsOff ∧ t.ywc.move = s.ywc.move ∧
      (joins → t.ywc.proposal = some joined) ∧ (¬ joins → t.ywc.proposal = some r) ∧
      t.ywc.releaseTimer = s.ywc.releaseTimer ∧ t = { s with levels := low, ywc := t.ywc }) ∧
    (joins → joined.released = r.committed → s.lif.queue.length < 7 → s.lif.lineIdle = false →
      let winds := s.ywc.known = true ∧ s.prm.twistLimit ≤ s.ywc.twist.natAbs ∧
        (if m.clockwise then 0 ≤ s.ywc.twist else s.ywc.twist ≤ 0)
      let queue := insertFrame (s.newFrame .yawDrive (encodeDrive m.ref)) s.lif.queue
      (¬ winds → ∃ t, exec .brakeFeedbackReleased s = .next t ∧
        t.ywc.proposal = some { joined with phase := .moving, count := 0 } ∧ t.ywc.releaseTimer = none ∧
        t.ywc.participant = .driving ∧ t.ywc.move = some { m with count := 0 } ∧ t.ywc.invalidSteps = 0 ∧
        t.ywc.motors = motorsOn s.icu.straps.drives m.clockwise ∧ t.ywc.stallTimer = some 3000 ∧
        t.ywc.brakeTimer = none ∧ t.ywc.driveWait = none ∧ t.ywc.brakeRelease = true ∧
        t = { s with levels := low, ywc := t.ywc, lif := { s.lif with queue := queue } }) ∧
      (winds → ∃ t, exec .brakeFeedbackReleased s = .next t ∧ t.ywc.proposal = none ∧ t.ywc.releaseTimer = none ∧
        t.ywc.holdoffTimer = some (s.prm.holdoff * 1000) ∧ t.ywc.participant = .stopping ∧
        t.ywc.motors = motorsOff ∧ t.ywc.brakeRelease = true ∧ t.ywc.settleTimer = some 1000 ∧
        t.ywc.driveWait = none ∧
        t.lif.queue = insertFrame (s.newFrame .yawHalt (encodeHalt m.ref .twist)) queue ∧
        t = { s with levels := low, ywc := t.ywc, lif := { s.lif with queue := t.lif.queue } }))) ∧
  (∀ s : State, s.levels.brakeApplied = true → s.ywc.participant ≠ .releasing →
    exec .brakeFeedbackReleased s = .next { s with levels := { s.levels with brakeApplied := false } }) ∧
  (∀ s : State, s.levels.brakeApplied = false → s.ywc.participant = .braking →
    ∃ t, exec .brakeFeedbackApplied s = .next t ∧ t.ywc.participant = .idle ∧ t.ywc.move = none ∧
      t.ywc.brakingTimer = none ∧ t.ywc.brakeRelease = false ∧ t.ywc.motors = motorsOff ∧
      t.ywc.position = s.ywc.position ∧ t.ywc.twist = s.ywc.twist ∧
      t = { s with levels := { s.levels with brakeApplied := true }, ywc := t.ywc }) ∧
  (∀ s : State, s.levels.brakeApplied = false → s.ywc.participant ≠ .braking →
    exec .brakeFeedbackApplied s = .next { s with levels := { s.levels with brakeApplied := true } }) ∧
  (∀ s : State, s.ywc.commitWait.isSome = true → exec .commitWaitExpiry s = .next (s.participate .idle)) ∧
  (∀ s : State, s.ywc.driveWait.isSome = true → s.levels.brakeApplied = false →
    exec .driveWaitExpiry s = .next (s.participate .braking)) ∧
  (∀ s : State, s.ywc.settleTimer.isSome = true → s.levels.brakeApplied = false →
    exec .settleTimerExpiry s = .next (s.participate .braking)) ∧
  (∀ (s : State) (p : Participant), p ∈ [Participant.idle, .braking] →
    (s.participate p).ywc.participant = p ∧ (s.participate p).ywc.motors = motorsOff ∧
      (s.participate p).ywc.brakeRelease = false ∧
      (s.participate p).ywc.commitWait = none ∧ (s.participate p).ywc.driveWait = none ∧
      (s.participate p).ywc.settleTimer = none ∧
      (s.participate p).ywc.brakingTimer = (if p = .braking then some 2000 else none) ∧
      (s.participate p).ywc.position = s.ywc.position ∧ (s.participate p).ywc.twist = s.ywc.twist ∧
      s.participate p = { s with ywc := (s.participate p).ywc }) ∧
  (∀ (r : Proposal) (s : State), s.ywc.releaseTimer.isSome = true → s.ywc.proposal = some r → s.lif.queue.length < 8 →
    s.lif.lineIdle = false →
    ∃ t, exec .releaseTimerExpiry s = .next t ∧ t.ywc.proposal = none ∧ t.ywc.releaseTimer = none ∧
      t.ywc.holdoffTimer = some (s.prm.holdoff * 1000) ∧
      s.newFrame .yawHalt (encodeHalt r.ref .abandoned) ∈ t.lif.queue ∧ t = { s with ywc := t.ywc, lif := t.lif })

/-- The brake timer's expiry halts a participant in RELEASING into STOPPING, and the braking timer's expiry returns one in
BRAKING to IDLE; each leaves BRAKE_FEEDBACK in the condition set, which brings the yaw-lock and derate exponent 2 or more
(07 R120, R127; 10 R168, R169). The stall timer's expiry stops a DRIVING participant, leaves YAW_STALL in the condition
set with the yaw-lock on, sets the stall flag and starts the holdoff (07 R124). -/
def Obligations.YawFaults : Prop :=
  (∀ (m : Move) (s : State), s.Calm → s.ywc.brakeTimer.isSome = true → s.ywc.participant = .releasing →
    s.ywc.move = some m → s.ywc.proposal = none →
    ∃ t, exec .brakeTimerExpiry s = .next t ∧ t.ywc.participant = .stopping ∧ t.ywc.settleTimer = some 1000 ∧
      t.ywc.brakeTimer = none ∧ t.ywc.motors = motorsOff ∧ t.ywc.brakeRelease = true ∧
      inMembers .brakeFeedback t.flu.members = true ∧ t.flu.yawLock = true ∧ 2 ≤ t.flu.exponent ∧
      t.icu = s.icu ∧ t.ptb = s.ptb ∧ t.levels = s.levels) ∧
  (∀ s : State, s.Calm → s.ywc.brakingTimer.isSome = true → s.ywc.participant = .braking →
    ∃ t, exec .brakingTimerExpiry s = .next t ∧ t.ywc.participant = .idle ∧ t.ywc.move = none ∧
      t.ywc.brakingTimer = none ∧ t.ywc.motors = motorsOff ∧ t.ywc.brakeRelease = false ∧
      inMembers .brakeFeedback t.flu.members = true ∧ t.flu.yawLock = true ∧ 2 ≤ t.flu.exponent ∧
      t.icu = s.icu ∧ t.ptb = s.ptb ∧ t.levels = s.levels) ∧
  (∀ (m : Move) (s : State), s.Calm → s.ywc.stallTimer.isSome = true → s.ywc.participant = .driving →
    s.ywc.move = some m → s.ywc.proposal = none →
    ∃ t, exec .stallTimerExpiry s = .next t ∧ t.ywc.participant = .stopping ∧ t.ywc.motors = motorsOff ∧
      t.ywc.stallTimer = none ∧ t.ywc.stall = true ∧ t.ywc.holdoffTimer = some (s.prm.holdoff * 1000) ∧
      inMembers .yawStall t.flu.members = true ∧ t.flu.yawLock = true ∧ t.icu = s.icu ∧ t.ptb = s.ptb ∧
      t.levels = s.levels)

/-- A YAW_HALT for a ref that is neither the current one nor the record's changes nothing (07 R130). One for either takes the
halt: a participant in ANSWERED returns to IDLE with its commit wait stopped; one that releases, waits or drives is STOPPING
with its motors off and its brakes held off for the settle time; one in IDLE, STOPPING or BRAKING stands. A record of that
ref is cleared with its answer and release timers and the proposal holdoff starts; another record stands (07 R125). -/
def Obligations.HaltTaken : Prop :=
  ∀ (source : Station) (ref : Ref) (e : HaltReason) (s : State),
    let payload := encodeHalt ref e
    s.Hears .yawHalt source payload → ref.InRange →
    let u := s.heard (some .yawHalt) source
    (s.ywc.moveRef ≠ some ref → s.ywc.proposalRef ≠ some ref → exec (.yawHalt source payload) s = .next u) ∧
    (s.ywc.moveRef = some ref ∨ s.ywc.proposalRef = some ref →
      ∃ t, exec (.yawHalt source payload) s = .next t ∧
        (s.ywc.participant = .answered → t.ywc.participant = .idle ∧ t.ywc.commitWait = none ∧ t.ywc.move = none ∧
          t.ywc.motors = motorsOff ∧ t.ywc.brakeRelease = false) ∧
        (s.ywc.participant ∈ [.releasing, .released, .driving] → t.ywc.participant = .stopping ∧
          t.ywc.motors = motorsOff ∧ t.ywc.brakeRelease = true ∧ t.ywc.settleTimer = some 1000 ∧
          t.ywc.stallTimer = none ∧ t.ywc.brakeTimer = none ∧ t.ywc.driveWait = none ∧ t.ywc.move = s.ywc.move) ∧
        (s.ywc.participant ∈ [.idle, .stopping, .braking] → t.ywc =
          { s.ywc with
            proposal := t.ywc.proposal
            answerTimer := t.ywc.answerTimer
            releaseTimer := t.ywc.releaseTimer
            holdoffTimer := t.ywc.holdoffTimer }) ∧
        (s.ywc.proposalRef = some ref → t.ywc.proposal = none ∧ t.ywc.answerTimer = none ∧
          t.ywc.releaseTimer = none ∧ t.ywc.holdoffTimer = some (s.prm.holdoff * 1000)) ∧
        (s.ywc.proposalRef ≠ some ref → t.ywc.proposal = s.ywc.proposal ∧ t.ywc.answerTimer = s.ywc.answerTimer ∧
          t.ywc.releaseTimer = s.ywc.releaseTimer ∧ t.ywc.holdoffTimer = s.ywc.holdoffTimer) ∧
        t.ywc.position = s.ywc.position ∧ t.ywc.twist = s.ywc.twist ∧ t.ywc.window = s.ywc.window ∧
        t = { u with ywc := t.ywc })

/-! ## The coolant -/

/-- What a PUMP_STATE frame does at a station without a pump. It is taken into the view of its pump from the reported owner,
from a lower-numbered station, where no owner is reported or where the reported one is not PRESENT; one from a
higher-numbered station beside a PRESENT owner is ignored (08 R135). A frame taken is a loop view change, which in phase
CONFIGURED brings the flow test: a pump that counts as running takes FLOW_GRACE and FLOW_LOST to FLOW_OK, with FLOW_LOST out
of the condition set, and the lack of one takes FLOW_OK to FLOW_GRACE with the grace timer started; the STC is told of each
change (08 R136, R147). An owner state NONE is held as shown, the model's choice (log entry 23). -/
def Obligations.PumpReported : Prop :=
  ∀ (source : Station) (p : Pump) (o : PumpOwner) (duty : Nat) (s : State),
    let payload := encodePump p o duty
    s.Hears .pumpState source payload → duty < 65536 → s.icu.straps.pumpRole = .noRole → s.Calm →
    let u := s.heard (some .pumpState) source
    let view : PumpView := { owner := some source, reported := .shown o, handover := o == .handingOff }
    let viewed := { s.clc with
      viewA := if p = .a then view else s.clc.viewA
      viewB := if p = .b then view else s.clc.viewB
      incoming := if p = .a ∧ o ≠ .handingOff then false else s.clc.incoming }
    let on := ({ u with clc := viewed } : State).anyRunning
    let flow : FlowState := match s.clc.flow, on with
      | .flowOk, false => .flowGrace
      | .flowGrace, true | .flowLost, true => .flowOk
      | f, _ => f
    ((∀ n, (s.clc.view p).owner = some n → n = source ∨ source.val < n.val ∨ (s.peer n).presence ≠ .present) →
      (s.configured = false → exec (.pumpState source payload) s = .next { u with clc := viewed }) ∧
      (s.configured = true → ∃ t, exec (.pumpState source payload) s = .next t ∧
        t.clc.viewA = viewed.viewA ∧ t.clc.viewB = viewed.viewB ∧ t.clc.flow = flow ∧
        (flow ≠ s.clc.flow → t.stc.flow = flow ∧
          t.clc.graceTimer = (match s.clc.flow with
            | .flowOk => some (s.prm.flowGrace * 1000)
            | .flowGrace => none
            | .flowLost => s.clc.graceTimer)) ∧
        (flow = s.clc.flow → t = { u with clc := viewed }) ∧
        (s.clc.flow = .flowLost → on = true → t.clc.lostFlag = false ∧
          (s.clc.lostFlag = true → inMembers .flowLost t.flu.members = false)) ∧ t.icu = s.icu ∧
        t.ptb = u.ptb ∧ t.levels = s.levels)) ∧
    (∀ n, (s.clc.view p).owner = some n → n.val < source.val → (s.peer n).presence = .present →
      exec (.pumpState source payload) s = .next u)

/-- What a PUMP_STATE frame does at an owner of a pump. One that names the other pump is taken into the view or ignored, as
at any station (08 R135); taken with HANDING_OFF and the request flag it starts an owner in STANDBY that may start, pump B's
owner with its incoming flag (08 R143); the outgoing owner goes to STANDBY where the other pump then runs and back to
RUNNING with a freshly loaded counter where it has FAILED (08 R144). One that names the own pump is not taken: it sets the
conflict flag, puts ROLE_CONFLICT into the condition set with the pump-latch on, and FAILS the pump of the higher-numbered
station; with the flag set it changes nothing (08 R146). -/
def Obligations.PumpExchange : Prop :=
  ∀ (source : Station) (own p : Pump) (o : PumpOwner) (duty : Nat) (s : State),
    let payload := encodePump p o duty
    s.Hears .pumpState source payload → duty < 65536 → s.ownPump = some own → s.Calm →
    let u := s.heard (some .pumpState) source
    let view : PumpView := { owner := some source, reported := .shown o, handover := o == .handingOff }
    (p = own →
      (s.clc.conflict = true → exec (.pumpState source payload) s = .next u) ∧
      (s.clc.conflict = false → ∃ t, exec (.pumpState source payload) s = .next t ∧ t.clc.conflict = true ∧
        inMembers .roleConflict t.flu.members = true ∧ t.flu.pumpLatch = true ∧ t.clc.latch = true ∧
        (s.clc.latch = false → t.clc.startHold = none) ∧ t.clc.viewA = s.clc.viewA ∧ t.clc.viewB = s.clc.viewB ∧
        (s.own < source → t.clc.owner = s.clc.owner ∧ t.clc.pumpOutput = s.clc.pumpOutput) ∧
        (source < s.own → t.clc.owner = .failed ∧
          (s.clc.owner ≠ .failed → t.clc.pumpOutput = false ∧ inMembers .pumpFailed t.flu.members = true)) ∧
        t.icu = s.icu ∧ t.ptb = u.ptb ∧ t.levels = s.levels)) ∧
    (p ≠ own →
      ((∃ n, (s.clc.view p).owner = some n ∧ n.val < source.val ∧ (s.peer n).presence = .present) →
        exec (.pumpState source payload) s = .next u) ∧
      ((∀ n, (s.clc.view p).owner = some n → n = source ∨ source.val < n.val ∨ (s.peer n).presence ≠ .present) →
        ∃ t, exec (.pumpState source payload) s = .next t ∧ t.clc.view p = view ∧ t.clc.view own = s.clc.view own ∧
          t.icu = s.icu ∧ t.ptb = u.ptb ∧ t.levels = s.levels ∧
          (o = .handingOff → s.clc.owner = .standby → s.configured = true → s.clc.latch = false →
            s.levels.flow = false →
            t.clc.owner = .starting ∧ t.clc.pumpOutput = true ∧ t.clc.confirmTimer = some 10000 ∧
              t.clc.startHold = none ∧ (own = .b → t.clc.incoming = true)) ∧
          (o = .handingOff → s.clc.owner = .standby → s.configured = false ∨ s.clc.latch = true →
            t.clc.owner = .standby ∧ (own = .b → t.clc.startHold = none)) ∧
          (s.clc.owner = .handingOff → o = .running → t.clc.owner = .standby ∧ t.clc.pumpOutput = false ∧
            t.clc.handoffTimer = none) ∧
          (s.clc.owner = .handingOff → o = .failed → t.clc.owner = .running ∧
            t.clc.pumpOutput = true ∧ t.clc.duty = 60 * s.prm.dutyHours ∧ t.clc.handoffTimer = none)))

/-- How a pump comes to STARTING, to RUNNING and back to STANDBY, with the flow switch showing no flow. At a loop view
change, here a PUMP_STATE taken for the other pump, and at the configured indication, an owner that may start (STANDBY,
CONFIGURED, pump-latch off) does so: pump A's where no pump counts as running or the frame requests a handover (08 R138,
R143); pump B's at once where pump A is reported FAILED, and else its start hold runs exactly while no pump counts as
running, not restarted while it runs (08 R139). One in STANDBY that may not start stays there, without a start hold. A start hold expiry starts pump B. A flow switch coming on in STARTING and a handoff expiry make an owner RUNNING with
a freshly loaded counter (08 R140, R144); pump B's owner, with its incoming flag clear and pump A running and reported
RUNNING, yields to STANDBY at its entry to RUNNING and at a loop view change (08 R145). -/
def Obligations.PumpStarts : Prop :=
  (∀ (source : Station) (o : PumpOwner) (duty : Nat) (s : State) (own other : Pump),
    let payload := encodePump other o duty
    s.Hears .pumpState source payload → duty < 65536 → s.ownPump = some own → other ≠ own → s.Calm →
    (∀ n, (s.clc.view other).owner = some n → n = source ∨ source.val < n.val ∨ (s.peer n).presence ≠ .present) →
    s.levels.flow = false →
    ∃ t, exec (.pumpState source payload) s = .next t ∧ t.icu = s.icu ∧ t.levels = s.levels ∧
      (s.clc.owner = .standby → s.configured = false ∨ s.clc.latch = true →
        t.clc.owner = .standby ∧ (own = .b → t.clc.startHold = none)) ∧
      (s.clc.owner = .standby → s.configured = true → s.clc.latch = false →
        (own = .a ∧ o ≠ .running ∨ own = .b ∧ o = .failed →
          t.clc.owner = .starting ∧ t.clc.pumpOutput = true ∧ t.clc.confirmTimer = some 10000 ∧
            t.clc.startHold = none) ∧
        (o = .running → t.clc.owner = .standby ∧ (own = .b → t.clc.startHold = none)) ∧
        (own = .b → o ∈ [.noPump, .standby, .starting] → t.clc.owner = .standby ∧
          t.clc.startHold = (if s.clc.startHold.isSome then s.clc.startHold else some 15000))) ∧
      (own = .b → s.clc.owner = .running →
        (o = .running → t.clc.owner = .standby ∧ t.clc.pumpOutput = false ∧ t.clc.dutyTimer = none ∧
          t.clc.duty = s.clc.duty) ∧
        (o ≠ .running → t.clc.owner = .running ∧ t.clc.pumpOutput = s.clc.pumpOutput)) ∧
      (own = .a → s.clc.owner = .running → t.clc.owner = .running ∧ t.clc.pumpOutput = s.clc.pumpOutput)) ∧
  (∀ (source : Station) (payload : List Byte) (f : PartFields) (a : Assembly) (s : State),
    s.Hears .configPart source payload → decodePart payload = some f → s.configured = false →
    s.targeted f.target = true → f.index = 5 → s.icu.assembly = some a → a.next = 5 → f.serial = a.serial →
    validate s.own (decodeRecord (a.bytes ++ f.bytes)) = none → s.Calm → s.clc.owner = .standby →
    s.clc.latch = false → s.levels.flow = false →
    ∃ t, exec (.configPart source payload) s = .next t ∧
      (s.icu.straps.pumpRole = .a ∧ s.anyRunning = false ∨
          s.icu.straps.pumpRole = .b ∧ s.reported .a = .shown .failed →
        t.clc.owner = .starting ∧ t.clc.pumpOutput = true ∧ t.clc.confirmTimer = some 10000 ∧ t.clc.startHold = none) ∧
      (s.icu.straps.pumpRole ≠ .noRole → s.anyRunning = true → t.clc.owner = .standby ∧
        (s.icu.straps.pumpRole = .b → t.clc.startHold = none)) ∧
      (s.icu.straps.pumpRole = .b → s.anyRunning = false → s.reported .a ≠ .shown .failed →
        t.clc.owner = .standby ∧
          t.clc.startHold = (if s.clc.startHold.isSome then s.clc.startHold else some 15000))) ∧
  (∀ s : State, s.Calm → s.icu.straps.pumpRole = .b → s.clc.startHold.isSome = true → s.mayStartPump = true →
    s.levels.flow = false →
    ∃ t, exec .startHoldExpiry s = .next t ∧ t.clc.owner = .starting ∧ t.clc.pumpOutput = true ∧
      t.clc.confirmTimer = some 10000 ∧ t.clc.startHold = none ∧ t.icu = s.icu ∧ t.ptb = s.ptb ∧
      t.levels = s.levels) ∧
  (∀ s : State, s.Calm → (s.icu.straps.pumpRole ≠ .b ∨ s.clc.incoming = true ∨ s.countsRunning .a = false) →
    (s.levels.flow = false → s.clc.owner = .starting →
      ∃ t, exec .flowSwitchShowsFlow s = .next t ∧ t.clc.owner = .running ∧ t.clc.pumpOutput = true ∧
        t.clc.duty = 60 * s.prm.dutyHours ∧ t.clc.confirmTimer = none ∧ t.clc.dutyTimer = some 60000 ∧
        t.levels = { s.levels with flow := true } ∧ t.icu = s.icu ∧ t.ptb = s.ptb) ∧
    (s.clc.handoffTimer.isSome = true →
      ∃ t, exec .handoffTimerExpiry s = .next t ∧ t.clc.owner = .running ∧ t.clc.pumpOutput = true ∧
        t.clc.duty = 60 * s.prm.dutyHours ∧ t.clc.handoffTimer = none ∧ t.clc.dutyTimer = some 60000 ∧
        t.levels = s.levels ∧ t.icu = s.icu ∧ t.ptb = s.ptb)) ∧
  (∀ s : State, s.Calm → s.icu.straps.pumpRole = .b → s.clc.incoming = false → s.countsRunning .a = true →
    s.reported .a = .shown .running →
    (s.levels.flow = false → s.clc.owner = .starting →
      ∃ t, exec .flowSwitchShowsFlow s = .next t ∧ t.clc.owner = .standby ∧ t.clc.pumpOutput = false ∧
        t.clc.duty = 60 * s.prm.dutyHours ∧ t.clc.dutyTimer = none ∧ t.clc.startHold = none ∧ t.icu = s.icu) ∧
    (s.clc.handoffTimer.isSome = true →
      ∃ t, exec .handoffTimerExpiry s = .next t ∧ t.clc.owner = .standby ∧ t.clc.pumpOutput = false ∧
        t.clc.duty = 60 * s.prm.dutyHours ∧ t.clc.dutyTimer = none ∧ t.clc.handoffTimer = none ∧ t.icu = s.icu))

/-- A duty minute expiry lowers the duty counter by one; at 0 the duty period ends, with the counter loaded afresh where
the other pump cannot take the loop and with HANDING_OFF where it can; the report timer's expiry requests PUMP_STATE with
the state as it stands (08 R134, R142). -/
def Obligations.PumpRuns : Prop :=
  (∀ s : State, s.clc.dutyTimer.isSome = true → 1 < s.clc.duty →
    exec .dutyMinuteExpiry s = .next { s with clc := { s.clc with dutyTimer := some 60000, duty := s.clc.duty - 1 } }) ∧
  (∀ s : State, s.clc.dutyTimer.isSome = true → s.clc.duty = 1 → s.otherReady = false →
    exec .dutyMinuteExpiry s = .next
      { s with clc := { s.clc with dutyTimer := some 60000, duty := 60 * s.prm.dutyHours } }) ∧
  (∀ s : State, s.Calm → s.clc.dutyTimer.isSome = true → s.clc.duty = 1 → s.otherReady = true →
    ∃ t, exec .dutyMinuteExpiry s = .next t ∧ t.clc.owner = .handingOff ∧ t.clc.pumpOutput = true ∧
      t.clc.handoffTimer = some 11000 ∧ t.clc.dutyTimer = none ∧ t.icu = s.icu ∧ t.ptb = s.ptb ∧
      t.levels = s.levels) ∧
  (∀ (p : Pump) (s : State), s.clc.reportTimer.isSome = true → s.ownPump = some p → s.lif.queue.length < 8 →
    ∃ t, exec .pumpReportTimerExpiry s = .next t ∧ t.lif.queue.length = s.lif.queue.length + 1 ∧
      (∃ f ∈ t.lif.queue, f.kind = .pumpState ∧ f.payload = encodePump p s.clc.owner s.clc.duty) ∧
      t = { s with clc := { s.clc with reportTimer := some 1000, heldPump := none }, lif := t.lif })

/-- A confirm expiry in STARTING and a flow switch falling in RUNNING or HANDING_OFF fail the pump: its output goes off and
PUMP_FAILED stands in the condition set with the pump-latch on (08 R137, R140, R141). At the flow grace expiry the flow is
lost: the limit and the setpoint are 0 in phase CONFIGURED, and FLOW_LOST stands in the condition set (08 R147; 05 R82,
R83). -/
def Obligations.FlowFailures : Prop :=
  (∀ (s : State) (c : Instr), s.Calm → s.clc.owner ≠ .failed →
    (c = .flowConfirmExpiry ∧ s.clc.confirmTimer.isSome = true ∨
      c = .flowSwitchNoFlow ∧ s.levels.flow = true ∧ (s.clc.owner = .running ∨ s.clc.owner = .handingOff)) →
    ∃ t, exec c s = .next t ∧ t.clc.owner = .failed ∧ t.clc.pumpOutput = false ∧ t.clc.incoming = false ∧
      inMembers .pumpFailed t.flu.members = true ∧ t.flu.pumpLatch = true ∧ t.icu = s.icu ∧ t.ptb = s.ptb) ∧
  (∀ s : State, s.Calm → s.clc.graceTimer.isSome = true → s.configured = true → s.stc.setpoint ≤ s.stc.limit →
    ∃ t, exec .flowGraceExpiry s = .next t ∧ t.clc.flow = .flowLost ∧ t.clc.lostFlag = true ∧
      t.clc.graceTimer = none ∧ t.stc.flow = .flowLost ∧ t.stc.limit = 0 ∧ t.stc.setpoint = 0 ∧
      inMembers .flowLost t.flu.members = true ∧ t.icu = s.icu ∧ t.ptb = s.ptb ∧ t.levels = s.levels)

/-- At each sample the reading is kept with its valid flag, and the voted temperature is the own reading while it is
within 30 of the median of the vote set, the median where it is not or where the reading is invalid, and no value where the
set is empty; the STC is given it (09 R151 to R153) and in phase CONFIGURED forms its limit from it (05 R79). SENSOR_DISAGREE
stands while a valid reading is more than 30 off, and SENSOR_SUPPLY while the reading is invalid, each raised and cleared as
its flag changes (09 R154). In phase CONFIGURED a temperature at or above the trip temperature puts OVERTEMP into the
condition set and, with the trip temperature above the derate start as in every valid record, leaves no string active; one
below it clears a standing OVERTEMP (04 R69). The order of the two steps is the model's choice (log entry 33). -/
def Obligations.SampleVoted : Prop :=
  ∀ (word : BitVec 12) (s : State), s.Calm → s.clc.sampleTimer.isSome = true →
    let v := word.toInt
    let valid := -400 ≤ v ∧ v ≤ 1500
    let off := valid ∧ ∃ m, upperMedian (v :: s.peerReadings) = some m ∧ 30 < (v - m).natAbs
    ∃ t, exec (.sampleTimerExpiry word) s = .next t ∧ t.clc.raw = v ∧ (t.clc.rawValid = true ↔ valid) ∧
      t.clc.sampleTimer = some s.period ∧ t.stc.theta = t.clc.theta ∧
      (∀ m, valid → upperMedian (v :: s.peerReadings) = some m →
        t.clc.theta = some (if (v - m).natAbs ≤ 30 then v else m)) ∧
      (¬ valid → t.clc.theta = upperMedian s.peerReadings) ∧ t.icu = s.icu ∧ t.ptb = s.ptb ∧ t.levels = s.levels ∧
      (t.clc.disagree = true ↔ off) ∧ (t.clc.supply = true ↔ ¬ valid) ∧
      inMembers .sensorDisagree t.flu.members =
        (if t.clc.disagree = s.clc.disagree then inMembers .sensorDisagree s.flu.members else t.clc.disagree) ∧
      inMembers .sensorSupply t.flu.members =
        (if t.clc.supply = s.clc.supply then inMembers .sensorSupply s.flu.members else t.clc.supply) ∧
      (s.configured = true →
        t.stc.limit = (limitParts s.prm t.flu.exponent t.clc.theta s.stc.flow).least ∧
        (∀ x, t.clc.theta = some x →
          ((s.prm.tripTemp : Int) ≤ x → t.stc.overtemp = true ∧
            (s.prm.derateStart < s.prm.tripTemp → t.stc.state.isActive = false) ∧
            (s.stc.overtemp = false → inMembers .overtemp t.flu.members = true)) ∧
          (x < (s.prm.tripTemp : Int) → t.stc.overtemp = false ∧
            (s.stc.overtemp = true → inMembers .overtemp t.flu.members = false)))) ∧
      (s.configured = false ∨ t.clc.theta = none → t.stc.overtemp = s.stc.overtemp ∧
        inMembers .overtemp t.flu.members = inMembers .overtemp s.flu.members)

/-- The fan bank at each sample. In phase CONFIGURED an owner forms the heat-based count from the own loss in RUN and the
losses of the running peers, and raises the stage count to the required count (09 R157, R159); bank B's owner has its cover
COVERED exactly where a shown peer of fan role A is CONFIGURED (09 R161). A rival, here with a clear flag, sets it with
ROLE_CONFLICT in the condition set, and the higher-numbered station of the two turns its outputs off and holds them off (09
R162; of several the lowest-numbered is the rival, log entry 18). Where the stage count or the cover changes and the outputs
are not held off, the lowest-numbered HEALTHY fans up to the bank duty run and no other (09 R160); other outputs are not
switched. That the rival test comes last is the model's choice (log entry 33). -/
def Obligations.FansCalled : Prop :=
  ∀ (word : BitVec 12) (s : State), s.Calm → s.clc.sampleTimer.isSome = true →
    let owns := s.icu.straps.fanRole ≠ .noRole
    let rival := fun (n : Station) => owns ∧ ∃ r, s.peerShowing n = some r ∧ r.fanRole = s.icu.straps.fanRole
    ∃ t, exec (.sampleTimerExpiry word) s = .next t ∧ t.icu = s.icu ∧ t.ptb = s.ptb ∧
      t.clc.nTemp = s.clc.nTemp ∧ t.clc.fanStepTimer = s.clc.fanStepTimer ∧
      (s.configured = true ∧ owns →
        let q := (if t.stc.state = .run then t.stc.loss else 0) + (s.runningPeers.map (fun p => p.2.loss)).sum
        t.clc.nHeat = min 6 ((q + s.prm.fanCapacity - 1) / s.prm.fanCapacity) ∧
          t.clc.nFan = max s.clc.nFan (max t.clc.nHeat s.clc.nTemp)) ∧
      (s.configured = false ∨ ¬ owns → t.clc.nHeat = s.clc.nHeat ∧ t.clc.nFan = s.clc.nFan) ∧
      (s.icu.straps.fanRole = .b → (t.clc.cover = .covered ↔
        ∃ n r, s.peerShowing n = some r ∧ r.fanRole = .a ∧ r.phase = .configured)) ∧
      (s.icu.straps.fanRole ≠ .b → t.clc.cover = s.clc.cover) ∧
      (s.clc.fanConflict = true ∨ (∀ n, ¬ rival n) →
        t.clc.fanConflict = s.clc.fanConflict ∧ t.clc.heldOff = s.clc.heldOff) ∧
      (∀ n, s.clc.fanConflict = false → rival n → (∀ m, m < n → ¬ rival m) →
        t.clc.fanConflict = true ∧ inMembers .roleConflict t.flu.members = true ∧
          t.clc.heldOff = (s.clc.heldOff || decide (n < s.own)) ∧
          (n < s.own → ∀ i : Fin 3, t.clc.fans[i].output = false)) ∧
      (∀ i : Fin 3, t.clc.fans[i].healthy = s.clc.fans[i].healthy ∧
        (t.clc.heldOff = false →
          (t.clc.nFan = s.clc.nFan → t.clc.cover = s.clc.cover → t.clc.fans[i] = s.clc.fans[i]) ∧
          (t.clc.nFan ≠ s.clc.nFan ∨ t.clc.cover ≠ s.clc.cover →
            let duty := match s.icu.straps.fanRole, t.clc.cover with
              | .b, .covered => t.clc.nFan - 3
              | _, _ => min 3 t.clc.nFan
            t.clc.fans[i].output =
              (s.clc.fans[i].healthy && decide (([0, 1, 2].filter (fun j : Fin 3 =>
                decide (j < i) && s.clc.fans[j].healthy)).length < duty)))) ∧
        (s.clc.heldOff = true → t.clc.heldOff = true ∧
          ((s.clc.fanConflict = true ∨ ∀ n, ¬ rival n) → t.clc.fans[i] = s.clc.fans[i])))

/-- A fan step expiry moves the temperature-based count by the kept voted temperature and then the stage count by the
required count (09 R158, R159). A fan's feedback timer runs exactly while its output is on and its feedback does not show;
at its expiry the fan is FAILED with its output off, and FAN_FAILED stands in the condition set (09 R156). -/
def Obligations.FanEvents : Prop :=
  (∀ s : State, s.clc.fanStepTimer.isSome = true →
    let n := match s.clc.theta with
      | none => min 6 (s.clc.nTemp + 1)
      | some v =>
        if (s.prm.derateStart : Int) - 50 ≤ v then min 6 (s.clc.nTemp + 1)
        else if v ≤ (s.prm.derateStart : Int) - 100 then s.clc.nTemp - 1
        else s.clc.nTemp
    let required := max s.clc.nHeat n
    ∃ t, exec .fanStepExpiry s = .next t ∧ t.clc.nTemp = n ∧ t.clc.fanStepTimer = some 60000 ∧
      t.clc.nFan = (if s.clc.nFan < required then required
        else if required < s.clc.nFan then s.clc.nFan - 1 else s.clc.nFan) ∧
      t.clc.nHeat = s.clc.nHeat ∧ t = { s with clc := t.clc }) ∧
  (∀ (fan : Fin 3) (shows : Bool) (s : State), s.levels.fans[fan] = !shows →
    ∃ t, exec (.fanFeedbackChange fan shows) s = .next t ∧ t.levels.fans[fan] = shows ∧
      t.clc.fans[fan].timer = (if s.clc.fans[fan].output = true ∧ shows = false then some 5000 else none) ∧
      t.clc.fans[fan].output = s.clc.fans[fan].output ∧ t.clc.fans[fan].healthy = s.clc.fans[fan].healthy ∧
      (∀ i : Fin 3, i ≠ fan → t.clc.fans[i] = s.clc.fans[i]) ∧
      t = { s with levels := { s.levels with fans := t.levels.fans }, clc := { s.clc with fans := t.clc.fans } }) ∧
  (∀ (fan : Fin 3) (s : State), s.Calm → s.clc.fans[fan].timer.isSome = true →
    ∃ t, exec (.fanFeedbackTimerExpiry fan) s = .next t ∧ t.clc.fans[fan].healthy = false ∧
      t.clc.fans[fan].output = false ∧ t.clc.fans[fan].timer = none ∧
      inMembers .fanFailed t.flu.members = true ∧ t.clc.nFan = s.clc.nFan ∧ t.stc = s.stc ∧ t.ywc = s.ywc ∧
      t.icu = s.icu ∧ t.ptb = s.ptb ∧ t.levels = s.levels)

/-! ## The Fault Unit -/

/-- Station seconds: 0 with the clock timer started at the end of every full reset, one more at each clock expiry,
saturating at 4,294,967,295, the timer restarting; a line reset changes neither (10 R171). -/
def Obligations.StationSeconds : Prop :=
  (∀ (pins : BitVec 10) (first : Levels) (s : State), ∃ t, exec (.fullReset pins first) s = .next t ∧
    t.flu.seconds = 0 ∧ t.flu.clockTimer = some 1000) ∧
  (∀ s : State, s.flu.clockTimer.isSome = true →
    let n := if s.flu.seconds < 4294967295 then s.flu.seconds + 1 else 4294967295
    exec .stationClockExpiry s = .next { s with flu := { s.flu with clockTimer := some 1000, seconds := n } }) ∧
  (∀ (source : Station) (payload : List Byte) (s : State), ∃ t, exec (.stationReset source payload) s = .next t ∧
    t.flu.seconds = s.flu.seconds ∧ t.flu.clockTimer = s.flu.clockTimer)

/-- Selection. While the supervisor flag is present it announces the oldest PENDING entry of the most urgent class that
holds one, unless an entry of that class or of a more urgent one is IN_SERVICE: the entry goes IN_SERVICE and a FAULT_NOTICE
with its fields goes into the queue, or is held where the queue is full; in every other case it changes nothing (11 R184,
R185). The supervisor flag becoming present brings a selection; its becoming absent returns every IN_SERVICE entry to
PENDING, stops every repeat timer and drops every held request; an indication that repeats it changes nothing (11 R183,
R188). A discard notice for an IN_SERVICE entry stops the repeat timer of its class, returns it to PENDING and brings a
selection; for any other it changes nothing (11 R187). The entry is found by number alone, the model's choice (log entry
35). -/
def Obligations.SelectionMade : Prop :=
  (∀ log : List Entry,
    (selected log = none ↔ ∀ e ∈ log, e.report = .pending →
      ∃ x ∈ log, x.report = .inService ∧ classRank x.cls ≤ classRank e.cls) ∧
    (∀ e, selected log = some e → e.report = .pending ∧
      (∀ x ∈ log, x.report = .pending → classRank e.cls ≤ classRank x.cls) ∧
      (∀ x ∈ log, x.report = .inService → classRank e.cls < classRank x.cls) ∧
      ∃ a b, log = a ++ e :: b ∧ ∀ x ∈ a, x.report = .pending → x.cls ≠ e.cls)) ∧
  (∀ s : State,
    (s.flu.supervisor = false ∨ selected s.flu.log = none → s.select = s) ∧
    (∀ e, s.flu.supervisor = true → selected s.flu.log = some e →
      let log := s.flu.log.map (fun x => if x.number = e.number then { x with report := .inService } else x)
      (s.lif.queue.length < 8 → s.lif.lineIdle = false → s.select =
        { s with
          lif := { s.lif with queue := insertFrame (s.newFrame .faultNotice (encodeNotice e)) s.lif.queue }
          flu := { s.flu with log := log } }) ∧
      (8 ≤ s.lif.queue.length → ∃ t, s.select = t ∧ { number := e.number, cls := e.cls } ∈ t.flu.held ∧
        t = { s with
          lif := { s.lif with holders := t.lif.holders }
          flu := { s.flu with log := log, held := t.flu.held } }))) ∧
  (∀ s : State,
    s.supervisorIndication s.flu.supervisor = s ∧
    (s.flu.supervisor = false →
      s.supervisorIndication true = State.select { s with flu := { s.flu with supervisor := true } }) ∧
    (s.flu.supervisor = true → ∃ t, s.supervisorIndication false = t ∧
      t = { s with
        lif := { s.lif with holders := t.lif.holders }
        flu := { s.flu with
          supervisor := false
          log := s.flu.log.map (fun e => if e.report = .inService then { e with report := .pending } else e)
          repeats := { critical := none, major := none, minor := none, info := none }
          held := [] } })) ∧
  (∀ (f : QueuedFrame) (s : State),
    ((f.kind ≠ .faultNotice ∨ ∀ n, noticeNumber f.payload = some n → s.inService n = none) → s.discardNotice f = s) ∧
    (∀ n e, f.kind = .faultNotice → noticeNumber f.payload = some n → s.inService n = some e →
      s.discardNotice f = State.select { s with flu := { s.flu with
        log := s.flu.log.map (fun x => if x.number = n then { x with report := .pending } else x)
        repeats := s.flu.repeats.put none e.cls } }))

/-- A repeat expiry announces the IN_SERVICE entry of its class again with its fields as they stand; the entry stays
IN_SERVICE (11 R186). A FAULT_ACK that names this station or all sets ACKED the entries it names, mode ONE by number, CLASS
by class, ALL every one, and changes no other field of an entry; where one of them was IN_SERVICE, its class's repeat timer
stops, its held request is dropped, and one selection follows once all are set (11 R189, R190). -/
def Obligations.AnnouncementMoves : Prop :=
  (∀ (c : FaultClass) (e : Entry) (s : State), (s.flu.repeats.timer c).isSome = true →
    inServiceOf c s.flu.log = some e → s.lif.queue.length < 8 →
    ∃ t, exec (.noticeRepeatExpiry c) s = .next t ∧
      (∃ f ∈ t.lif.queue, f.kind = .faultNotice ∧ f.payload = encodeNotice e) ∧
      t = { s with lif := t.lif, flu := { s.flu with repeats := s.flu.repeats.put none c } }) ∧
  (∀ (source : Station) (payload : List Byte) (target : Nat) (order : AckOrder) (s : State),
    s.Hears .faultAck source payload → decodeAck payload = some (target, order) →
    let u := s.heard (some .faultAck) source
    let named := fun (e : Entry) =>
      match order with
      | .one n => decide (e.number = n)
      | .ofClass c => decide (e.cls = c)
      | .all => true
    let log := s.flu.log.map (fun e => if named e then { e with report := .acked } else e)
    (s.targeted target = false → exec (.faultAck source payload) s = .next u) ∧
    (s.targeted target = true →
      ((∀ e ∈ s.flu.log, named e = true → e.report ≠ .inService) → exec (.faultAck source payload) s = .next
        { u with flu := { s.flu with log := log, pressure := decide (s.watermark ≤ unackedCount log) } }) ∧
      ((∃ e ∈ s.flu.log, named e = true ∧ e.report = .inService) →
        let gone := s.flu.log.filter (fun e => named e && decide (e.report = .inService))
        ∃ v, exec (.faultAck source payload) s = .next (State.select v) ∧
          (∀ c, v.flu.repeats.timer c =
            if gone.any (fun e => decide (e.cls = c)) then none else s.flu.repeats.timer c) ∧
          v = { u with
            lif := { u.lif with holders :=
              { stc := s.stc.heldTrip.isSome, ywc := !s.ywc.held.isEmpty, clc := s.clc.heldPump.isSome,
                flu := !v.flu.held.isEmpty } }
            flu := { s.flu with
              log := log
              pressure := decide (s.watermark ≤ unackedCount log)
              repeats := v.flu.repeats
              held := s.flu.held.filter (fun h => gone.all (fun e => decide (e.number ≠ h.number))) } })))

/-- A recurrence merges into the latest entry of its code: one of a condition code unless that entry is ACKED, and one of an
event code only where it is PENDING. A merge leaves ACTIVE a condition's entry, counts one occurrence more up to 255, takes
the station seconds as last time and the raise's value, and changes nothing else of the entry (10 R172, R174, R175). In
every other case a new entry is made; where the latest entry of a condition code is ACKED, it becomes INACTIVE first. A new
entry bears the entry counter's number, is ACTIVE for a condition code, MASKED where its class is masked in phase
CONFIGURED and else PENDING, and has one occurrence (10 R172, R173). It goes to the end of a log with a free place, and the
oldest entry leaves first where it bears the counter's number, here where no supervisor is present (10 R173, R177, R179). -/
def Obligations.RaisesLogged : Prop :=
  (∀ (code : Code) (v : Int) (e : Entry) (s : State), latestOf code s.flu.log = some e →
    let log := s.flu.log.map (fun x => if x.number = e.number then x.merge s.flu.seconds v else x)
    let merged := { s with flu := { s.flu with log := log } }
    let closed := s.flu.log.map (fun x => if x.number = e.number then { x with active := false } else x)
    (e.report ≠ .acked → s.logCondition code v = merged) ∧ (e.report = .pending → s.logEvent code v = merged) ∧
    (e.report = .acked → s.logCondition code v = State.makeEntry { s with flu := { s.flu with log := closed } } code v) ∧
    (e.report ≠ .pending → s.logEvent code v = s.makeEntry code v)) ∧
  (∀ (e : Entry) (now : Nat) (v : Int), e.merge now v =
    { number := e.number, code := e.code, cls := e.cls, active := e.code.isCondition, report := e.report,
      occurrences := if e.occurrences < 255 then e.occurrences + 1 else 255, first := e.first, last := now, value := v }) ∧
  (∀ (code : Code) (v : Int) (s : State), s.newEntry code v =
    { number := s.flu.counter, code := code, cls := code.cls, active := code.isCondition,
      report := if s.configured && (match code.cls with
          | .critical => s.prm.maskCritical
          | .major => s.prm.maskMajor
          | .minor => s.prm.maskMinor
          | .info => s.prm.maskInfo) then .masked else .pending,
      occurrences := 1, first := s.flu.seconds, last := s.flu.seconds, value := v }) ∧
  (∀ (code : Code) (v : Int) (s : State), s.flu.log.length < 32 → s.flu.supervisor = false →
    (∀ e, s.flu.log.head? = some e → e.number ≠ s.flu.counter) →
    let log := s.flu.log ++ [s.newEntry code v]
    let made := { s with flu := { s.flu with
      log := log
      counter := (s.flu.counter + 1) % 4096
      pressure := decide (s.watermark ≤ unackedCount log) } }
    s.makeEntry code v = made ∧ (latestOf code s.flu.log = none → s.logCondition code v = made ∧ s.logEvent code v = made)) ∧
  (∀ (code : Code) (v : Int) (e : Entry) (rest : List Entry) (s : State), s.flu.log = e :: rest →
    e.number = s.flu.counter → rest.length < 32 → e.report ≠ .inService → s.flu.supervisor = false →
    let log := rest ++ [s.newEntry code v]
    s.makeEntry code v = { s with flu := { s.flu with
      log := log
      counter := (s.flu.counter + 1) % 4096
      pressure := decide (s.watermark ≤ unackedCount log) } })

/-- A full log makes a place for a new entry of a class by removing the oldest entry that is ACKED and INACTIVE; failing
that, the oldest entry of the least urgent class present among those less urgent than the new one; failing both it removes
none, and the new entry is not stored. An entry made on a full log is stored at its end in the place made, the overflow flag
as it stood; one that finds none leaves the log as it stands and sets the overflow flag; either way the entry counter rises
by one and the pressure flag is tested, here where no supervisor is present (10 R173, R177, R179). -/
def Obligations.PlaceMade : Prop :=
  (∀ (e : Entry) (log : List Entry), log.length = 32 →
    (storeIn e log = (none, log, false) ↔
      ∀ x ∈ log, ¬ (x.report = .acked ∧ x.active = false) ∧ classRank x.cls ≤ classRank e.cls) ∧
    (∀ g rest, storeIn e log = (some g, rest, true) →
      ∃ a b, log = a ++ g :: b ∧ rest = a ++ b ++ [e] ∧
        (g.report = .acked ∧ g.active = false ∧ (∀ x ∈ a, ¬ (x.report = .acked ∧ x.active = false)) ∨
          (∀ x ∈ log, ¬ (x.report = .acked ∧ x.active = false)) ∧ classRank e.cls < classRank g.cls ∧
            (∀ x ∈ log, classRank x.cls ≤ classRank g.cls) ∧ ∀ x ∈ a, classRank x.cls < classRank g.cls))) ∧
  (∀ (code : Code) (v : Int) (s : State), s.flu.log.length = 32 → s.flu.supervisor = false →
    (∀ e, s.flu.log.head? = some e → e.number ≠ s.flu.counter) →
    let e := s.newEntry code v
    (storeIn e s.flu.log = (none, s.flu.log, false) → s.makeEntry code v = { s with flu := { s.flu with
      counter := (s.flu.counter + 1) % 4096
      overflow := true
      pressure := decide (s.watermark ≤ unackedCount s.flu.log) } }) ∧
    (∀ g log, storeIn e s.flu.log = (some g, log, true) → g.report ≠ .inService → s.makeEntry code v =
      { s with flu := { s.flu with
        log := log
        counter := (s.flu.counter + 1) % 4096
        pressure := decide (s.watermark ≤ unackedCount log) } }))

/-- A raise of a condition code makes it a member of the condition set, and a clear takes a member that is not latched out
of it, its entries INACTIVE; no other code comes or goes with either, and the derate exponent and the lock indications are
formed again from the set that results (10 R167 to R169, R176). -/
def Obligations.ConditionSet : Prop :=
  ∀ (code : Code) (v : Int) (o : Option Origin) (s : State),
    let formed := fun (t : State) =>
      t.flu.exponent = exponentOf t.flu.members ∧
      t.flu.stringLatch = t.flu.members.any (fun m => m.actions.stringLatch) ∧
      t.flu.yawLock = t.flu.members.any (fun m => m.actions.yawLock) ∧
      t.flu.pumpLatch = t.flu.members.any (fun m => m.actions.pumpLatch)
    (code.isCondition = true → formed (s.takeRaise code v o) ∧
      ∀ c, inMembers c (s.takeRaise code v o).flu.members = (c == code || inMembers c s.flu.members)) ∧
    (code.isCondition = false → (s.takeRaise code v o).flu.members = s.flu.members) ∧
    (code.isLatched = true ∨ inMembers code s.flu.members = false → s.takeClear code = s) ∧
    (code.isLatched = false → inMembers code s.flu.members = true → formed (s.takeClear code) ∧
      (∀ c, inMembers c (s.takeClear code).flu.members = (c != code && inMembers c s.flu.members)) ∧
      ∀ e ∈ (s.takeClear code).flu.log, e.code = code → e.active = false)

end
end

