-- ==== Sys2Proof/Laws/State.lean ====
section
/-! SUPPORT. What a single update leaves as it stands: one lemma per field per update, true by rfl. -/

namespace Sys2Proof.Machine

/-! ### raise -/

@[simp] theorem State.raise_icu (s : State) (code : Code) (v : Int) (o : Option Origin) : (s.raise code v o).icu = s.icu := rfl
@[simp] theorem State.raise_lif (s : State) (code : Code) (v : Int) (o : Option Origin) : (s.raise code v o).lif = s.lif := rfl
@[simp] theorem State.raise_ptb (s : State) (code : Code) (v : Int) (o : Option Origin) : (s.raise code v o).ptb = s.ptb := rfl
@[simp] theorem State.raise_stc (s : State) (code : Code) (v : Int) (o : Option Origin) : (s.raise code v o).stc = s.stc := rfl
@[simp] theorem State.raise_ywc (s : State) (code : Code) (v : Int) (o : Option Origin) : (s.raise code v o).ywc = s.ywc := rfl
@[simp] theorem State.raise_clc (s : State) (code : Code) (v : Int) (o : Option Origin) : (s.raise code v o).clc = s.clc := rfl
@[simp] theorem State.raise_levels (s : State) (code : Code) (v : Int) (o : Option Origin) : (s.raise code v o).levels = s.levels := rfl
@[simp] theorem State.raise_differing (s : State) (code : Code) (v : Int) (o : Option Origin) : (s.raise code v o).differing = s.differing := rfl
@[simp] theorem State.raise_draws (s : State) (code : Code) (v : Int) (o : Option Origin) : (s.raise code v o).draws = s.draws := rfl
@[simp] theorem State.raise_pending (s : State) (code : Code) (v : Int) (o : Option Origin) : (s.raise code v o).pending = s.pending := rfl

/-! ### clear -/

@[simp] theorem State.clear_icu (s : State) (code : Code) : (s.clear code).icu = s.icu := rfl
@[simp] theorem State.clear_lif (s : State) (code : Code) : (s.clear code).lif = s.lif := rfl
@[simp] theorem State.clear_ptb (s : State) (code : Code) : (s.clear code).ptb = s.ptb := rfl
@[simp] theorem State.clear_stc (s : State) (code : Code) : (s.clear code).stc = s.stc := rfl
@[simp] theorem State.clear_ywc (s : State) (code : Code) : (s.clear code).ywc = s.ywc := rfl
@[simp] theorem State.clear_clc (s : State) (code : Code) : (s.clear code).clc = s.clc := rfl
@[simp] theorem State.clear_levels (s : State) (code : Code) : (s.clear code).levels = s.levels := rfl
@[simp] theorem State.clear_differing (s : State) (code : Code) : (s.clear code).differing = s.differing := rfl
@[simp] theorem State.clear_draws (s : State) (code : Code) : (s.clear code).draws = s.draws := rfl
@[simp] theorem State.clear_pending (s : State) (code : Code) : (s.clear code).pending = s.pending := rfl

/-! ### drew -/

@[simp] theorem State.drew_icu (s : State) : (s.drew).icu = s.icu := rfl
@[simp] theorem State.drew_lif (s : State) : (s.drew).lif = s.lif := rfl
@[simp] theorem State.drew_ptb (s : State) : (s.drew).ptb = s.ptb := rfl
@[simp] theorem State.drew_stc (s : State) : (s.drew).stc = s.stc := rfl
@[simp] theorem State.drew_ywc (s : State) : (s.drew).ywc = s.ywc := rfl
@[simp] theorem State.drew_clc (s : State) : (s.drew).clc = s.clc := rfl
@[simp] theorem State.drew_flu (s : State) : (s.drew).flu = s.flu := rfl
@[simp] theorem State.drew_levels (s : State) : (s.drew).levels = s.levels := rfl
@[simp] theorem State.drew_differing (s : State) : (s.drew).differing = s.differing := rfl
@[simp] theorem State.drew_pending (s : State) : (s.drew).pending = s.pending := rfl

/-! ### setPeer -/

@[simp] theorem State.setPeer_icu (s : State) (n : Station) (e : PeerEntry) : (s.setPeer n e).icu = s.icu := rfl
@[simp] theorem State.setPeer_lif (s : State) (n : Station) (e : PeerEntry) : (s.setPeer n e).lif = s.lif := rfl
@[simp] theorem State.setPeer_stc (s : State) (n : Station) (e : PeerEntry) : (s.setPeer n e).stc = s.stc := rfl
@[simp] theorem State.setPeer_ywc (s : State) (n : Station) (e : PeerEntry) : (s.setPeer n e).ywc = s.ywc := rfl
@[simp] theorem State.setPeer_clc (s : State) (n : Station) (e : PeerEntry) : (s.setPeer n e).clc = s.clc := rfl
@[simp] theorem State.setPeer_flu (s : State) (n : Station) (e : PeerEntry) : (s.setPeer n e).flu = s.flu := rfl
@[simp] theorem State.setPeer_levels (s : State) (n : Station) (e : PeerEntry) : (s.setPeer n e).levels = s.levels := rfl
@[simp] theorem State.setPeer_differing (s : State) (n : Station) (e : PeerEntry) : (s.setPeer n e).differing = s.differing := rfl
@[simp] theorem State.setPeer_draws (s : State) (n : Station) (e : PeerEntry) : (s.setPeer n e).draws = s.draws := rfl
@[simp] theorem State.setPeer_pending (s : State) (n : Station) (e : PeerEntry) : (s.setPeer n e).pending = s.pending := rfl

/-! ### enqueue -/

@[simp] theorem State.enqueue_icu (s : State) (k : Kind) (p : List Byte) : (s.enqueue k p).icu = s.icu := rfl
@[simp] theorem State.enqueue_ptb (s : State) (k : Kind) (p : List Byte) : (s.enqueue k p).ptb = s.ptb := rfl
@[simp] theorem State.enqueue_stc (s : State) (k : Kind) (p : List Byte) : (s.enqueue k p).stc = s.stc := rfl
@[simp] theorem State.enqueue_ywc (s : State) (k : Kind) (p : List Byte) : (s.enqueue k p).ywc = s.ywc := rfl
@[simp] theorem State.enqueue_clc (s : State) (k : Kind) (p : List Byte) : (s.enqueue k p).clc = s.clc := rfl
@[simp] theorem State.enqueue_flu (s : State) (k : Kind) (p : List Byte) : (s.enqueue k p).flu = s.flu := rfl
@[simp] theorem State.enqueue_levels (s : State) (k : Kind) (p : List Byte) : (s.enqueue k p).levels = s.levels := rfl
@[simp] theorem State.enqueue_differing (s : State) (k : Kind) (p : List Byte) : (s.enqueue k p).differing = s.differing := rfl
@[simp] theorem State.enqueue_draws (s : State) (k : Kind) (p : List Byte) : (s.enqueue k p).draws = s.draws := rfl
@[simp] theorem State.enqueue_pending (s : State) (k : Kind) (p : List Byte) : (s.enqueue k p).pending = s.pending := rfl

/-! ### noteHolders -/

@[simp] theorem State.noteHolders_icu (s : State) : (s.noteHolders).icu = s.icu := rfl
@[simp] theorem State.noteHolders_ptb (s : State) : (s.noteHolders).ptb = s.ptb := rfl
@[simp] theorem State.noteHolders_stc (s : State) : (s.noteHolders).stc = s.stc := rfl
@[simp] theorem State.noteHolders_ywc (s : State) : (s.noteHolders).ywc = s.ywc := rfl
@[simp] theorem State.noteHolders_clc (s : State) : (s.noteHolders).clc = s.clc := rfl
@[simp] theorem State.noteHolders_flu (s : State) : (s.noteHolders).flu = s.flu := rfl
@[simp] theorem State.noteHolders_levels (s : State) : (s.noteHolders).levels = s.levels := rfl
@[simp] theorem State.noteHolders_differing (s : State) : (s.noteHolders).differing = s.differing := rfl
@[simp] theorem State.noteHolders_draws (s : State) : (s.noteHolders).draws = s.draws := rfl
@[simp] theorem State.noteHolders_pending (s : State) : (s.noteHolders).pending = s.pending := rfl

/-! ### testPressure -/

@[simp] theorem State.testPressure_icu (s : State) : (s.testPressure).icu = s.icu := rfl
@[simp] theorem State.testPressure_lif (s : State) : (s.testPressure).lif = s.lif := rfl
@[simp] theorem State.testPressure_ptb (s : State) : (s.testPressure).ptb = s.ptb := rfl
@[simp] theorem State.testPressure_stc (s : State) : (s.testPressure).stc = s.stc := rfl
@[simp] theorem State.testPressure_ywc (s : State) : (s.testPressure).ywc = s.ywc := rfl
@[simp] theorem State.testPressure_clc (s : State) : (s.testPressure).clc = s.clc := rfl
@[simp] theorem State.testPressure_levels (s : State) : (s.testPressure).levels = s.levels := rfl
@[simp] theorem State.testPressure_differing (s : State) : (s.testPressure).differing = s.differing := rfl
@[simp] theorem State.testPressure_draws (s : State) : (s.testPressure).draws = s.draws := rfl
@[simp] theorem State.testPressure_pending (s : State) : (s.testPressure).pending = s.pending := rfl

/-! ### stopRepeat -/

@[simp] theorem State.stopRepeat_icu (s : State) (c : FaultClass) : (s.stopRepeat c).icu = s.icu := rfl
@[simp] theorem State.stopRepeat_lif (s : State) (c : FaultClass) : (s.stopRepeat c).lif = s.lif := rfl
@[simp] theorem State.stopRepeat_ptb (s : State) (c : FaultClass) : (s.stopRepeat c).ptb = s.ptb := rfl
@[simp] theorem State.stopRepeat_stc (s : State) (c : FaultClass) : (s.stopRepeat c).stc = s.stc := rfl
@[simp] theorem State.stopRepeat_ywc (s : State) (c : FaultClass) : (s.stopRepeat c).ywc = s.ywc := rfl
@[simp] theorem State.stopRepeat_clc (s : State) (c : FaultClass) : (s.stopRepeat c).clc = s.clc := rfl
@[simp] theorem State.stopRepeat_levels (s : State) (c : FaultClass) : (s.stopRepeat c).levels = s.levels := rfl
@[simp] theorem State.stopRepeat_differing (s : State) (c : FaultClass) : (s.stopRepeat c).differing = s.differing := rfl
@[simp] theorem State.stopRepeat_draws (s : State) (c : FaultClass) : (s.stopRepeat c).draws = s.draws := rfl
@[simp] theorem State.stopRepeat_pending (s : State) (c : FaultClass) : (s.stopRepeat c).pending = s.pending := rfl

/-! ### dropHeldNotice -/

@[simp] theorem State.dropHeldNotice_icu (s : State) (n : Nat) : (s.dropHeldNotice n).icu = s.icu := rfl
@[simp] theorem State.dropHeldNotice_ptb (s : State) (n : Nat) : (s.dropHeldNotice n).ptb = s.ptb := rfl
@[simp] theorem State.dropHeldNotice_stc (s : State) (n : Nat) : (s.dropHeldNotice n).stc = s.stc := rfl
@[simp] theorem State.dropHeldNotice_ywc (s : State) (n : Nat) : (s.dropHeldNotice n).ywc = s.ywc := rfl
@[simp] theorem State.dropHeldNotice_clc (s : State) (n : Nat) : (s.dropHeldNotice n).clc = s.clc := rfl
@[simp] theorem State.dropHeldNotice_levels (s : State) (n : Nat) : (s.dropHeldNotice n).levels = s.levels := rfl
@[simp] theorem State.dropHeldNotice_differing (s : State) (n : Nat) : (s.dropHeldNotice n).differing = s.differing := rfl
@[simp] theorem State.dropHeldNotice_draws (s : State) (n : Nat) : (s.dropHeldNotice n).draws = s.draws := rfl
@[simp] theorem State.dropHeldNotice_pending (s : State) (n : Nat) : (s.dropHeldNotice n).pending = s.pending := rfl

/-! ### dropStaleHeld -/

@[simp] theorem State.dropStaleHeld_icu (s : State) : (s.dropStaleHeld).icu = s.icu := rfl
@[simp] theorem State.dropStaleHeld_lif (s : State) : (s.dropStaleHeld).lif = s.lif := rfl
@[simp] theorem State.dropStaleHeld_ptb (s : State) : (s.dropStaleHeld).ptb = s.ptb := rfl
@[simp] theorem State.dropStaleHeld_stc (s : State) : (s.dropStaleHeld).stc = s.stc := rfl
@[simp] theorem State.dropStaleHeld_clc (s : State) : (s.dropStaleHeld).clc = s.clc := rfl
@[simp] theorem State.dropStaleHeld_levels (s : State) : (s.dropStaleHeld).levels = s.levels := rfl
@[simp] theorem State.dropStaleHeld_differing (s : State) : (s.dropStaleHeld).differing = s.differing := rfl
@[simp] theorem State.dropStaleHeld_draws (s : State) : (s.dropStaleHeld).draws = s.draws := rfl
@[simp] theorem State.dropStaleHeld_pending (s : State) : (s.dropStaleHeld).pending = s.pending := rfl

/-! ### setLog -/

@[simp] theorem State.setLog_icu (s : State) (l : List Entry) : (s.setLog l).icu = s.icu := rfl
@[simp] theorem State.setLog_lif (s : State) (l : List Entry) : (s.setLog l).lif = s.lif := rfl
@[simp] theorem State.setLog_ptb (s : State) (l : List Entry) : (s.setLog l).ptb = s.ptb := rfl
@[simp] theorem State.setLog_stc (s : State) (l : List Entry) : (s.setLog l).stc = s.stc := rfl
@[simp] theorem State.setLog_ywc (s : State) (l : List Entry) : (s.setLog l).ywc = s.ywc := rfl
@[simp] theorem State.setLog_clc (s : State) (l : List Entry) : (s.setLog l).clc = s.clc := rfl
@[simp] theorem State.setLog_levels (s : State) (l : List Entry) : (s.setLog l).levels = s.levels := rfl
@[simp] theorem State.setLog_differing (s : State) (l : List Entry) : (s.setLog l).differing = s.differing := rfl
@[simp] theorem State.setLog_draws (s : State) (l : List Entry) : (s.setLog l).draws = s.draws := rfl
@[simp] theorem State.setLog_pending (s : State) (l : List Entry) : (s.setLog l).pending = s.pending := rfl

/-! ### setString -/

@[simp] theorem State.setString_icu (s : State) (st : StringState) : (s.setString st).icu = s.icu := rfl
@[simp] theorem State.setString_lif (s : State) (st : StringState) : (s.setString st).lif = s.lif := rfl
@[simp] theorem State.setString_ptb (s : State) (st : StringState) : (s.setString st).ptb = s.ptb := rfl
@[simp] theorem State.setString_ywc (s : State) (st : StringState) : (s.setString st).ywc = s.ywc := rfl
@[simp] theorem State.setString_clc (s : State) (st : StringState) : (s.setString st).clc = s.clc := rfl
@[simp] theorem State.setString_flu (s : State) (st : StringState) : (s.setString st).flu = s.flu := rfl
@[simp] theorem State.setString_levels (s : State) (st : StringState) : (s.setString st).levels = s.levels := rfl
@[simp] theorem State.setString_differing (s : State) (st : StringState) : (s.setString st).differing = s.differing := rfl
@[simp] theorem State.setString_draws (s : State) (st : StringState) : (s.setString st).draws = s.draws := rfl
@[simp] theorem State.setString_pending (s : State) (st : StringState) : (s.setString st).pending = s.pending := rfl

/-! ### setSetpoint -/

@[simp] theorem State.setSetpoint_icu (s : State) (v : Nat) : (s.setSetpoint v).icu = s.icu := rfl
@[simp] theorem State.setSetpoint_lif (s : State) (v : Nat) : (s.setSetpoint v).lif = s.lif := rfl
@[simp] theorem State.setSetpoint_ptb (s : State) (v : Nat) : (s.setSetpoint v).ptb = s.ptb := rfl
@[simp] theorem State.setSetpoint_ywc (s : State) (v : Nat) : (s.setSetpoint v).ywc = s.ywc := rfl
@[simp] theorem State.setSetpoint_clc (s : State) (v : Nat) : (s.setSetpoint v).clc = s.clc := rfl
@[simp] theorem State.setSetpoint_flu (s : State) (v : Nat) : (s.setSetpoint v).flu = s.flu := rfl
@[simp] theorem State.setSetpoint_levels (s : State) (v : Nat) : (s.setSetpoint v).levels = s.levels := rfl
@[simp] theorem State.setSetpoint_differing (s : State) (v : Nat) : (s.setSetpoint v).differing = s.differing := rfl
@[simp] theorem State.setSetpoint_draws (s : State) (v : Nat) : (s.setSetpoint v).draws = s.draws := rfl
@[simp] theorem State.setSetpoint_pending (s : State) (v : Nat) : (s.setSetpoint v).pending = s.pending := rfl

/-! ### sendLink -/

@[simp] theorem State.sendLink_icu (s : State) : (s.sendLink).icu = s.icu := rfl
@[simp] theorem State.sendLink_lif (s : State) : (s.sendLink).lif = s.lif := rfl
@[simp] theorem State.sendLink_ptb (s : State) : (s.sendLink).ptb = s.ptb := rfl
@[simp] theorem State.sendLink_ywc (s : State) : (s.sendLink).ywc = s.ywc := rfl
@[simp] theorem State.sendLink_clc (s : State) : (s.sendLink).clc = s.clc := rfl
@[simp] theorem State.sendLink_flu (s : State) : (s.sendLink).flu = s.flu := rfl
@[simp] theorem State.sendLink_levels (s : State) : (s.sendLink).levels = s.levels := rfl
@[simp] theorem State.sendLink_differing (s : State) : (s.sendLink).differing = s.differing := rfl
@[simp] theorem State.sendLink_draws (s : State) : (s.sendLink).draws = s.draws := rfl
@[simp] theorem State.sendLink_pending (s : State) : (s.sendLink).pending = s.pending := rfl

/-! ### enterRun -/

@[simp] theorem State.enterRun_icu (s : State) : (s.enterRun).icu = s.icu := rfl
@[simp] theorem State.enterRun_lif (s : State) : (s.enterRun).lif = s.lif := rfl
@[simp] theorem State.enterRun_ptb (s : State) : (s.enterRun).ptb = s.ptb := rfl
@[simp] theorem State.enterRun_ywc (s : State) : (s.enterRun).ywc = s.ywc := rfl
@[simp] theorem State.enterRun_clc (s : State) : (s.enterRun).clc = s.clc := rfl
@[simp] theorem State.enterRun_flu (s : State) : (s.enterRun).flu = s.flu := rfl
@[simp] theorem State.enterRun_levels (s : State) : (s.enterRun).levels = s.levels := rfl
@[simp] theorem State.enterRun_differing (s : State) : (s.enterRun).differing = s.differing := rfl
@[simp] theorem State.enterRun_draws (s : State) : (s.enterRun).draws = s.draws := rfl
@[simp] theorem State.enterRun_pending (s : State) : (s.enterRun).pending = s.pending := rfl

/-! ### countStep -/

@[simp] theorem State.countStep_icu (s : State) (cw : Bool) : (s.countStep cw).icu = s.icu := rfl
@[simp] theorem State.countStep_lif (s : State) (cw : Bool) : (s.countStep cw).lif = s.lif := rfl
@[simp] theorem State.countStep_ptb (s : State) (cw : Bool) : (s.countStep cw).ptb = s.ptb := rfl
@[simp] theorem State.countStep_stc (s : State) (cw : Bool) : (s.countStep cw).stc = s.stc := rfl
@[simp] theorem State.countStep_clc (s : State) (cw : Bool) : (s.countStep cw).clc = s.clc := rfl
@[simp] theorem State.countStep_flu (s : State) (cw : Bool) : (s.countStep cw).flu = s.flu := rfl
@[simp] theorem State.countStep_levels (s : State) (cw : Bool) : (s.countStep cw).levels = s.levels := rfl
@[simp] theorem State.countStep_differing (s : State) (cw : Bool) : (s.countStep cw).differing = s.differing := rfl
@[simp] theorem State.countStep_draws (s : State) (cw : Bool) : (s.countStep cw).draws = s.draws := rfl
@[simp] theorem State.countStep_pending (s : State) (cw : Bool) : (s.countStep cw).pending = s.pending := rfl

/-! ### setDisagree -/

@[simp] theorem State.setDisagree_icu (s : State) (v : Bool) : (s.setDisagree v).icu = s.icu := rfl
@[simp] theorem State.setDisagree_lif (s : State) (v : Bool) : (s.setDisagree v).lif = s.lif := rfl
@[simp] theorem State.setDisagree_ptb (s : State) (v : Bool) : (s.setDisagree v).ptb = s.ptb := rfl
@[simp] theorem State.setDisagree_stc (s : State) (v : Bool) : (s.setDisagree v).stc = s.stc := rfl
@[simp] theorem State.setDisagree_clc (s : State) (v : Bool) : (s.setDisagree v).clc = s.clc := rfl
@[simp] theorem State.setDisagree_flu (s : State) (v : Bool) : (s.setDisagree v).flu = s.flu := rfl
@[simp] theorem State.setDisagree_levels (s : State) (v : Bool) : (s.setDisagree v).levels = s.levels := rfl
@[simp] theorem State.setDisagree_differing (s : State) (v : Bool) : (s.setDisagree v).differing = s.differing := rfl
@[simp] theorem State.setDisagree_draws (s : State) (v : Bool) : (s.setDisagree v).draws = s.draws := rfl
@[simp] theorem State.setDisagree_pending (s : State) (v : Bool) : (s.setDisagree v).pending = s.pending := rfl

/-! ### participate -/

@[simp] theorem State.participate_icu (s : State) (p : Participant) (w : Bool) : (s.participate p w).icu = s.icu := rfl
@[simp] theorem State.participate_lif (s : State) (p : Participant) (w : Bool) : (s.participate p w).lif = s.lif := rfl
@[simp] theorem State.participate_ptb (s : State) (p : Participant) (w : Bool) : (s.participate p w).ptb = s.ptb := rfl
@[simp] theorem State.participate_stc (s : State) (p : Participant) (w : Bool) : (s.participate p w).stc = s.stc := rfl
@[simp] theorem State.participate_clc (s : State) (p : Participant) (w : Bool) : (s.participate p w).clc = s.clc := rfl
@[simp] theorem State.participate_flu (s : State) (p : Participant) (w : Bool) : (s.participate p w).flu = s.flu := rfl
@[simp] theorem State.participate_levels (s : State) (p : Participant) (w : Bool) : (s.participate p w).levels = s.levels := rfl
@[simp] theorem State.participate_differing (s : State) (p : Participant) (w : Bool) : (s.participate p w).differing = s.differing := rfl
@[simp] theorem State.participate_draws (s : State) (p : Participant) (w : Bool) : (s.participate p w).draws = s.draws := rfl
@[simp] theorem State.participate_pending (s : State) (p : Participant) (w : Bool) : (s.participate p w).pending = s.pending := rfl

/-! ### setProposal -/

@[simp] theorem State.setProposal_icu (s : State) (r : Option Proposal) : (s.setProposal r).icu = s.icu := rfl
@[simp] theorem State.setProposal_lif (s : State) (r : Option Proposal) : (s.setProposal r).lif = s.lif := rfl
@[simp] theorem State.setProposal_ptb (s : State) (r : Option Proposal) : (s.setProposal r).ptb = s.ptb := rfl
@[simp] theorem State.setProposal_stc (s : State) (r : Option Proposal) : (s.setProposal r).stc = s.stc := rfl
@[simp] theorem State.setProposal_clc (s : State) (r : Option Proposal) : (s.setProposal r).clc = s.clc := rfl
@[simp] theorem State.setProposal_flu (s : State) (r : Option Proposal) : (s.setProposal r).flu = s.flu := rfl
@[simp] theorem State.setProposal_levels (s : State) (r : Option Proposal) : (s.setProposal r).levels = s.levels := rfl
@[simp] theorem State.setProposal_differing (s : State) (r : Option Proposal) : (s.setProposal r).differing = s.differing := rfl
@[simp] theorem State.setProposal_draws (s : State) (r : Option Proposal) : (s.setProposal r).draws = s.draws := rfl
@[simp] theorem State.setProposal_pending (s : State) (r : Option Proposal) : (s.setProposal r).pending = s.pending := rfl

/-! ### enterIdle -/

@[simp] theorem State.enterIdle_icu (s : State) : (s.enterIdle).icu = s.icu := rfl
@[simp] theorem State.enterIdle_lif (s : State) : (s.enterIdle).lif = s.lif := rfl
@[simp] theorem State.enterIdle_ptb (s : State) : (s.enterIdle).ptb = s.ptb := rfl
@[simp] theorem State.enterIdle_stc (s : State) : (s.enterIdle).stc = s.stc := rfl
@[simp] theorem State.enterIdle_clc (s : State) : (s.enterIdle).clc = s.clc := rfl
@[simp] theorem State.enterIdle_flu (s : State) : (s.enterIdle).flu = s.flu := rfl
@[simp] theorem State.enterIdle_levels (s : State) : (s.enterIdle).levels = s.levels := rfl
@[simp] theorem State.enterIdle_differing (s : State) : (s.enterIdle).differing = s.differing := rfl
@[simp] theorem State.enterIdle_draws (s : State) : (s.enterIdle).draws = s.draws := rfl
@[simp] theorem State.enterIdle_pending (s : State) : (s.enterIdle).pending = s.pending := rfl

/-! ### startHoldoff -/

@[simp] theorem State.startHoldoff_icu (s : State) : (s.startHoldoff).icu = s.icu := rfl
@[simp] theorem State.startHoldoff_lif (s : State) : (s.startHoldoff).lif = s.lif := rfl
@[simp] theorem State.startHoldoff_ptb (s : State) : (s.startHoldoff).ptb = s.ptb := rfl
@[simp] theorem State.startHoldoff_stc (s : State) : (s.startHoldoff).stc = s.stc := rfl
@[simp] theorem State.startHoldoff_clc (s : State) : (s.startHoldoff).clc = s.clc := rfl
@[simp] theorem State.startHoldoff_flu (s : State) : (s.startHoldoff).flu = s.flu := rfl
@[simp] theorem State.startHoldoff_levels (s : State) : (s.startHoldoff).levels = s.levels := rfl
@[simp] theorem State.startHoldoff_differing (s : State) : (s.startHoldoff).differing = s.differing := rfl
@[simp] theorem State.startHoldoff_draws (s : State) : (s.startHoldoff).draws = s.draws := rfl
@[simp] theorem State.startHoldoff_pending (s : State) : (s.startHoldoff).pending = s.pending := rfl

/-! ### clearProposal -/

@[simp] theorem State.clearProposal_icu (s : State) : (s.clearProposal).icu = s.icu := rfl
@[simp] theorem State.clearProposal_lif (s : State) : (s.clearProposal).lif = s.lif := rfl
@[simp] theorem State.clearProposal_ptb (s : State) : (s.clearProposal).ptb = s.ptb := rfl
@[simp] theorem State.clearProposal_stc (s : State) : (s.clearProposal).stc = s.stc := rfl
@[simp] theorem State.clearProposal_clc (s : State) : (s.clearProposal).clc = s.clc := rfl
@[simp] theorem State.clearProposal_flu (s : State) : (s.clearProposal).flu = s.flu := rfl
@[simp] theorem State.clearProposal_levels (s : State) : (s.clearProposal).levels = s.levels := rfl
@[simp] theorem State.clearProposal_differing (s : State) : (s.clearProposal).differing = s.differing := rfl
@[simp] theorem State.clearProposal_draws (s : State) : (s.clearProposal).draws = s.draws := rfl
@[simp] theorem State.clearProposal_pending (s : State) : (s.clearProposal).pending = s.pending := rfl

/-! ### emptyWindow -/

@[simp] theorem State.emptyWindow_icu (s : State) : (s.emptyWindow).icu = s.icu := rfl
@[simp] theorem State.emptyWindow_lif (s : State) : (s.emptyWindow).lif = s.lif := rfl
@[simp] theorem State.emptyWindow_ptb (s : State) : (s.emptyWindow).ptb = s.ptb := rfl
@[simp] theorem State.emptyWindow_stc (s : State) : (s.emptyWindow).stc = s.stc := rfl
@[simp] theorem State.emptyWindow_clc (s : State) : (s.emptyWindow).clc = s.clc := rfl
@[simp] theorem State.emptyWindow_flu (s : State) : (s.emptyWindow).flu = s.flu := rfl
@[simp] theorem State.emptyWindow_levels (s : State) : (s.emptyWindow).levels = s.levels := rfl
@[simp] theorem State.emptyWindow_differing (s : State) : (s.emptyWindow).differing = s.differing := rfl
@[simp] theorem State.emptyWindow_draws (s : State) : (s.emptyWindow).draws = s.draws := rfl
@[simp] theorem State.emptyWindow_pending (s : State) : (s.emptyWindow).pending = s.pending := rfl

/-! ### setOwner -/

@[simp] theorem State.setOwner_icu (s : State) (o : PumpOwner) : (s.setOwner o).icu = s.icu := rfl
@[simp] theorem State.setOwner_lif (s : State) (o : PumpOwner) : (s.setOwner o).lif = s.lif := rfl
@[simp] theorem State.setOwner_ptb (s : State) (o : PumpOwner) : (s.setOwner o).ptb = s.ptb := rfl
@[simp] theorem State.setOwner_stc (s : State) (o : PumpOwner) : (s.setOwner o).stc = s.stc := rfl
@[simp] theorem State.setOwner_ywc (s : State) (o : PumpOwner) : (s.setOwner o).ywc = s.ywc := rfl
@[simp] theorem State.setOwner_flu (s : State) (o : PumpOwner) : (s.setOwner o).flu = s.flu := rfl
@[simp] theorem State.setOwner_levels (s : State) (o : PumpOwner) : (s.setOwner o).levels = s.levels := rfl
@[simp] theorem State.setOwner_differing (s : State) (o : PumpOwner) : (s.setOwner o).differing = s.differing := rfl
@[simp] theorem State.setOwner_draws (s : State) (o : PumpOwner) : (s.setOwner o).draws = s.draws := rfl
@[simp] theorem State.setOwner_pending (s : State) (o : PumpOwner) : (s.setOwner o).pending = s.pending := rfl

/-! ### loadDuty -/

@[simp] theorem State.loadDuty_icu (s : State) : (s.loadDuty).icu = s.icu := rfl
@[simp] theorem State.loadDuty_lif (s : State) : (s.loadDuty).lif = s.lif := rfl
@[simp] theorem State.loadDuty_ptb (s : State) : (s.loadDuty).ptb = s.ptb := rfl
@[simp] theorem State.loadDuty_stc (s : State) : (s.loadDuty).stc = s.stc := rfl
@[simp] theorem State.loadDuty_ywc (s : State) : (s.loadDuty).ywc = s.ywc := rfl
@[simp] theorem State.loadDuty_flu (s : State) : (s.loadDuty).flu = s.flu := rfl
@[simp] theorem State.loadDuty_levels (s : State) : (s.loadDuty).levels = s.levels := rfl
@[simp] theorem State.loadDuty_differing (s : State) : (s.loadDuty).differing = s.differing := rfl
@[simp] theorem State.loadDuty_draws (s : State) : (s.loadDuty).draws = s.draws := rfl
@[simp] theorem State.loadDuty_pending (s : State) : (s.loadDuty).pending = s.pending := rfl

/-! ### clcLatch -/

@[simp] theorem State.clcLatch_icu (s : State) (on : Bool) : (s.clcLatch on).icu = s.icu := rfl
@[simp] theorem State.clcLatch_lif (s : State) (on : Bool) : (s.clcLatch on).lif = s.lif := rfl
@[simp] theorem State.clcLatch_ptb (s : State) (on : Bool) : (s.clcLatch on).ptb = s.ptb := rfl
@[simp] theorem State.clcLatch_stc (s : State) (on : Bool) : (s.clcLatch on).stc = s.stc := rfl
@[simp] theorem State.clcLatch_ywc (s : State) (on : Bool) : (s.clcLatch on).ywc = s.ywc := rfl
@[simp] theorem State.clcLatch_flu (s : State) (on : Bool) : (s.clcLatch on).flu = s.flu := rfl
@[simp] theorem State.clcLatch_levels (s : State) (on : Bool) : (s.clcLatch on).levels = s.levels := rfl
@[simp] theorem State.clcLatch_differing (s : State) (on : Bool) : (s.clcLatch on).differing = s.differing := rfl
@[simp] theorem State.clcLatch_draws (s : State) (on : Bool) : (s.clcLatch on).draws = s.draws := rfl
@[simp] theorem State.clcLatch_pending (s : State) (on : Bool) : (s.clcLatch on).pending = s.pending := rfl

/-! ### readSupply -/

@[simp] theorem State.readSupply_icu (s : State) (w : BitVec 12) : (s.readSupply w).icu = s.icu := rfl
@[simp] theorem State.readSupply_lif (s : State) (w : BitVec 12) : (s.readSupply w).lif = s.lif := rfl
@[simp] theorem State.readSupply_ptb (s : State) (w : BitVec 12) : (s.readSupply w).ptb = s.ptb := rfl
@[simp] theorem State.readSupply_stc (s : State) (w : BitVec 12) : (s.readSupply w).stc = s.stc := rfl
@[simp] theorem State.readSupply_ywc (s : State) (w : BitVec 12) : (s.readSupply w).ywc = s.ywc := rfl
@[simp] theorem State.readSupply_flu (s : State) (w : BitVec 12) : (s.readSupply w).flu = s.flu := rfl
@[simp] theorem State.readSupply_levels (s : State) (w : BitVec 12) : (s.readSupply w).levels = s.levels := rfl
@[simp] theorem State.readSupply_differing (s : State) (w : BitVec 12) : (s.readSupply w).differing = s.differing := rfl
@[simp] theorem State.readSupply_draws (s : State) (w : BitVec 12) : (s.readSupply w).draws = s.draws := rfl
@[simp] theorem State.readSupply_pending (s : State) (w : BitVec 12) : (s.readSupply w).pending = s.pending := rfl

/-! ### formHeat -/

@[simp] theorem State.formHeat_icu (s : State) : (s.formHeat).icu = s.icu := rfl
@[simp] theorem State.formHeat_lif (s : State) : (s.formHeat).lif = s.lif := rfl
@[simp] theorem State.formHeat_ptb (s : State) : (s.formHeat).ptb = s.ptb := rfl
@[simp] theorem State.formHeat_stc (s : State) : (s.formHeat).stc = s.stc := rfl
@[simp] theorem State.formHeat_ywc (s : State) : (s.formHeat).ywc = s.ywc := rfl
@[simp] theorem State.formHeat_flu (s : State) : (s.formHeat).flu = s.flu := rfl
@[simp] theorem State.formHeat_levels (s : State) : (s.formHeat).levels = s.levels := rfl
@[simp] theorem State.formHeat_differing (s : State) : (s.formHeat).differing = s.differing := rfl
@[simp] theorem State.formHeat_draws (s : State) : (s.formHeat).draws = s.draws := rfl
@[simp] theorem State.formHeat_pending (s : State) : (s.formHeat).pending = s.pending := rfl

/-! ### setMismatch -/

@[simp] theorem State.setMismatch_icu (s : State) (v : Bool) : (s.setMismatch v).icu = s.icu := rfl
@[simp] theorem State.setMismatch_lif (s : State) (v : Bool) : (s.setMismatch v).lif = s.lif := rfl
@[simp] theorem State.setMismatch_stc (s : State) (v : Bool) : (s.setMismatch v).stc = s.stc := rfl
@[simp] theorem State.setMismatch_ywc (s : State) (v : Bool) : (s.setMismatch v).ywc = s.ywc := rfl
@[simp] theorem State.setMismatch_clc (s : State) (v : Bool) : (s.setMismatch v).clc = s.clc := rfl
@[simp] theorem State.setMismatch_flu (s : State) (v : Bool) : (s.setMismatch v).flu = s.flu := rfl
@[simp] theorem State.setMismatch_levels (s : State) (v : Bool) : (s.setMismatch v).levels = s.levels := rfl
@[simp] theorem State.setMismatch_differing (s : State) (v : Bool) : (s.setMismatch v).differing = s.differing := rfl
@[simp] theorem State.setMismatch_draws (s : State) (v : Bool) : (s.setMismatch v).draws = s.draws := rfl
@[simp] theorem State.setMismatch_pending (s : State) (v : Bool) : (s.setMismatch v).pending = s.pending := rfl

/-! ### takeTripNotice -/

@[simp] theorem State.takeTripNotice_icu (s : State) (n : Station) : (s.takeTripNotice n).icu = s.icu := rfl
@[simp] theorem State.takeTripNotice_lif (s : State) (n : Station) : (s.takeTripNotice n).lif = s.lif := rfl
@[simp] theorem State.takeTripNotice_stc (s : State) (n : Station) : (s.takeTripNotice n).stc = s.stc := rfl
@[simp] theorem State.takeTripNotice_ywc (s : State) (n : Station) : (s.takeTripNotice n).ywc = s.ywc := rfl
@[simp] theorem State.takeTripNotice_clc (s : State) (n : Station) : (s.takeTripNotice n).clc = s.clc := rfl
@[simp] theorem State.takeTripNotice_flu (s : State) (n : Station) : (s.takeTripNotice n).flu = s.flu := rfl
@[simp] theorem State.takeTripNotice_levels (s : State) (n : Station) : (s.takeTripNotice n).levels = s.levels := rfl
@[simp] theorem State.takeTripNotice_differing (s : State) (n : Station) : (s.takeTripNotice n).differing = s.differing := rfl
@[simp] theorem State.takeTripNotice_draws (s : State) (n : Station) : (s.takeTripNotice n).draws = s.draws := rfl
@[simp] theorem State.takeTripNotice_pending (s : State) (n : Station) : (s.takeTripNotice n).pending = s.pending := rfl

/-! ### lifConfigured -/

@[simp] theorem State.lifConfigured_icu (s : State) : (s.lifConfigured).icu = s.icu := rfl
@[simp] theorem State.lifConfigured_ptb (s : State) : (s.lifConfigured).ptb = s.ptb := rfl
@[simp] theorem State.lifConfigured_stc (s : State) : (s.lifConfigured).stc = s.stc := rfl
@[simp] theorem State.lifConfigured_ywc (s : State) : (s.lifConfigured).ywc = s.ywc := rfl
@[simp] theorem State.lifConfigured_clc (s : State) : (s.lifConfigured).clc = s.clc := rfl
@[simp] theorem State.lifConfigured_flu (s : State) : (s.lifConfigured).flu = s.flu := rfl
@[simp] theorem State.lifConfigured_levels (s : State) : (s.lifConfigured).levels = s.levels := rfl
@[simp] theorem State.lifConfigured_differing (s : State) : (s.lifConfigured).differing = s.differing := rfl
@[simp] theorem State.lifConfigured_draws (s : State) : (s.lifConfigured).draws = s.draws := rfl
@[simp] theorem State.lifConfigured_pending (s : State) : (s.lifConfigured).pending = s.pending := rfl

/-! ### setAssembly -/

@[simp] theorem State.setAssembly_lif (s : State) (a : Assembly) : (s.setAssembly a).lif = s.lif := rfl
@[simp] theorem State.setAssembly_ptb (s : State) (a : Assembly) : (s.setAssembly a).ptb = s.ptb := rfl
@[simp] theorem State.setAssembly_stc (s : State) (a : Assembly) : (s.setAssembly a).stc = s.stc := rfl
@[simp] theorem State.setAssembly_ywc (s : State) (a : Assembly) : (s.setAssembly a).ywc = s.ywc := rfl
@[simp] theorem State.setAssembly_clc (s : State) (a : Assembly) : (s.setAssembly a).clc = s.clc := rfl
@[simp] theorem State.setAssembly_flu (s : State) (a : Assembly) : (s.setAssembly a).flu = s.flu := rfl
@[simp] theorem State.setAssembly_levels (s : State) (a : Assembly) : (s.setAssembly a).levels = s.levels := rfl
@[simp] theorem State.setAssembly_differing (s : State) (a : Assembly) : (s.setAssembly a).differing = s.differing := rfl
@[simp] theorem State.setAssembly_draws (s : State) (a : Assembly) : (s.setAssembly a).draws = s.draws := rfl
@[simp] theorem State.setAssembly_pending (s : State) (a : Assembly) : (s.setAssembly a).pending = s.pending := rfl

/-! ### placeStatus -/

@[simp] theorem State.placeStatus_icu (s : State) (p : List Byte) : (s.placeStatus p).icu = s.icu := rfl
@[simp] theorem State.placeStatus_ptb (s : State) (p : List Byte) : (s.placeStatus p).ptb = s.ptb := rfl
@[simp] theorem State.placeStatus_stc (s : State) (p : List Byte) : (s.placeStatus p).stc = s.stc := rfl
@[simp] theorem State.placeStatus_ywc (s : State) (p : List Byte) : (s.placeStatus p).ywc = s.ywc := rfl
@[simp] theorem State.placeStatus_clc (s : State) (p : List Byte) : (s.placeStatus p).clc = s.clc := rfl
@[simp] theorem State.placeStatus_flu (s : State) (p : List Byte) : (s.placeStatus p).flu = s.flu := rfl
@[simp] theorem State.placeStatus_levels (s : State) (p : List Byte) : (s.placeStatus p).levels = s.levels := rfl
@[simp] theorem State.placeStatus_differing (s : State) (p : List Byte) : (s.placeStatus p).differing = s.differing := rfl
@[simp] theorem State.placeStatus_draws (s : State) (p : List Byte) : (s.placeStatus p).draws = s.draws := rfl
@[simp] theorem State.placeStatus_pending (s : State) (p : List Byte) : (s.placeStatus p).pending = s.pending := rfl

/-! ### replaceStatus -/

@[simp] theorem State.replaceStatus_icu (s : State) (p : List Byte) : (s.replaceStatus p).icu = s.icu := rfl
@[simp] theorem State.replaceStatus_ptb (s : State) (p : List Byte) : (s.replaceStatus p).ptb = s.ptb := rfl
@[simp] theorem State.replaceStatus_stc (s : State) (p : List Byte) : (s.replaceStatus p).stc = s.stc := rfl
@[simp] theorem State.replaceStatus_ywc (s : State) (p : List Byte) : (s.replaceStatus p).ywc = s.ywc := rfl
@[simp] theorem State.replaceStatus_clc (s : State) (p : List Byte) : (s.replaceStatus p).clc = s.clc := rfl
@[simp] theorem State.replaceStatus_flu (s : State) (p : List Byte) : (s.replaceStatus p).flu = s.flu := rfl
@[simp] theorem State.replaceStatus_levels (s : State) (p : List Byte) : (s.replaceStatus p).levels = s.levels := rfl
@[simp] theorem State.replaceStatus_differing (s : State) (p : List Byte) : (s.replaceStatus p).differing = s.differing := rfl
@[simp] theorem State.replaceStatus_draws (s : State) (p : List Byte) : (s.replaceStatus p).draws = s.draws := rfl
@[simp] theorem State.replaceStatus_pending (s : State) (p : List Byte) : (s.replaceStatus p).pending = s.pending := rfl

/-! ### Effects of the single updates -/

@[simp] theorem State.raise_inbox (s : State) (code : Code) (v : Int) (o : Option Origin) :
    (s.raise code v o).flu.inbox = s.flu.inbox ++ [.raised code v o] := rfl
@[simp] theorem State.clear_inbox (s : State) (code : Code) :
    (s.clear code).flu.inbox = s.flu.inbox ++ [.cleared code] := rfl
@[simp] theorem State.drew_draws (s : State) : s.drew.draws = s.draws + 1 := rfl
@[simp] theorem State.setPeer_entries (s : State) (n : Station) (e : PeerEntry) :
    (s.setPeer n e).ptb.entries = s.ptb.entries.set n e := rfl
@[simp] theorem State.setString_state (s : State) (st : StringState) : (s.setString st).stc.state = st := rfl
@[simp] theorem State.setString_precharge (s : State) (st : StringState) :
    (s.setString st).stc.prechargeCommand = (st == .precharge) := rfl
@[simp] theorem State.setString_main (s : State) (st : StringState) :
    (s.setString st).stc.mainCommand = st.isClosed := rfl
@[simp] theorem State.setString_enable (s : State) (st : StringState) : (s.setString st).stc.enable = st.isClosed := rfl
@[simp] theorem State.setString_setpoint (s : State) (st : StringState) :
    (s.setString st).stc.setpoint = s.stc.setpoint := rfl
@[simp] theorem State.setString_limit (s : State) (st : StringState) : (s.setString st).stc.limit = s.stc.limit := rfl
@[simp] theorem State.setSetpoint_setpoint (s : State) (v : Nat) : (s.setSetpoint v).stc.setpoint = v := rfl
@[simp] theorem State.setSetpoint_state (s : State) (v : Nat) : (s.setSetpoint v).stc.state = s.stc.state := rfl
@[simp] theorem State.setSetpoint_precharge (s : State) (v : Nat) :
    (s.setSetpoint v).stc.prechargeCommand = s.stc.prechargeCommand := rfl
@[simp] theorem State.setSetpoint_main (s : State) (v : Nat) : (s.setSetpoint v).stc.mainCommand = s.stc.mainCommand := rfl
@[simp] theorem State.setSetpoint_enable (s : State) (v : Nat) : (s.setSetpoint v).stc.enable = s.stc.enable := rfl
@[simp] theorem State.setSetpoint_limit (s : State) (v : Nat) : (s.setSetpoint v).stc.limit = s.stc.limit := rfl
@[simp] theorem State.sendLink_state (s : State) : s.sendLink.stc.state = s.stc.state := rfl
@[simp] theorem State.sendLink_precharge (s : State) : s.sendLink.stc.prechargeCommand = s.stc.prechargeCommand := rfl
@[simp] theorem State.sendLink_main (s : State) : s.sendLink.stc.mainCommand = s.stc.mainCommand := rfl
@[simp] theorem State.sendLink_enable (s : State) : s.sendLink.stc.enable = s.stc.enable := rfl
@[simp] theorem State.sendLink_setpoint (s : State) : s.sendLink.stc.setpoint = s.stc.setpoint := rfl
@[simp] theorem State.sendLink_limit (s : State) : s.sendLink.stc.limit = s.stc.limit := rfl
@[simp] theorem State.participate_participant (s : State) (p : Participant) (w : Bool) :
    (s.participate p w).ywc.participant = p := rfl
@[simp] theorem State.participate_brakeRelease (s : State) (p : Participant) (w : Bool) :
    (s.participate p w).ywc.brakeRelease = p.holdsRelease := rfl
@[simp] theorem State.participate_proposal (s : State) (p : Participant) (w : Bool) :
    (s.participate p w).ywc.proposal = s.ywc.proposal := rfl
@[simp] theorem State.enterIdle_participant (s : State) : s.enterIdle.ywc.participant = .idle := rfl
@[simp] theorem State.enterIdle_move (s : State) : s.enterIdle.ywc.move = none := rfl
@[simp] theorem State.clearProposal_proposal (s : State) : s.clearProposal.ywc.proposal = none := rfl
@[simp] theorem State.setProposal_proposal (s : State) (r : Option Proposal) : (s.setProposal r).ywc.proposal = r := rfl
@[simp] theorem State.emptyWindow_window (s : State) : s.emptyWindow.ywc.window = [] := rfl
@[simp] theorem State.startHoldoff_timer (s : State) :
    s.startHoldoff.ywc.holdoffTimer = some (s.prm.holdoff * 1000) := rfl
@[simp] theorem State.setOwner_owner (s : State) (o : PumpOwner) : (s.setOwner o).clc.owner = o := rfl
@[simp] theorem State.setOwner_output (s : State) (o : PumpOwner) : (s.setOwner o).clc.pumpOutput = o.runsPump := rfl
@[simp] theorem State.loadDuty_duty (s : State) : s.loadDuty.clc.duty = 60 * s.prm.dutyHours := rfl
@[simp] theorem State.setLog_log (s : State) (l : List Entry) : (s.setLog l).flu.log = l := rfl

end Sys2Proof.Machine
end

