-- ==== Sys2Proof/Laws/CoolantFrame.lean ====
section
/-! SUPPORT. The frame of the CLC: which shared operations leave everything of the CLC but its held PUMP_STATE as it stands. -/

namespace Sys2Proof.Machine

/-- The CLC without its held request, which the LIF's offers move. -/
def State.coolant (s : State) : Clc := { s.clc with heldPump := none }

@[simp] theorem State.coolant_update (s : State) (i : Icu) (l : Lif) (p : Ptb) (c : Stc) (y : Ywc) (f : Flu) (v : Levels)
    (d : Differing) (n : Nat) (q : List Instr) : State.coolant ⟨i, l, p, c, y, s.clc, f, v, d, n, q⟩ = s.coolant := rfl

@[simp] theorem State.coolant_held (s : State) (i : Icu) (l : Lif) (p : Ptb) (c : Stc) (y : Ywc) (h : Option (List Byte))
    (f : Flu) (v : Levels) (d : Differing) (n : Nat) (q : List Instr) :
    State.coolant ⟨i, l, p, c, y, { s.clc with heldPump := h }, f, v, d, n, q⟩ = s.coolant := rfl

@[simp] theorem State.coolant_ite (c : Prop) [Decidable c] (s t : State) :
    (if c then s else t).coolant = if c then s.coolant else t.coolant := apply_ite State.coolant c s t

@[simp] theorem State.raise_coolant (s : State) (code : Code) (v : Int) (o : Option Origin) : (s.raise code v o).coolant = s.coolant := rfl
@[simp] theorem State.clear_coolant (s : State) (code : Code) : (s.clear code).coolant = s.coolant := rfl
@[simp] theorem State.drew_coolant (s : State) : (s.drew).coolant = s.coolant := rfl
@[simp] theorem State.setPeer_coolant (s : State) (n : Station) (e : PeerEntry) : (s.setPeer n e).coolant = s.coolant := rfl
@[simp] theorem State.enqueue_coolant (s : State) (k : Kind) (p : List Byte) : (s.enqueue k p).coolant = s.coolant := rfl
@[simp] theorem State.noteHolders_coolant (s : State) : (s.noteHolders).coolant = s.coolant := rfl
@[simp] theorem State.testPressure_coolant (s : State) : (s.testPressure).coolant = s.coolant := rfl
@[simp] theorem State.stopRepeat_coolant (s : State) (c : FaultClass) : (s.stopRepeat c).coolant = s.coolant := rfl
@[simp] theorem State.dropHeldNotice_coolant (s : State) (n : Nat) : (s.dropHeldNotice n).coolant = s.coolant := rfl
@[simp] theorem State.dropStaleHeld_coolant (s : State) : (s.dropStaleHeld).coolant = s.coolant := rfl
@[simp] theorem State.setLog_coolant (s : State) (l : List Entry) : (s.setLog l).coolant = s.coolant := rfl
@[simp] theorem State.setString_coolant (s : State) (st : StringState) : (s.setString st).coolant = s.coolant := rfl
@[simp] theorem State.setSetpoint_coolant (s : State) (v : Nat) : (s.setSetpoint v).coolant = s.coolant := rfl
@[simp] theorem State.sendLink_coolant (s : State) : (s.sendLink).coolant = s.coolant := rfl
@[simp] theorem State.enterRun_coolant (s : State) : (s.enterRun).coolant = s.coolant := rfl
@[simp] theorem State.countStep_coolant (s : State) (cw : Bool) : (s.countStep cw).coolant = s.coolant := rfl
@[simp] theorem State.setDisagree_coolant (s : State) (v : Bool) : (s.setDisagree v).coolant = s.coolant := rfl
@[simp] theorem State.participate_coolant (s : State) (p : Participant) (w : Bool) : (s.participate p w).coolant = s.coolant := rfl
@[simp] theorem State.setProposal_coolant (s : State) (r : Option Proposal) : (s.setProposal r).coolant = s.coolant := rfl
@[simp] theorem State.enterIdle_coolant (s : State) : (s.enterIdle).coolant = s.coolant := rfl
@[simp] theorem State.startHoldoff_coolant (s : State) : (s.startHoldoff).coolant = s.coolant := rfl
@[simp] theorem State.clearProposal_coolant (s : State) : (s.clearProposal).coolant = s.coolant := rfl
@[simp] theorem State.emptyWindow_coolant (s : State) : (s.emptyWindow).coolant = s.coolant := rfl
@[simp] theorem State.setMismatch_coolant (s : State) (v : Bool) : (s.setMismatch v).coolant = s.coolant := rfl
@[simp] theorem State.takeTripNotice_coolant (s : State) (n : Station) : (s.takeTripNotice n).coolant = s.coolant := rfl
@[simp] theorem State.lifConfigured_coolant (s : State) : (s.lifConfigured).coolant = s.coolant := rfl
@[simp] theorem State.setAssembly_coolant (s : State) (a : Assembly) : (s.setAssembly a).coolant = s.coolant := rfl
@[simp] theorem State.placeStatus_coolant (s : State) (p : List Byte) : (s.placeStatus p).coolant = s.coolant := rfl
@[simp] theorem State.replaceStatus_coolant (s : State) (p : List Byte) : (s.replaceStatus p).coolant = s.coolant := rfl

@[simp] theorem State.request_coolant (s : State) (k : Kind) (p : List Byte) : (s.request k p).1.coolant = s.coolant := by
  unfold State.request
  try dsimp only
  repeat' split
  all_goals simp
@[simp] theorem State.requestNotice_coolant (s : State) (e : Entry) : (s.requestNotice e).coolant = s.coolant := by
  unfold State.requestNotice
  try dsimp only
  repeat' split
  all_goals simp
@[simp] theorem State.announce_coolant (s : State) (e : Entry) : (s.announce e).coolant = s.coolant := by
  unfold State.announce
  try dsimp only
  all_goals simp
@[simp] theorem State.select_coolant (s : State) : (s.select).coolant = s.coolant := by
  unfold State.select
  try dsimp only
  repeat' split
  all_goals simp
@[simp] theorem State.noticeCompleted_coolant (s : State) (n : Nat) : (s.noticeCompleted n).coolant = s.coolant := by
  unfold State.noticeCompleted
  try dsimp only
  repeat' split
  all_goals simp
@[simp] theorem State.noticeDiscarded_coolant (s : State) (n : Nat) : (s.noticeDiscarded n).coolant = s.coolant := by
  unfold State.noticeDiscarded
  try dsimp only
  repeat' split
  all_goals simp
@[simp] theorem State.supervisorIndication_coolant (s : State) (b : Bool) : (s.supervisorIndication b).coolant = s.coolant := by
  unfold State.supervisorIndication Flu.outOfService
  try dsimp only
  repeat' split
  all_goals simp
@[simp] theorem State.freeClasses_coolant (s : State) (l : List Entry) : (s.freeClasses l).coolant = s.coolant := by
  induction l generalizing s with
  | nil => rfl
  | cons h r ih =>
    unfold State.freeClasses
    try dsimp only
    all_goals simp [ih]
@[simp] theorem State.acknowledge_coolant (s : State) (o : AckOrder) : (s.acknowledge o).coolant = s.coolant := by
  unfold State.acknowledge
  try dsimp only
  repeat' split
  all_goals simp
@[simp] theorem State.discardNotice_coolant (s : State) (f : QueuedFrame) : (s.discardNotice f).coolant = s.coolant := by
  unfold State.discardNotice
  try dsimp only
  repeat' split
  all_goals simp
@[simp] theorem State.completionNotice_coolant (s : State) (f : QueuedFrame) : (s.completionNotice f).coolant = s.coolant := by
  unfold State.completionNotice
  try dsimp only
  repeat' split
  all_goals simp
@[simp] theorem State.offerTrip_coolant (s : State) : (s.offerTrip).coolant = s.coolant := by
  unfold State.offerTrip
  try dsimp only
  repeat' split
  all_goals simp
@[simp] theorem State.offerYaw_coolant (s : State) (k : Kind) (l : List HeldYaw) : (s.offerYaw k l).coolant = s.coolant := by
  induction l generalizing s with
  | nil => rfl
  | cons h r ih =>
    unfold State.offerYaw
    try dsimp only
    repeat' split
    all_goals simp [ih]
@[simp] theorem State.offerPump_coolant (s : State) : (s.offerPump).coolant = s.coolant := by
  unfold State.offerPump
  try dsimp only
  repeat' split
  all_goals simp
@[simp] theorem State.offerStatus_coolant (s : State) : (s.offerStatus).coolant = s.coolant := by
  unfold State.offerStatus
  try dsimp only
  repeat' split
  all_goals simp
@[simp] theorem State.offerNotices_coolant (s : State) (l : List HeldNotice) : (s.offerNotices l).coolant = s.coolant := by
  induction l generalizing s with
  | nil => rfl
  | cons h r ih =>
    unfold State.offerNotices
    try dsimp only
    repeat' split
    all_goals simp [ih]
@[simp] theorem State.placeFree_coolant (s : State) : (s.placeFree).coolant = s.coolant := by
  unfold State.placeFree
  try dsimp only
  all_goals simp
@[simp] theorem State.requestUrgent_coolant (s : State) (k : Kind) (p : List Byte) : (s.requestUrgent k p).1.coolant = s.coolant := by
  unfold State.requestUrgent
  try dsimp only
  repeat' split
  all_goals simp
@[simp] theorem State.drive_coolant (s : State) (st : StringState) (v : Nat) : (s.drive st v).coolant = s.coolant := by
  unfold State.drive
  try dsimp only
  repeat' split
  all_goals simp
@[simp] theorem State.requestTrip_coolant (s : State) (c : TripCause) : (s.requestTrip c).coolant = s.coolant := by
  unfold State.requestTrip
  try dsimp only
  repeat' split
  all_goals simp
@[simp] theorem State.raiseCause_coolant (s : State) (c : Option (Code × Int)) : (s.raiseCause c).coolant = s.coolant := by
  unfold State.raiseCause
  try dsimp only
  repeat' split
  all_goals simp
@[simp] theorem State.trip_coolant (s : State) (c : TripCause) (r : Option (Code × Int)) : (s.trip c r).coolant = s.coolant := by
  unfold State.trip
  try dsimp only
  repeat' split
  all_goals simp
@[simp] theorem State.enterSync_coolant (s : State) : (s.enterSync).coolant = s.coolant := by
  unfold State.enterSync
  try dsimp only
  repeat' split
  all_goals simp
@[simp] theorem State.modulatorTrip_coolant (s : State) : (s.modulatorTrip).coolant = s.coolant := by
  unfold State.modulatorTrip
  try dsimp only
  all_goals simp
@[simp] theorem State.enterPrecharge_coolant (s : State) : (s.enterPrecharge).coolant = s.coolant := by
  unfold State.enterPrecharge
  try dsimp only
  repeat' split
  all_goals simp
@[simp] theorem State.startTest_coolant (s : State) : (s.startTest).coolant = s.coolant := by
  unfold State.startTest
  try dsimp only
  repeat' split
  all_goals simp
@[simp] theorem State.enterOff_coolant (s : State) : (s.enterOff).coolant = s.coolant := by
  unfold State.enterOff
  try dsimp only
  all_goals simp
@[simp] theorem State.cutSetpoint_coolant (s : State) : (s.cutSetpoint).coolant = s.coolant := by
  unfold State.cutSetpoint
  try dsimp only
  repeat' split
  all_goals simp
@[simp] theorem State.respondToLimit_coolant (s : State) : (s.respondToLimit).coolant = s.coolant := by
  unfold State.respondToLimit
  try dsimp only
  repeat' split
  all_goals simp
@[simp] theorem State.formLimit_coolant (s : State) : (s.formLimit).coolant = s.coolant := by
  unfold State.formLimit
  try dsimp only
  repeat' split
  all_goals simp
@[simp] theorem State.stcDerate_coolant (s : State) (e : Nat) : (s.stcDerate e).coolant = s.coolant := by
  unfold State.stcDerate
  try dsimp only
  all_goals simp
@[simp] theorem State.stcFlow_coolant (s : State) (f : FlowState) : (s.stcFlow f).coolant = s.coolant := by
  unfold State.stcFlow
  try dsimp only
  all_goals simp
@[simp] theorem State.tempTest_coolant (s : State) (v : Option Int) : (s.tempTest v).coolant = s.coolant := by
  unfold State.tempTest
  try dsimp only
  repeat' split
  all_goals simp
@[simp] theorem State.stcTheta_coolant (s : State) (v : Option Int) : (s.stcTheta v).coolant = s.coolant := by
  unfold State.stcTheta
  try dsimp only
  all_goals simp
@[simp] theorem State.stcPermit_coolant (s : State) (b : Bool) : (s.stcPermit b).coolant = s.coolant := by
  unfold State.stcPermit
  try dsimp only
  repeat' split
  all_goals simp
@[simp] theorem State.stcTripRequest_coolant (s : State) : (s.stcTripRequest).coolant = s.coolant := by
  unfold State.stcTripRequest
  try dsimp only
  all_goals simp
@[simp] theorem State.stcLatchOn_coolant (s : State) : (s.stcLatchOn).coolant = s.coolant := by
  unfold State.stcLatchOn
  try dsimp only
  repeat' split
  all_goals simp
@[simp] theorem State.stcLatch_coolant (s : State) (b : Bool) : (s.stcLatch b).coolant = s.coolant := by
  unfold State.stcLatch
  try dsimp only
  repeat' split
  all_goals simp
@[simp] theorem State.shareInRun_coolant (s : State) : (s.shareInRun).coolant = s.coolant := by
  unfold State.shareInRun
  try dsimp only
  repeat' split
  all_goals simp
@[simp] theorem State.shareInStopping_coolant (s : State) : (s.shareInStopping).coolant = s.coolant := by
  unfold State.shareInStopping
  try dsimp only
  repeat' split
  all_goals simp
@[simp] theorem State.shareRound_coolant (s : State) : (s.shareRound).coolant = s.coolant := by
  unfold State.shareRound
  try dsimp only
  repeat' split
  all_goals simp
@[simp] theorem State.markSeen_coolant (s : State) : (s.markSeen).coolant = s.coolant := by
  unfold State.markSeen
  try dsimp only
  repeat' split
  all_goals simp
@[simp] theorem State.positionVote_coolant (s : State) : (s.positionVote).coolant = s.coolant := by
  unfold State.positionVote
  try dsimp only
  repeat' split
  all_goals simp
@[simp] theorem State.enterBraking_coolant (s : State) : (s.enterBraking).coolant = s.coolant := by
  unfold State.enterBraking
  try dsimp only
  repeat' split
  all_goals simp
@[simp] theorem State.pathClockwise_coolant (s : State) (p : Int) : (s.pathClockwise p).2.coolant = s.coolant := by
  unfold State.pathClockwise
  try dsimp only
  repeat' split
  all_goals simp
@[simp] theorem State.requestYaw_coolant (s : State) (k : Kind) (r : Ref) (p : List Byte) : (s.requestYaw k r p).coolant = s.coolant := by
  unfold State.requestYaw
  try dsimp only
  repeat' split
  all_goals simp
@[simp] theorem State.requestAnswer_coolant (s : State) (r : Ref) (a : Answer) (e : Refusing) : (s.requestAnswer r a e).coolant = s.coolant := by
  unfold State.requestAnswer
  try dsimp only
  all_goals simp
@[simp] theorem State.haltParticipant_coolant (s : State) : (s.haltParticipant).coolant = s.coolant := by
  unfold State.haltParticipant
  try dsimp only
  repeat' split
  all_goals simp
@[simp] theorem State.takeHalt_coolant (s : State) (r : Ref) : (s.takeHalt r).coolant = s.coolant := by
  unfold State.takeHalt
  try dsimp only
  repeat' split
  all_goals simp
@[simp] theorem State.ownHalt_coolant (s : State) (r : Ref) (e : HaltReason) : (s.ownHalt r e).coolant = s.coolant := by
  unfold State.ownHalt
  try dsimp only
  all_goals simp
@[simp] theorem State.haltMove_coolant (s : State) (e : HaltReason) : (s.haltMove e).coolant = s.coolant := by
  unfold State.haltMove
  try dsimp only
  repeat' split
  all_goals simp
@[simp] theorem State.haltProposal_coolant (s : State) (e : HaltReason) : (s.haltProposal e).coolant = s.coolant := by
  unfold State.haltProposal
  try dsimp only
  repeat' split
  all_goals simp
@[simp] theorem State.takeDrive_coolant (s : State) : (s.takeDrive).coolant = s.coolant := by
  unfold State.takeDrive
  try dsimp only
  repeat' split
  all_goals simp
@[simp] theorem State.startMotion_coolant (s : State) (r : Proposal) : (s.startMotion r).coolant = s.coolant := by
  unfold State.startMotion
  try dsimp only
  repeat' split
  all_goals simp
@[simp] theorem State.joinReleased_coolant (s : State) (n : Station) : (s.joinReleased n).coolant = s.coolant := by
  unfold State.joinReleased
  try dsimp only
  repeat' split
  all_goals simp
@[simp] theorem State.brakesReleased_coolant (s : State) : (s.brakesReleased).coolant = s.coolant := by
  unfold State.brakesReleased
  try dsimp only
  repeat' split
  all_goals simp
@[simp] theorem State.enterReleasing_coolant (s : State) : (s.enterReleasing).coolant = s.coolant := by
  unfold State.enterReleasing
  try dsimp only
  repeat' split
  all_goals simp
@[simp] theorem State.takeDecision_coolant (s : State) (r : Proposal) : (s.takeDecision r).coolant = s.coolant := by
  unfold State.takeDecision
  try dsimp only
  repeat' split
  all_goals simp
@[simp] theorem State.enterAnswer_coolant (s : State) (r : Proposal) (n : Station) (a : Reply) : (s.enterAnswer r n a).coolant = s.coolant := by
  unfold State.enterAnswer
  try dsimp only
  repeat' split
  all_goals simp
@[simp] theorem State.propose_coolant (s : State) (p : Plan) : (s.propose p).coolant = s.coolant := by
  unfold State.propose
  try dsimp only
  repeat' split
  all_goals simp
@[simp] theorem State.answerIdle_coolant (s : State) (r : Ref) (p : Int) : (s.answerIdle r p).coolant = s.coolant := by
  unfold State.answerIdle
  try dsimp only
  repeat' split
  all_goals simp
@[simp] theorem State.answerWithout_coolant (s : State) (r : Ref) (p : Int) : (s.answerWithout r p).coolant = s.coolant := by
  unfold State.answerWithout
  try dsimp only
  repeat' split
  all_goals simp
@[simp] theorem State.withdrawAndAnswer_coolant (s : State) (r : Ref) (p : Int) : (s.withdrawAndAnswer r p).coolant = s.coolant := by
  unfold State.withdrawAndAnswer
  try dsimp only
  repeat' split
  all_goals simp
@[simp] theorem State.answerProposal_coolant (s : State) (r : Ref) (p : Int) : (s.answerProposal r p).coolant = s.coolant := by
  unfold State.answerProposal
  try dsimp only
  repeat' split
  all_goals simp
@[simp] theorem State.countRecord_coolant (s : State) (cw : Bool) : (s.countRecord cw).coolant = s.coolant := by
  unfold State.countRecord
  try dsimp only
  repeat' split
  all_goals simp
@[simp] theorem State.countMove_coolant (s : State) (cw : Bool) : (s.countMove cw).coolant = s.coolant := by
  unfold State.countMove
  try dsimp only
  repeat' split
  all_goals simp
@[simp] theorem State.motionTests_coolant (s : State) : (s.motionTests).coolant = s.coolant := by
  unfold State.motionTests
  try dsimp only
  repeat' split
  all_goals simp
@[simp] theorem State.motionStep_coolant (s : State) (cw : Bool) : (s.motionStep cw).coolant = s.coolant := by
  unfold State.motionStep
  try dsimp only
  all_goals simp
@[simp] theorem State.ywcLock_coolant (s : State) (b : Bool) : (s.ywcLock b).coolant = s.coolant := by
  unfold State.ywcLock
  try dsimp only
  repeat' split
  all_goals simp
@[simp] theorem State.ywcPermit_coolant (s : State) (b : Bool) : (s.ywcPermit b).coolant = s.coolant := by
  unfold State.ywcPermit
  try dsimp only
  repeat' split
  all_goals simp
@[simp] theorem State.ywcWind_coolant (s : State) (a : Int) : (s.ywcWind a).coolant = s.coolant := by
  unfold State.ywcWind
  try dsimp only
  repeat' split
  all_goals simp
@[simp] theorem State.removed_coolant (s : State) (e : Entry) : (s.removed e).coolant = s.coolant := by
  unfold State.removed
  try dsimp only
  repeat' split
  all_goals simp
@[simp] theorem State.removedIf_coolant (s : State) (e : Option Entry) : (s.removedIf e).coolant = s.coolant := by
  unfold State.removedIf
  try dsimp only
  repeat' split
  all_goals simp
@[simp] theorem State.makeEntry_coolant (s : State) (c : Code) (v : Int) : (s.makeEntry c v).coolant = s.coolant := by
  unfold State.makeEntry
  try dsimp only
  repeat' split
  all_goals simp
@[simp] theorem State.logCondition_coolant (s : State) (c : Code) (v : Int) : (s.logCondition c v).coolant = s.coolant := by
  unfold State.logCondition
  try dsimp only
  repeat' split
  all_goals simp
@[simp] theorem State.logEvent_coolant (s : State) (c : Code) (v : Int) : (s.logEvent c v).coolant = s.coolant := by
  unfold State.logEvent
  try dsimp only
  repeat' split
  all_goals simp

end Sys2Proof.Machine
end

