-- ==== Sys2Proof/Laws/FaultFrame.lean ====
section
/-! SUPPORT. The frame of the FLU: which shared operations leave its condition set, indications, clock, counter and overflow flag as they
stand. -/

namespace Sys2Proof.Machine

/-- The parts of the FLU that only a raise, a clear, a clock expiry or a reset changes. -/
structure FluStanding where
  members : List Member
  exponent : Nat
  stringLatch : Bool
  yawLock : Bool
  pumpLatch : Bool
  seconds : Nat
  clockTimer : Timer
  counter : Nat
  overflow : Bool

/-- What the FLU holds beside its log, its inbox and its announcement. -/
def State.standing (s : State) : FluStanding := 
  { members := s.flu.members
    exponent := s.flu.exponent
    stringLatch := s.flu.stringLatch
    yawLock := s.flu.yawLock
    pumpLatch := s.flu.pumpLatch
    seconds := s.flu.seconds
    clockTimer := s.flu.clockTimer
    counter := s.flu.counter
    overflow := s.flu.overflow }

@[simp] theorem State.standing_update (s : State) (i : Icu) (l : Lif) (p : Ptb) (c : Stc) (y : Ywc) (k : Clc) (v : Levels)
    (d : Differing) (n : Nat) (q : List Instr) : State.standing ⟨i, l, p, c, y, k, s.flu, v, d, n, q⟩ = s.standing := rfl

@[simp] theorem State.standing_flu (s : State) (i : Icu) (l : Lif) (p : Ptb) (c : Stc) (y : Ywc) (k : Clc) (v : Levels)
    (d : Differing) (n : Nat) (q : List Instr) (g : List Entry) (pr su : Bool) (r : Repeats) (h : List HeldNotice)
    (b : List Request) :
    State.standing ⟨i, l, p, c, y, k, { s.flu with log := g, pressure := pr, supervisor := su, repeats := r, held := h, inbox := b },
      v, d, n, q⟩ = s.standing := rfl

@[simp] theorem State.standing_ite (c : Prop) [Decidable c] (s t : State) :
    (if c then s else t).standing = if c then s.standing else t.standing := apply_ite State.standing c s t

@[simp] theorem State.raise_standing (s : State) (code : Code) (v : Int) (o : Option Origin) : (s.raise code v o).standing = s.standing := rfl
@[simp] theorem State.clear_standing (s : State) (code : Code) : (s.clear code).standing = s.standing := rfl
@[simp] theorem State.drew_standing (s : State) : (s.drew).standing = s.standing := rfl
@[simp] theorem State.setPeer_standing (s : State) (n : Station) (e : PeerEntry) : (s.setPeer n e).standing = s.standing := rfl
@[simp] theorem State.enqueue_standing (s : State) (k : Kind) (p : List Byte) : (s.enqueue k p).standing = s.standing := rfl
@[simp] theorem State.noteHolders_standing (s : State) : (s.noteHolders).standing = s.standing := rfl
@[simp] theorem State.testPressure_standing (s : State) : (s.testPressure).standing = s.standing := rfl
@[simp] theorem State.stopRepeat_standing (s : State) (c : FaultClass) : (s.stopRepeat c).standing = s.standing := rfl
@[simp] theorem State.dropHeldNotice_standing (s : State) (n : Nat) : (s.dropHeldNotice n).standing = s.standing := rfl
@[simp] theorem State.dropStaleHeld_standing (s : State) : (s.dropStaleHeld).standing = s.standing := rfl
@[simp] theorem State.setLog_standing (s : State) (l : List Entry) : (s.setLog l).standing = s.standing := rfl
@[simp] theorem State.setString_standing (s : State) (st : StringState) : (s.setString st).standing = s.standing := rfl
@[simp] theorem State.setSetpoint_standing (s : State) (v : Nat) : (s.setSetpoint v).standing = s.standing := rfl
@[simp] theorem State.sendLink_standing (s : State) : (s.sendLink).standing = s.standing := rfl
@[simp] theorem State.enterRun_standing (s : State) : (s.enterRun).standing = s.standing := rfl
@[simp] theorem State.countStep_standing (s : State) (cw : Bool) : (s.countStep cw).standing = s.standing := rfl
@[simp] theorem State.setDisagree_standing (s : State) (v : Bool) : (s.setDisagree v).standing = s.standing := rfl
@[simp] theorem State.participate_standing (s : State) (p : Participant) (w : Bool) : (s.participate p w).standing = s.standing := rfl
@[simp] theorem State.setProposal_standing (s : State) (r : Option Proposal) : (s.setProposal r).standing = s.standing := rfl
@[simp] theorem State.enterIdle_standing (s : State) : (s.enterIdle).standing = s.standing := rfl
@[simp] theorem State.startHoldoff_standing (s : State) : (s.startHoldoff).standing = s.standing := rfl
@[simp] theorem State.clearProposal_standing (s : State) : (s.clearProposal).standing = s.standing := rfl
@[simp] theorem State.emptyWindow_standing (s : State) : (s.emptyWindow).standing = s.standing := rfl
@[simp] theorem State.setOwner_standing (s : State) (o : PumpOwner) : (s.setOwner o).standing = s.standing := rfl
@[simp] theorem State.loadDuty_standing (s : State) : (s.loadDuty).standing = s.standing := rfl
@[simp] theorem State.clcLatch_standing (s : State) (on : Bool) : (s.clcLatch on).standing = s.standing := rfl
@[simp] theorem State.readSupply_standing (s : State) (w : BitVec 12) : (s.readSupply w).standing = s.standing := rfl
@[simp] theorem State.formHeat_standing (s : State) : (s.formHeat).standing = s.standing := rfl
@[simp] theorem State.setMismatch_standing (s : State) (v : Bool) : (s.setMismatch v).standing = s.standing := rfl
@[simp] theorem State.takeTripNotice_standing (s : State) (n : Station) : (s.takeTripNotice n).standing = s.standing := rfl
@[simp] theorem State.lifConfigured_standing (s : State) : (s.lifConfigured).standing = s.standing := rfl
@[simp] theorem State.setAssembly_standing (s : State) (a : Assembly) : (s.setAssembly a).standing = s.standing := rfl
@[simp] theorem State.placeStatus_standing (s : State) (p : List Byte) : (s.placeStatus p).standing = s.standing := rfl
@[simp] theorem State.replaceStatus_standing (s : State) (p : List Byte) : (s.replaceStatus p).standing = s.standing := rfl

@[simp] theorem State.request_standing (s : State) (k : Kind) (p : List Byte) : (s.request k p).1.standing = s.standing := by
  unfold State.request
  try dsimp only
  repeat' split
  all_goals simp
@[simp] theorem State.requestNotice_standing (s : State) (e : Entry) : (s.requestNotice e).standing = s.standing := by
  unfold State.requestNotice
  try dsimp only
  repeat' split
  all_goals simp
@[simp] theorem State.announce_standing (s : State) (e : Entry) : (s.announce e).standing = s.standing := by
  unfold State.announce
  try dsimp only
  all_goals simp
@[simp] theorem State.select_standing (s : State) : (s.select).standing = s.standing := by
  unfold State.select
  try dsimp only
  repeat' split
  all_goals simp
@[simp] theorem State.noticeCompleted_standing (s : State) (n : Nat) : (s.noticeCompleted n).standing = s.standing := by
  unfold State.noticeCompleted
  try dsimp only
  repeat' split
  all_goals simp
@[simp] theorem State.noticeDiscarded_standing (s : State) (n : Nat) : (s.noticeDiscarded n).standing = s.standing := by
  unfold State.noticeDiscarded
  try dsimp only
  repeat' split
  all_goals simp
@[simp] theorem State.supervisorIndication_standing (s : State) (b : Bool) : (s.supervisorIndication b).standing = s.standing := by
  unfold State.supervisorIndication Flu.outOfService
  try dsimp only
  repeat' split
  all_goals simp
@[simp] theorem State.freeClasses_standing (s : State) (l : List Entry) : (s.freeClasses l).standing = s.standing := by
  induction l generalizing s with
  | nil => rfl
  | cons h r ih =>
    unfold State.freeClasses
    try dsimp only
    all_goals simp [ih]
@[simp] theorem State.acknowledge_standing (s : State) (o : AckOrder) : (s.acknowledge o).standing = s.standing := by
  unfold State.acknowledge
  try dsimp only
  repeat' split
  all_goals simp
@[simp] theorem State.discardNotice_standing (s : State) (f : QueuedFrame) : (s.discardNotice f).standing = s.standing := by
  unfold State.discardNotice
  try dsimp only
  repeat' split
  all_goals simp
@[simp] theorem State.completionNotice_standing (s : State) (f : QueuedFrame) : (s.completionNotice f).standing = s.standing := by
  unfold State.completionNotice
  try dsimp only
  repeat' split
  all_goals simp
@[simp] theorem State.offerTrip_standing (s : State) : (s.offerTrip).standing = s.standing := by
  unfold State.offerTrip
  try dsimp only
  repeat' split
  all_goals simp
@[simp] theorem State.offerYaw_standing (s : State) (k : Kind) (l : List HeldYaw) : (s.offerYaw k l).standing = s.standing := by
  induction l generalizing s with
  | nil => rfl
  | cons h r ih =>
    unfold State.offerYaw
    try dsimp only
    repeat' split
    all_goals simp [ih]
@[simp] theorem State.offerPump_standing (s : State) : (s.offerPump).standing = s.standing := by
  unfold State.offerPump
  try dsimp only
  repeat' split
  all_goals simp
@[simp] theorem State.offerStatus_standing (s : State) : (s.offerStatus).standing = s.standing := by
  unfold State.offerStatus
  try dsimp only
  repeat' split
  all_goals simp
@[simp] theorem State.offerNotices_standing (s : State) (l : List HeldNotice) : (s.offerNotices l).standing = s.standing := by
  induction l generalizing s with
  | nil => rfl
  | cons h r ih =>
    unfold State.offerNotices
    try dsimp only
    repeat' split
    all_goals simp [ih]
@[simp] theorem State.placeFree_standing (s : State) : (s.placeFree).standing = s.standing := by
  unfold State.placeFree
  try dsimp only
  all_goals simp
@[simp] theorem State.requestUrgent_standing (s : State) (k : Kind) (p : List Byte) : (s.requestUrgent k p).1.standing = s.standing := by
  unfold State.requestUrgent
  try dsimp only
  repeat' split
  all_goals simp
@[simp] theorem State.drive_standing (s : State) (st : StringState) (v : Nat) : (s.drive st v).standing = s.standing := by
  unfold State.drive
  try dsimp only
  repeat' split
  all_goals simp
@[simp] theorem State.requestTrip_standing (s : State) (c : TripCause) : (s.requestTrip c).standing = s.standing := by
  unfold State.requestTrip
  try dsimp only
  repeat' split
  all_goals simp
@[simp] theorem State.raiseCause_standing (s : State) (c : Option (Code × Int)) : (s.raiseCause c).standing = s.standing := by
  unfold State.raiseCause
  try dsimp only
  repeat' split
  all_goals simp
@[simp] theorem State.trip_standing (s : State) (c : TripCause) (r : Option (Code × Int)) : (s.trip c r).standing = s.standing := by
  unfold State.trip
  try dsimp only
  repeat' split
  all_goals simp
@[simp] theorem State.enterSync_standing (s : State) : (s.enterSync).standing = s.standing := by
  unfold State.enterSync
  try dsimp only
  repeat' split
  all_goals simp
@[simp] theorem State.modulatorTrip_standing (s : State) : (s.modulatorTrip).standing = s.standing := by
  unfold State.modulatorTrip
  try dsimp only
  all_goals simp
@[simp] theorem State.enterPrecharge_standing (s : State) : (s.enterPrecharge).standing = s.standing := by
  unfold State.enterPrecharge
  try dsimp only
  repeat' split
  all_goals simp
@[simp] theorem State.startTest_standing (s : State) : (s.startTest).standing = s.standing := by
  unfold State.startTest
  try dsimp only
  repeat' split
  all_goals simp
@[simp] theorem State.enterOff_standing (s : State) : (s.enterOff).standing = s.standing := by
  unfold State.enterOff
  try dsimp only
  all_goals simp
@[simp] theorem State.cutSetpoint_standing (s : State) : (s.cutSetpoint).standing = s.standing := by
  unfold State.cutSetpoint
  try dsimp only
  repeat' split
  all_goals simp
@[simp] theorem State.respondToLimit_standing (s : State) : (s.respondToLimit).standing = s.standing := by
  unfold State.respondToLimit
  try dsimp only
  repeat' split
  all_goals simp
@[simp] theorem State.formLimit_standing (s : State) : (s.formLimit).standing = s.standing := by
  unfold State.formLimit
  try dsimp only
  repeat' split
  all_goals simp
@[simp] theorem State.stcDerate_standing (s : State) (e : Nat) : (s.stcDerate e).standing = s.standing := by
  unfold State.stcDerate
  try dsimp only
  all_goals simp
@[simp] theorem State.stcFlow_standing (s : State) (f : FlowState) : (s.stcFlow f).standing = s.standing := by
  unfold State.stcFlow
  try dsimp only
  all_goals simp
@[simp] theorem State.tempTest_standing (s : State) (v : Option Int) : (s.tempTest v).standing = s.standing := by
  unfold State.tempTest
  try dsimp only
  repeat' split
  all_goals simp
@[simp] theorem State.stcTheta_standing (s : State) (v : Option Int) : (s.stcTheta v).standing = s.standing := by
  unfold State.stcTheta
  try dsimp only
  all_goals simp
@[simp] theorem State.stcPermit_standing (s : State) (b : Bool) : (s.stcPermit b).standing = s.standing := by
  unfold State.stcPermit
  try dsimp only
  repeat' split
  all_goals simp
@[simp] theorem State.stcTripRequest_standing (s : State) : (s.stcTripRequest).standing = s.standing := by
  unfold State.stcTripRequest
  try dsimp only
  all_goals simp
@[simp] theorem State.stcLatchOn_standing (s : State) : (s.stcLatchOn).standing = s.standing := by
  unfold State.stcLatchOn
  try dsimp only
  repeat' split
  all_goals simp
@[simp] theorem State.stcLatch_standing (s : State) (b : Bool) : (s.stcLatch b).standing = s.standing := by
  unfold State.stcLatch
  try dsimp only
  repeat' split
  all_goals simp
@[simp] theorem State.shareInRun_standing (s : State) : (s.shareInRun).standing = s.standing := by
  unfold State.shareInRun
  try dsimp only
  repeat' split
  all_goals simp
@[simp] theorem State.shareInStopping_standing (s : State) : (s.shareInStopping).standing = s.standing := by
  unfold State.shareInStopping
  try dsimp only
  repeat' split
  all_goals simp
@[simp] theorem State.shareRound_standing (s : State) : (s.shareRound).standing = s.standing := by
  unfold State.shareRound
  try dsimp only
  repeat' split
  all_goals simp
@[simp] theorem State.markSeen_standing (s : State) : (s.markSeen).standing = s.standing := by
  unfold State.markSeen
  try dsimp only
  repeat' split
  all_goals simp
@[simp] theorem State.positionVote_standing (s : State) : (s.positionVote).standing = s.standing := by
  unfold State.positionVote
  try dsimp only
  repeat' split
  all_goals simp
@[simp] theorem State.enterBraking_standing (s : State) : (s.enterBraking).standing = s.standing := by
  unfold State.enterBraking
  try dsimp only
  repeat' split
  all_goals simp
@[simp] theorem State.pathClockwise_standing (s : State) (p : Int) : (s.pathClockwise p).2.standing = s.standing := by
  unfold State.pathClockwise
  try dsimp only
  repeat' split
  all_goals simp
@[simp] theorem State.requestYaw_standing (s : State) (k : Kind) (r : Ref) (p : List Byte) : (s.requestYaw k r p).standing = s.standing := by
  unfold State.requestYaw
  try dsimp only
  repeat' split
  all_goals simp
@[simp] theorem State.requestAnswer_standing (s : State) (r : Ref) (a : Answer) (e : Refusing) : (s.requestAnswer r a e).standing = s.standing := by
  unfold State.requestAnswer
  try dsimp only
  all_goals simp
@[simp] theorem State.haltParticipant_standing (s : State) : (s.haltParticipant).standing = s.standing := by
  unfold State.haltParticipant
  try dsimp only
  repeat' split
  all_goals simp
@[simp] theorem State.takeHalt_standing (s : State) (r : Ref) : (s.takeHalt r).standing = s.standing := by
  unfold State.takeHalt
  try dsimp only
  repeat' split
  all_goals simp
@[simp] theorem State.ownHalt_standing (s : State) (r : Ref) (e : HaltReason) : (s.ownHalt r e).standing = s.standing := by
  unfold State.ownHalt
  try dsimp only
  all_goals simp
@[simp] theorem State.haltMove_standing (s : State) (e : HaltReason) : (s.haltMove e).standing = s.standing := by
  unfold State.haltMove
  try dsimp only
  repeat' split
  all_goals simp
@[simp] theorem State.haltProposal_standing (s : State) (e : HaltReason) : (s.haltProposal e).standing = s.standing := by
  unfold State.haltProposal
  try dsimp only
  repeat' split
  all_goals simp
@[simp] theorem State.takeDrive_standing (s : State) : (s.takeDrive).standing = s.standing := by
  unfold State.takeDrive
  try dsimp only
  repeat' split
  all_goals simp
@[simp] theorem State.startMotion_standing (s : State) (r : Proposal) : (s.startMotion r).standing = s.standing := by
  unfold State.startMotion
  try dsimp only
  repeat' split
  all_goals simp
@[simp] theorem State.joinReleased_standing (s : State) (n : Station) : (s.joinReleased n).standing = s.standing := by
  unfold State.joinReleased
  try dsimp only
  repeat' split
  all_goals simp
@[simp] theorem State.brakesReleased_standing (s : State) : (s.brakesReleased).standing = s.standing := by
  unfold State.brakesReleased
  try dsimp only
  repeat' split
  all_goals simp
@[simp] theorem State.enterReleasing_standing (s : State) : (s.enterReleasing).standing = s.standing := by
  unfold State.enterReleasing
  try dsimp only
  repeat' split
  all_goals simp
@[simp] theorem State.takeDecision_standing (s : State) (r : Proposal) : (s.takeDecision r).standing = s.standing := by
  unfold State.takeDecision
  try dsimp only
  repeat' split
  all_goals simp
@[simp] theorem State.enterAnswer_standing (s : State) (r : Proposal) (n : Station) (a : Reply) : (s.enterAnswer r n a).standing = s.standing := by
  unfold State.enterAnswer
  try dsimp only
  repeat' split
  all_goals simp
@[simp] theorem State.propose_standing (s : State) (p : Plan) : (s.propose p).standing = s.standing := by
  unfold State.propose
  try dsimp only
  repeat' split
  all_goals simp
@[simp] theorem State.answerIdle_standing (s : State) (r : Ref) (p : Int) : (s.answerIdle r p).standing = s.standing := by
  unfold State.answerIdle
  try dsimp only
  repeat' split
  all_goals simp
@[simp] theorem State.answerWithout_standing (s : State) (r : Ref) (p : Int) : (s.answerWithout r p).standing = s.standing := by
  unfold State.answerWithout
  try dsimp only
  repeat' split
  all_goals simp
@[simp] theorem State.withdrawAndAnswer_standing (s : State) (r : Ref) (p : Int) : (s.withdrawAndAnswer r p).standing = s.standing := by
  unfold State.withdrawAndAnswer
  try dsimp only
  repeat' split
  all_goals simp
@[simp] theorem State.answerProposal_standing (s : State) (r : Ref) (p : Int) : (s.answerProposal r p).standing = s.standing := by
  unfold State.answerProposal
  try dsimp only
  repeat' split
  all_goals simp
@[simp] theorem State.countRecord_standing (s : State) (cw : Bool) : (s.countRecord cw).standing = s.standing := by
  unfold State.countRecord
  try dsimp only
  repeat' split
  all_goals simp
@[simp] theorem State.countMove_standing (s : State) (cw : Bool) : (s.countMove cw).standing = s.standing := by
  unfold State.countMove
  try dsimp only
  repeat' split
  all_goals simp
@[simp] theorem State.motionTests_standing (s : State) : (s.motionTests).standing = s.standing := by
  unfold State.motionTests
  try dsimp only
  repeat' split
  all_goals simp
@[simp] theorem State.motionStep_standing (s : State) (cw : Bool) : (s.motionStep cw).standing = s.standing := by
  unfold State.motionStep
  try dsimp only
  all_goals simp
@[simp] theorem State.ywcLock_standing (s : State) (b : Bool) : (s.ywcLock b).standing = s.standing := by
  unfold State.ywcLock
  try dsimp only
  repeat' split
  all_goals simp
@[simp] theorem State.ywcPermit_standing (s : State) (b : Bool) : (s.ywcPermit b).standing = s.standing := by
  unfold State.ywcPermit
  try dsimp only
  repeat' split
  all_goals simp
@[simp] theorem State.ywcWind_standing (s : State) (a : Int) : (s.ywcWind a).standing = s.standing := by
  unfold State.ywcWind
  try dsimp only
  repeat' split
  all_goals simp
@[simp] theorem State.requestPump_standing (s : State) : (s.requestPump).standing = s.standing := by
  unfold State.requestPump
  try dsimp only
  repeat' split
  all_goals simp
@[simp] theorem State.changeOwner_standing (s : State) (o : PumpOwner) : (s.changeOwner o).standing = s.standing := by
  unfold State.changeOwner
  try dsimp only
  all_goals simp
@[simp] theorem State.enterRunning_standing (s : State) : (s.enterRunning).standing = s.standing := by
  unfold State.enterRunning
  try dsimp only
  all_goals simp
@[simp] theorem State.enterStarting_standing (s : State) : (s.enterStarting).standing = s.standing := by
  unfold State.enterStarting
  try dsimp only
  repeat' split
  all_goals simp
@[simp] theorem State.holdStart_standing (s : State) : (s.holdStart).standing = s.standing := by
  unfold State.holdStart
  try dsimp only
  repeat' split
  all_goals simp
@[simp] theorem State.startTests_standing (s : State) : (s.startTests).standing = s.standing := by
  unfold State.startTests
  try dsimp only
  repeat' split
  all_goals simp
@[simp] theorem State.bothRunningTest_standing (s : State) : (s.bothRunningTest).standing = s.standing := by
  unfold State.bothRunningTest
  try dsimp only
  repeat' split
  all_goals simp
@[simp] theorem State.outgoingTest_standing (s : State) : (s.outgoingTest).standing = s.standing := by
  unfold State.outgoingTest
  try dsimp only
  repeat' split
  all_goals simp
@[simp] theorem State.setFlow_standing (s : State) (f : FlowState) : (s.setFlow f).standing = s.standing := by
  unfold State.setFlow
  try dsimp only
  all_goals simp
@[simp] theorem State.flowTest_standing (s : State) : (s.flowTest).standing = s.standing := by
  unfold State.flowTest
  try dsimp only
  repeat' split
  all_goals simp
@[simp] theorem State.viewTests_standing (s : State) (n : Nat) : (s.viewTests n).standing = s.standing := by
  induction n generalizing s with
  | zero => rfl
  | succ n ih =>
    unfold State.viewTests
    try dsimp only
    repeat' split
    all_goals simp [ih]
@[simp] theorem State.viewChanged_standing (s : State) : (s.viewChanged).standing = s.standing := by
  unfold State.viewChanged
  try dsimp only
  all_goals simp
@[simp] theorem State.failPump_standing (s : State) (c : Int) : (s.failPump c).standing = s.standing := by
  unfold State.failPump
  try dsimp only
  repeat' split
  all_goals simp
@[simp] theorem State.setView_standing (s : State) (p : Pump) (v : PumpView) : (s.setView p v).standing = s.standing := by
  unfold State.setView
  try dsimp only
  repeat' split
  all_goals simp
@[simp] theorem State.takeView_standing (s : State) (f : PumpFields) (n : Station) : (s.takeView f n).standing = s.standing := by
  unfold State.takeView
  try dsimp only
  repeat' split
  all_goals simp
@[simp] theorem State.handoverRequest_standing (s : State) (f : PumpFields) : (s.handoverRequest f).standing = s.standing := by
  unfold State.handoverRequest
  try dsimp only
  repeat' split
  all_goals simp
@[simp] theorem State.disagreeTest_standing (s : State) (v : Vote) : (s.disagreeTest v).standing = s.standing := by
  unfold State.disagreeTest
  try dsimp only
  repeat' split
  all_goals simp
@[simp] theorem State.supplyTest_standing (s : State) (v : Vote) (n : Nat) : (s.supplyTest v n).standing = s.standing := by
  unfold State.supplyTest
  try dsimp only
  repeat' split
  all_goals simp
@[simp] theorem State.switchFan_standing (s : State) (i : Fin 3) (b : Bool) : (s.switchFan i b).standing = s.standing := by
  unfold State.switchFan
  try dsimp only
  repeat' split
  all_goals simp
@[simp] theorem State.applyDuty_standing (s : State) : (s.applyDuty).standing = s.standing := by
  unfold State.applyDuty
  try dsimp only
  repeat' split
  all_goals simp
@[simp] theorem State.fansOff_standing (s : State) : (s.fansOff).standing = s.standing := by
  unfold State.fansOff
  try dsimp only
  all_goals simp
@[simp] theorem State.setStages_standing (s : State) (n : Nat) : (s.setStages n).standing = s.standing := by
  unfold State.setStages
  try dsimp only
  repeat' split
  all_goals simp
@[simp] theorem State.raiseStages_standing (s : State) : (s.raiseStages).standing = s.standing := by
  unfold State.raiseStages
  try dsimp only
  repeat' split
  all_goals simp
@[simp] theorem State.stepStages_standing (s : State) : (s.stepStages).standing = s.standing := by
  unfold State.stepStages
  try dsimp only
  repeat' split
  all_goals simp
@[simp] theorem State.setCover_standing (s : State) : (s.setCover).standing = s.standing := by
  unfold State.setCover
  try dsimp only
  repeat' split
  all_goals simp
@[simp] theorem State.rivalTest_standing (s : State) : (s.rivalTest).standing = s.standing := by
  unfold State.rivalTest
  try dsimp only
  repeat' split
  all_goals simp

end Sys2Proof.Machine
end

