-- ==== Sys2Proof/Laws/InboxFrame.lean ====
section
/-! SUPPORT. The frame of the inbox of the FLU: which shared operations hand the FLU no request. -/

namespace Sys2Proof.Machine

/-- The requests that the FLU has not taken. -/
def State.requests (s : State) : List Request := s.flu.inbox

@[simp] theorem State.requests_update (s : State) (i : Icu) (l : Lif) (p : Ptb) (c : Stc) (y : Ywc) (k : Clc) (v : Levels)
    (d : Differing) (n : Nat) (q : List Instr) : State.requests ⟨i, l, p, c, y, k, s.flu, v, d, n, q⟩ = s.requests := rfl

@[simp] theorem State.requests_flu (s : State) (i : Icu) (l : Lif) (p : Ptb) (c : Stc) (y : Ywc) (k : Clc) (v : Levels)
    (d : Differing) (n : Nat) (q : List Instr) (m : List Member) (e : Nat) (sl yl pl : Bool) (se : Nat) (ct : Timer)
    (g : List Entry) (co : Nat) (ov pr su : Bool) (r : Repeats) (h : List HeldNotice) :
    State.requests ⟨i, l, p, c, y, k,
      { s.flu with
        members := m, exponent := e, stringLatch := sl, yawLock := yl, pumpLatch := pl, seconds := se, clockTimer := ct,
        log := g, counter := co, overflow := ov, pressure := pr, supervisor := su, repeats := r, held := h },
      v, d, n, q⟩ = s.requests := rfl

theorem State.requests_inbox (s : State) : s.flu.inbox = s.requests := rfl

@[simp] theorem State.requests_ite (c : Prop) [Decidable c] (s t : State) :
    (if c then s else t).requests = if c then s.requests else t.requests := apply_ite State.requests c s t

@[simp] theorem State.drew_requests (s : State) : (s.drew).requests = s.requests := rfl
@[simp] theorem State.setPeer_requests (s : State) (n : Station) (e : PeerEntry) : (s.setPeer n e).requests = s.requests := rfl
@[simp] theorem State.enqueue_requests (s : State) (k : Kind) (p : List Byte) : (s.enqueue k p).requests = s.requests := rfl
@[simp] theorem State.noteHolders_requests (s : State) : (s.noteHolders).requests = s.requests := rfl
@[simp] theorem State.testPressure_requests (s : State) : (s.testPressure).requests = s.requests := rfl
@[simp] theorem State.stopRepeat_requests (s : State) (c : FaultClass) : (s.stopRepeat c).requests = s.requests := rfl
@[simp] theorem State.dropHeldNotice_requests (s : State) (n : Nat) : (s.dropHeldNotice n).requests = s.requests := rfl
@[simp] theorem State.dropStaleHeld_requests (s : State) : (s.dropStaleHeld).requests = s.requests := rfl
@[simp] theorem State.setLog_requests (s : State) (l : List Entry) : (s.setLog l).requests = s.requests := rfl
@[simp] theorem State.setString_requests (s : State) (st : StringState) : (s.setString st).requests = s.requests := rfl
@[simp] theorem State.setSetpoint_requests (s : State) (v : Nat) : (s.setSetpoint v).requests = s.requests := rfl
@[simp] theorem State.sendLink_requests (s : State) : (s.sendLink).requests = s.requests := rfl
@[simp] theorem State.enterRun_requests (s : State) : (s.enterRun).requests = s.requests := rfl
@[simp] theorem State.countStep_requests (s : State) (cw : Bool) : (s.countStep cw).requests = s.requests := rfl
@[simp] theorem State.setDisagree_requests (s : State) (v : Bool) : (s.setDisagree v).requests = s.requests := rfl
@[simp] theorem State.participate_requests (s : State) (p : Participant) (w : Bool) : (s.participate p w).requests = s.requests := rfl
@[simp] theorem State.setProposal_requests (s : State) (r : Option Proposal) : (s.setProposal r).requests = s.requests := rfl
@[simp] theorem State.enterIdle_requests (s : State) : (s.enterIdle).requests = s.requests := rfl
@[simp] theorem State.startHoldoff_requests (s : State) : (s.startHoldoff).requests = s.requests := rfl
@[simp] theorem State.clearProposal_requests (s : State) : (s.clearProposal).requests = s.requests := rfl
@[simp] theorem State.emptyWindow_requests (s : State) : (s.emptyWindow).requests = s.requests := rfl
@[simp] theorem State.setOwner_requests (s : State) (o : PumpOwner) : (s.setOwner o).requests = s.requests := rfl
@[simp] theorem State.loadDuty_requests (s : State) : (s.loadDuty).requests = s.requests := rfl
@[simp] theorem State.clcLatch_requests (s : State) (on : Bool) : (s.clcLatch on).requests = s.requests := rfl
@[simp] theorem State.readSupply_requests (s : State) (w : BitVec 12) : (s.readSupply w).requests = s.requests := rfl
@[simp] theorem State.formHeat_requests (s : State) : (s.formHeat).requests = s.requests := rfl
@[simp] theorem State.setMismatch_requests (s : State) (v : Bool) : (s.setMismatch v).requests = s.requests := rfl
@[simp] theorem State.takeTripNotice_requests (s : State) (n : Station) : (s.takeTripNotice n).requests = s.requests := rfl
@[simp] theorem State.lifConfigured_requests (s : State) : (s.lifConfigured).requests = s.requests := rfl
@[simp] theorem State.setAssembly_requests (s : State) (a : Assembly) : (s.setAssembly a).requests = s.requests := rfl
@[simp] theorem State.placeStatus_requests (s : State) (p : List Byte) : (s.placeStatus p).requests = s.requests := rfl
@[simp] theorem State.replaceStatus_requests (s : State) (p : List Byte) : (s.replaceStatus p).requests = s.requests := rfl

@[simp] theorem State.request_requests (s : State) (k : Kind) (p : List Byte) : (s.request k p).1.requests = s.requests := by
  unfold State.request
  try dsimp only
  repeat' split
  all_goals simp
@[simp] theorem State.requestNotice_requests (s : State) (e : Entry) : (s.requestNotice e).requests = s.requests := by
  unfold State.requestNotice
  try dsimp only
  repeat' split
  all_goals simp
@[simp] theorem State.announce_requests (s : State) (e : Entry) : (s.announce e).requests = s.requests := by
  unfold State.announce
  try dsimp only
  all_goals simp
@[simp] theorem State.select_requests (s : State) : (s.select).requests = s.requests := by
  unfold State.select
  try dsimp only
  repeat' split
  all_goals simp
@[simp] theorem State.noticeCompleted_requests (s : State) (n : Nat) : (s.noticeCompleted n).requests = s.requests := by
  unfold State.noticeCompleted
  try dsimp only
  repeat' split
  all_goals simp
@[simp] theorem State.noticeDiscarded_requests (s : State) (n : Nat) : (s.noticeDiscarded n).requests = s.requests := by
  unfold State.noticeDiscarded
  try dsimp only
  repeat' split
  all_goals simp
@[simp] theorem State.supervisorIndication_requests (s : State) (b : Bool) : (s.supervisorIndication b).requests = s.requests := by
  unfold State.supervisorIndication Flu.outOfService
  try dsimp only
  repeat' split
  all_goals simp
@[simp] theorem State.freeClasses_requests (s : State) (l : List Entry) : (s.freeClasses l).requests = s.requests := by
  induction l generalizing s with
  | nil => rfl
  | cons h r ih =>
    unfold State.freeClasses
    try dsimp only
    all_goals simp [ih]
@[simp] theorem State.acknowledge_requests (s : State) (o : AckOrder) : (s.acknowledge o).requests = s.requests := by
  unfold State.acknowledge
  try dsimp only
  repeat' split
  all_goals simp
@[simp] theorem State.discardNotice_requests (s : State) (f : QueuedFrame) : (s.discardNotice f).requests = s.requests := by
  unfold State.discardNotice
  try dsimp only
  repeat' split
  all_goals simp
@[simp] theorem State.completionNotice_requests (s : State) (f : QueuedFrame) : (s.completionNotice f).requests = s.requests := by
  unfold State.completionNotice
  try dsimp only
  repeat' split
  all_goals simp
@[simp] theorem State.offerTrip_requests (s : State) : (s.offerTrip).requests = s.requests := by
  unfold State.offerTrip
  try dsimp only
  repeat' split
  all_goals simp
@[simp] theorem State.offerYaw_requests (s : State) (k : Kind) (l : List HeldYaw) : (s.offerYaw k l).requests = s.requests := by
  induction l generalizing s with
  | nil => rfl
  | cons h r ih =>
    unfold State.offerYaw
    try dsimp only
    repeat' split
    all_goals simp [ih]
@[simp] theorem State.offerPump_requests (s : State) : (s.offerPump).requests = s.requests := by
  unfold State.offerPump
  try dsimp only
  repeat' split
  all_goals simp
@[simp] theorem State.offerStatus_requests (s : State) : (s.offerStatus).requests = s.requests := by
  unfold State.offerStatus
  try dsimp only
  repeat' split
  all_goals simp
@[simp] theorem State.offerNotices_requests (s : State) (l : List HeldNotice) : (s.offerNotices l).requests = s.requests := by
  induction l generalizing s with
  | nil => rfl
  | cons h r ih =>
    unfold State.offerNotices
    try dsimp only
    repeat' split
    all_goals simp [ih]
@[simp] theorem State.placeFree_requests (s : State) : (s.placeFree).requests = s.requests := by
  unfold State.placeFree
  try dsimp only
  all_goals simp
@[simp] theorem State.requestUrgent_requests (s : State) (k : Kind) (p : List Byte) : (s.requestUrgent k p).1.requests = s.requests := by
  unfold State.requestUrgent
  try dsimp only
  repeat' split
  all_goals simp
@[simp] theorem State.drive_requests (s : State) (st : StringState) (v : Nat) : (s.drive st v).requests = s.requests := by
  unfold State.drive
  try dsimp only
  repeat' split
  all_goals simp
@[simp] theorem State.requestTrip_requests (s : State) (c : TripCause) : (s.requestTrip c).requests = s.requests := by
  unfold State.requestTrip
  try dsimp only
  repeat' split
  all_goals simp
@[simp] theorem State.enterSync_requests (s : State) : (s.enterSync).requests = s.requests := by
  unfold State.enterSync
  try dsimp only
  repeat' split
  all_goals simp
@[simp] theorem State.cutSetpoint_requests (s : State) : (s.cutSetpoint).requests = s.requests := by
  unfold State.cutSetpoint
  try dsimp only
  repeat' split
  all_goals simp
@[simp] theorem State.shareInRun_requests (s : State) : (s.shareInRun).requests = s.requests := by
  unfold State.shareInRun
  try dsimp only
  repeat' split
  all_goals simp
@[simp] theorem State.enterBraking_requests (s : State) : (s.enterBraking).requests = s.requests := by
  unfold State.enterBraking
  try dsimp only
  repeat' split
  all_goals simp
@[simp] theorem State.pathClockwise_requests (s : State) (p : Int) : (s.pathClockwise p).2.requests = s.requests := by
  unfold State.pathClockwise
  try dsimp only
  repeat' split
  all_goals simp
@[simp] theorem State.requestYaw_requests (s : State) (k : Kind) (r : Ref) (p : List Byte) : (s.requestYaw k r p).requests = s.requests := by
  unfold State.requestYaw
  try dsimp only
  repeat' split
  all_goals simp
@[simp] theorem State.requestAnswer_requests (s : State) (r : Ref) (a : Answer) (e : Refusing) : (s.requestAnswer r a e).requests = s.requests := by
  unfold State.requestAnswer
  try dsimp only
  all_goals simp
@[simp] theorem State.haltParticipant_requests (s : State) : (s.haltParticipant).requests = s.requests := by
  unfold State.haltParticipant
  try dsimp only
  repeat' split
  all_goals simp
@[simp] theorem State.takeHalt_requests (s : State) (r : Ref) : (s.takeHalt r).requests = s.requests := by
  unfold State.takeHalt
  try dsimp only
  repeat' split
  all_goals simp
@[simp] theorem State.ownHalt_requests (s : State) (r : Ref) (e : HaltReason) : (s.ownHalt r e).requests = s.requests := by
  unfold State.ownHalt
  try dsimp only
  all_goals simp
@[simp] theorem State.haltMove_requests (s : State) (e : HaltReason) : (s.haltMove e).requests = s.requests := by
  unfold State.haltMove
  try dsimp only
  repeat' split
  all_goals simp
@[simp] theorem State.haltProposal_requests (s : State) (e : HaltReason) : (s.haltProposal e).requests = s.requests := by
  unfold State.haltProposal
  try dsimp only
  repeat' split
  all_goals simp
@[simp] theorem State.takeDrive_requests (s : State) : (s.takeDrive).requests = s.requests := by
  unfold State.takeDrive
  try dsimp only
  repeat' split
  all_goals simp
@[simp] theorem State.startMotion_requests (s : State) (r : Proposal) : (s.startMotion r).requests = s.requests := by
  unfold State.startMotion
  try dsimp only
  repeat' split
  all_goals simp
@[simp] theorem State.joinReleased_requests (s : State) (n : Station) : (s.joinReleased n).requests = s.requests := by
  unfold State.joinReleased
  try dsimp only
  repeat' split
  all_goals simp
@[simp] theorem State.brakesReleased_requests (s : State) : (s.brakesReleased).requests = s.requests := by
  unfold State.brakesReleased
  try dsimp only
  repeat' split
  all_goals simp
@[simp] theorem State.enterReleasing_requests (s : State) : (s.enterReleasing).requests = s.requests := by
  unfold State.enterReleasing
  try dsimp only
  repeat' split
  all_goals simp
@[simp] theorem State.takeDecision_requests (s : State) (r : Proposal) : (s.takeDecision r).requests = s.requests := by
  unfold State.takeDecision
  try dsimp only
  repeat' split
  all_goals simp
@[simp] theorem State.enterAnswer_requests (s : State) (r : Proposal) (n : Station) (a : Reply) : (s.enterAnswer r n a).requests = s.requests := by
  unfold State.enterAnswer
  try dsimp only
  repeat' split
  all_goals simp
@[simp] theorem State.propose_requests (s : State) (p : Plan) : (s.propose p).requests = s.requests := by
  unfold State.propose
  try dsimp only
  repeat' split
  all_goals simp
@[simp] theorem State.answerIdle_requests (s : State) (r : Ref) (p : Int) : (s.answerIdle r p).requests = s.requests := by
  unfold State.answerIdle
  try dsimp only
  repeat' split
  all_goals simp
@[simp] theorem State.answerWithout_requests (s : State) (r : Ref) (p : Int) : (s.answerWithout r p).requests = s.requests := by
  unfold State.answerWithout
  try dsimp only
  repeat' split
  all_goals simp
@[simp] theorem State.withdrawAndAnswer_requests (s : State) (r : Ref) (p : Int) : (s.withdrawAndAnswer r p).requests = s.requests := by
  unfold State.withdrawAndAnswer
  try dsimp only
  repeat' split
  all_goals simp
@[simp] theorem State.answerProposal_requests (s : State) (r : Ref) (p : Int) : (s.answerProposal r p).requests = s.requests := by
  unfold State.answerProposal
  try dsimp only
  repeat' split
  all_goals simp
@[simp] theorem State.countRecord_requests (s : State) (cw : Bool) : (s.countRecord cw).requests = s.requests := by
  unfold State.countRecord
  try dsimp only
  repeat' split
  all_goals simp
@[simp] theorem State.countMove_requests (s : State) (cw : Bool) : (s.countMove cw).requests = s.requests := by
  unfold State.countMove
  try dsimp only
  repeat' split
  all_goals simp
@[simp] theorem State.motionTests_requests (s : State) : (s.motionTests).requests = s.requests := by
  unfold State.motionTests
  try dsimp only
  repeat' split
  all_goals simp
@[simp] theorem State.motionStep_requests (s : State) (cw : Bool) : (s.motionStep cw).requests = s.requests := by
  unfold State.motionStep
  try dsimp only
  all_goals simp
@[simp] theorem State.ywcLock_requests (s : State) (b : Bool) : (s.ywcLock b).requests = s.requests := by
  unfold State.ywcLock
  try dsimp only
  repeat' split
  all_goals simp
@[simp] theorem State.ywcPermit_requests (s : State) (b : Bool) : (s.ywcPermit b).requests = s.requests := by
  unfold State.ywcPermit
  try dsimp only
  repeat' split
  all_goals simp
@[simp] theorem State.ywcWind_requests (s : State) (a : Int) : (s.ywcWind a).requests = s.requests := by
  unfold State.ywcWind
  try dsimp only
  repeat' split
  all_goals simp
@[simp] theorem State.requestPump_requests (s : State) : (s.requestPump).requests = s.requests := by
  unfold State.requestPump
  try dsimp only
  repeat' split
  all_goals simp
@[simp] theorem State.changeOwner_requests (s : State) (o : PumpOwner) : (s.changeOwner o).requests = s.requests := by
  unfold State.changeOwner
  try dsimp only
  all_goals simp
@[simp] theorem State.enterRunning_requests (s : State) : (s.enterRunning).requests = s.requests := by
  unfold State.enterRunning
  try dsimp only
  all_goals simp
@[simp] theorem State.enterStarting_requests (s : State) : (s.enterStarting).requests = s.requests := by
  unfold State.enterStarting
  try dsimp only
  repeat' split
  all_goals simp
@[simp] theorem State.holdStart_requests (s : State) : (s.holdStart).requests = s.requests := by
  unfold State.holdStart
  try dsimp only
  repeat' split
  all_goals simp
@[simp] theorem State.startTests_requests (s : State) : (s.startTests).requests = s.requests := by
  unfold State.startTests
  try dsimp only
  repeat' split
  all_goals simp
@[simp] theorem State.bothRunningTest_requests (s : State) : (s.bothRunningTest).requests = s.requests := by
  unfold State.bothRunningTest
  try dsimp only
  repeat' split
  all_goals simp
@[simp] theorem State.outgoingTest_requests (s : State) : (s.outgoingTest).requests = s.requests := by
  unfold State.outgoingTest
  try dsimp only
  repeat' split
  all_goals simp
@[simp] theorem State.setView_requests (s : State) (p : Pump) (v : PumpView) : (s.setView p v).requests = s.requests := by
  unfold State.setView
  try dsimp only
  repeat' split
  all_goals simp
@[simp] theorem State.takeView_requests (s : State) (f : PumpFields) (n : Station) : (s.takeView f n).requests = s.requests := by
  unfold State.takeView
  try dsimp only
  repeat' split
  all_goals simp
@[simp] theorem State.handoverRequest_requests (s : State) (f : PumpFields) : (s.handoverRequest f).requests = s.requests := by
  unfold State.handoverRequest
  try dsimp only
  repeat' split
  all_goals simp
@[simp] theorem State.switchFan_requests (s : State) (i : Fin 3) (b : Bool) : (s.switchFan i b).requests = s.requests := by
  unfold State.switchFan
  try dsimp only
  repeat' split
  all_goals simp
@[simp] theorem State.applyDuty_requests (s : State) : (s.applyDuty).requests = s.requests := by
  unfold State.applyDuty
  try dsimp only
  repeat' split
  all_goals simp
@[simp] theorem State.fansOff_requests (s : State) : (s.fansOff).requests = s.requests := by
  unfold State.fansOff
  try dsimp only
  all_goals simp
@[simp] theorem State.setStages_requests (s : State) (n : Nat) : (s.setStages n).requests = s.requests := by
  unfold State.setStages
  try dsimp only
  repeat' split
  all_goals simp
@[simp] theorem State.raiseStages_requests (s : State) : (s.raiseStages).requests = s.requests := by
  unfold State.raiseStages
  try dsimp only
  repeat' split
  all_goals simp
@[simp] theorem State.stepStages_requests (s : State) : (s.stepStages).requests = s.requests := by
  unfold State.stepStages
  try dsimp only
  repeat' split
  all_goals simp
@[simp] theorem State.setCover_requests (s : State) : (s.setCover).requests = s.requests := by
  unfold State.setCover
  try dsimp only
  repeat' split
  all_goals simp
@[simp] theorem State.removed_requests (s : State) (e : Entry) : (s.removed e).requests = s.requests := by
  unfold State.removed
  try dsimp only
  repeat' split
  all_goals simp
@[simp] theorem State.removedIf_requests (s : State) (e : Option Entry) : (s.removedIf e).requests = s.requests := by
  unfold State.removedIf
  try dsimp only
  repeat' split
  all_goals simp
@[simp] theorem State.makeEntry_requests (s : State) (c : Code) (v : Int) : (s.makeEntry c v).requests = s.requests := by
  unfold State.makeEntry
  try dsimp only
  repeat' split
  all_goals simp
@[simp] theorem State.logCondition_requests (s : State) (c : Code) (v : Int) : (s.logCondition c v).requests = s.requests := by
  unfold State.logCondition
  try dsimp only
  repeat' split
  all_goals simp
@[simp] theorem State.logEvent_requests (s : State) (c : Code) (v : Int) : (s.logEvent c v).requests = s.requests := by
  unfold State.logEvent
  try dsimp only
  repeat' split
  all_goals simp

end Sys2Proof.Machine
end

