-- ==== Sys2Proof/Laws/ReadersFrame.lean ====
section
/-! SUPPORT. The frame of the indications as their readers keep them: which shared operations leave the kept exponent and locks as they
stand. -/

namespace Sys2Proof.Machine

/-- What the readers of the FLU's indications keep (10 R168, R169). -/
structure Readers where
  exponent : Nat
  stringLatch : Bool
  yawLock : Bool
  pumpLatch : Bool

/-- The indications that the STC, the YWC and the CLC keep. -/
def State.readers (s : State) : Readers := ⟨s.stc.exponent, s.stc.latch, s.ywc.lock, s.clc.latch⟩

@[simp] theorem State.readers_update (s : State) (i : Icu) (l : Lif) (p : Ptb) (f : Flu) (v : Levels) (d : Differing)
    (n : Nat) (q : List Instr) : State.readers ⟨i, l, p, s.stc, s.ywc, s.clc, f, v, d, n, q⟩ = s.readers := rfl

@[simp] theorem State.readers_stc (s : State) (i : Icu) (l : Lif) (p : Ptb) (f : Flu) (v : Levels) (d : Differing) (n
    : Nat) (q : List Instr) (x0 : StringState) (x1 : Bool) (x2 : Bool) (x3 : Bool) (x4 : BitVec 16) (x5 : Nat) (x6 :
    Nat) (x7 : Option LimitParts) (x8 : Nat) (x9 : Nat) (x10 : Nat) (x11 : List Nat) (x12 : Bool) (x13 : Bool) (x14 :
    Option (List Byte)) (x15 : Bool) (x16 : FlowState) (x17 : Option Int) (x18 : Timer) (x19 : Timer) (x20 : Timer)
    (x21 : Timer) (x22 : Timer) (x23 : Timer) :
    State.readers ⟨i, l, p, { s.stc with
      state := x0, prechargeCommand := x1, mainCommand := x2, enable := x3, link := x4,
      linkSends := x5, limit := x6, parts := x7, setpoint := x8, loss := x9, target := x10,
      history := x11, overtemp := x12, contactorFault := x13, heldTrip := x14, permit := x15,
      flow := x16, theta := x17, prechargeTimer := x18, syncTimer := x19, zeroHoldTimer := x20,
      coolDownTimer := x21, contactorTimer := x22, shareTimer := x23 }, s.ywc, s.clc, f, v, d, n, q⟩ = s.readers := rfl

@[simp] theorem State.readers_ywc (s : State) (i : Icu) (l : Lif) (p : Ptb) (f : Flu) (v : Levels) (d : Differing) (n
    : Nat) (q : List Instr) (x0 : Option Turn) (x1 : Nat) (x2 : Bool) (x3 : Int) (x4 : Bool) (x5 : Nat) (x6 : Bool)
    (x7 : List Int) (x8 : Timer) (x9 : Timer) (x10 : Bool) (x11 : Participant) (x12 : Option Move) (x13 : Option
    Proposal) (x14 : Nat) (x15 : Bool) (x16 : Timer) (x17 : Timer) (x18 : Timer) (x19 : Timer) (x20 : Timer) (x21 :
    Timer) (x22 : Timer) (x23 : Timer) (x24 : List HeldYaw) (x25 : Motors) (x26 : Bool) :
    State.readers ⟨i, l, p, s.stc, { s.ywc with
      turn := x0, position := x1, referenced := x2, twist := x3, known := x4, invalidSteps := x5,
      disagree := x6, window := x7, holdoffTimer := x8, checkTimer := x9, permit := x10,
      participant := x11, move := x12, proposal := x13, nextNumber := x14, stall := x15,
      answerTimer := x16, releaseTimer := x17, commitWait := x18, brakeTimer := x19,
      driveWait := x20, stallTimer := x21, settleTimer := x22, brakingTimer := x23, held := x24,
      motors := x25, brakeRelease := x26 }, s.clc, f, v, d, n, q⟩ = s.readers := rfl

@[simp] theorem State.readers_clc (s : State) (i : Icu) (l : Lif) (p : Ptb) (f : Flu) (v : Levels) (d : Differing) (n
    : Nat) (q : List Instr) (x0 : PumpOwner) (x1 : Bool) (x2 : Nat) (x3 : Bool) (x4 : Bool) (x5 : Option (List Byte))
    (x6 : Timer) (x7 : Timer) (x8 : Timer) (x9 : Timer) (x10 : Timer) (x11 : PumpView) (x12 : PumpView) (x13 :
    FlowState) (x14 : Bool) (x15 : Timer) (x16 : Int) (x17 : Bool) (x18 : Option Int) (x19 : Bool) (x20 : Bool) (x21 :
    Timer) (x22 : Vector Fan 3) (x23 : Nat) (x24 : Nat) (x25 : Nat) (x26 : Cover) (x27 : Bool) (x28 : Bool) (x29 :
    Timer) :
    State.readers ⟨i, l, p, s.stc, s.ywc, { s.clc with
      owner := x0, pumpOutput := x1, duty := x2, incoming := x3, conflict := x4, heldPump := x5,
      startHold := x6, confirmTimer := x7, dutyTimer := x8, handoffTimer := x9, reportTimer := x10,
      viewA := x11, viewB := x12, flow := x13, lostFlag := x14, graceTimer := x15, raw := x16,
      rawValid := x17, theta := x18, disagree := x19, supply := x20, sampleTimer := x21,
      fans := x22, nHeat := x23, nTemp := x24, nFan := x25, cover := x26, fanConflict := x27,
      heldOff := x28, fanStepTimer := x29 }, f, v, d, n, q⟩ = s.readers := rfl

@[simp] theorem State.readers_ite (c : Prop) [Decidable c] (s t : State) :
    (if c then s else t).readers = if c then s.readers else t.readers := apply_ite State.readers c s t

@[simp] theorem State.raise_readers (s : State) (code : Code) (v : Int) (o : Option Origin) : (s.raise code v o).readers = s.readers := rfl
@[simp] theorem State.clear_readers (s : State) (code : Code) : (s.clear code).readers = s.readers := rfl
@[simp] theorem State.drew_readers (s : State) : (s.drew).readers = s.readers := rfl
@[simp] theorem State.setPeer_readers (s : State) (n : Station) (e : PeerEntry) : (s.setPeer n e).readers = s.readers := rfl
@[simp] theorem State.enqueue_readers (s : State) (k : Kind) (p : List Byte) : (s.enqueue k p).readers = s.readers := rfl
@[simp] theorem State.noteHolders_readers (s : State) : (s.noteHolders).readers = s.readers := rfl
@[simp] theorem State.testPressure_readers (s : State) : (s.testPressure).readers = s.readers := rfl
@[simp] theorem State.stopRepeat_readers (s : State) (c : FaultClass) : (s.stopRepeat c).readers = s.readers := rfl
@[simp] theorem State.dropHeldNotice_readers (s : State) (n : Nat) : (s.dropHeldNotice n).readers = s.readers := rfl
@[simp] theorem State.dropStaleHeld_readers (s : State) : (s.dropStaleHeld).readers = s.readers := rfl
@[simp] theorem State.setLog_readers (s : State) (l : List Entry) : (s.setLog l).readers = s.readers := rfl
@[simp] theorem State.setString_readers (s : State) (st : StringState) : (s.setString st).readers = s.readers := rfl
@[simp] theorem State.setSetpoint_readers (s : State) (v : Nat) : (s.setSetpoint v).readers = s.readers := rfl
@[simp] theorem State.sendLink_readers (s : State) : (s.sendLink).readers = s.readers := rfl
@[simp] theorem State.enterRun_readers (s : State) : (s.enterRun).readers = s.readers := rfl
@[simp] theorem State.countStep_readers (s : State) (cw : Bool) : (s.countStep cw).readers = s.readers := rfl
@[simp] theorem State.setDisagree_readers (s : State) (v : Bool) : (s.setDisagree v).readers = s.readers := rfl
@[simp] theorem State.participate_readers (s : State) (p : Participant) (w : Bool) : (s.participate p w).readers = s.readers := rfl
@[simp] theorem State.setProposal_readers (s : State) (r : Option Proposal) : (s.setProposal r).readers = s.readers := rfl
@[simp] theorem State.enterIdle_readers (s : State) : (s.enterIdle).readers = s.readers := rfl
@[simp] theorem State.startHoldoff_readers (s : State) : (s.startHoldoff).readers = s.readers := rfl
@[simp] theorem State.clearProposal_readers (s : State) : (s.clearProposal).readers = s.readers := rfl
@[simp] theorem State.emptyWindow_readers (s : State) : (s.emptyWindow).readers = s.readers := rfl
@[simp] theorem State.setOwner_readers (s : State) (o : PumpOwner) : (s.setOwner o).readers = s.readers := rfl
@[simp] theorem State.loadDuty_readers (s : State) : (s.loadDuty).readers = s.readers := rfl
@[simp] theorem State.readSupply_readers (s : State) (w : BitVec 12) : (s.readSupply w).readers = s.readers := rfl
@[simp] theorem State.formHeat_readers (s : State) : (s.formHeat).readers = s.readers := rfl
@[simp] theorem State.setMismatch_readers (s : State) (v : Bool) : (s.setMismatch v).readers = s.readers := rfl
@[simp] theorem State.takeTripNotice_readers (s : State) (n : Station) : (s.takeTripNotice n).readers = s.readers := rfl
@[simp] theorem State.lifConfigured_readers (s : State) : (s.lifConfigured).readers = s.readers := rfl
@[simp] theorem State.setAssembly_readers (s : State) (a : Assembly) : (s.setAssembly a).readers = s.readers := rfl
@[simp] theorem State.placeStatus_readers (s : State) (p : List Byte) : (s.placeStatus p).readers = s.readers := rfl
@[simp] theorem State.replaceStatus_readers (s : State) (p : List Byte) : (s.replaceStatus p).readers = s.readers := rfl

@[simp] theorem State.request_readers (s : State) (k : Kind) (p : List Byte) : (s.request k p).1.readers = s.readers := by
  unfold State.request
  try dsimp only
  repeat' split
  all_goals simp
@[simp] theorem State.requestNotice_readers (s : State) (e : Entry) : (s.requestNotice e).readers = s.readers := by
  unfold State.requestNotice
  try dsimp only
  repeat' split
  all_goals simp
@[simp] theorem State.announce_readers (s : State) (e : Entry) : (s.announce e).readers = s.readers := by
  unfold State.announce
  try dsimp only
  all_goals simp
@[simp] theorem State.select_readers (s : State) : (s.select).readers = s.readers := by
  unfold State.select
  try dsimp only
  repeat' split
  all_goals simp
@[simp] theorem State.noticeCompleted_readers (s : State) (n : Nat) : (s.noticeCompleted n).readers = s.readers := by
  unfold State.noticeCompleted
  try dsimp only
  repeat' split
  all_goals simp
@[simp] theorem State.noticeDiscarded_readers (s : State) (n : Nat) : (s.noticeDiscarded n).readers = s.readers := by
  unfold State.noticeDiscarded
  try dsimp only
  repeat' split
  all_goals simp
@[simp] theorem State.supervisorIndication_readers (s : State) (b : Bool) : (s.supervisorIndication b).readers = s.readers := by
  unfold State.supervisorIndication Flu.outOfService
  try dsimp only
  repeat' split
  all_goals simp
@[simp] theorem State.freeClasses_readers (s : State) (l : List Entry) : (s.freeClasses l).readers = s.readers := by
  induction l generalizing s with
  | nil => rfl
  | cons h r ih =>
    unfold State.freeClasses
    try dsimp only
    all_goals simp [ih]
@[simp] theorem State.acknowledge_readers (s : State) (o : AckOrder) : (s.acknowledge o).readers = s.readers := by
  unfold State.acknowledge
  try dsimp only
  repeat' split
  all_goals simp
@[simp] theorem State.discardNotice_readers (s : State) (f : QueuedFrame) : (s.discardNotice f).readers = s.readers := by
  unfold State.discardNotice
  try dsimp only
  repeat' split
  all_goals simp
@[simp] theorem State.completionNotice_readers (s : State) (f : QueuedFrame) : (s.completionNotice f).readers = s.readers := by
  unfold State.completionNotice
  try dsimp only
  repeat' split
  all_goals simp
@[simp] theorem State.offerTrip_readers (s : State) : (s.offerTrip).readers = s.readers := by
  unfold State.offerTrip
  try dsimp only
  repeat' split
  all_goals simp
@[simp] theorem State.offerYaw_readers (s : State) (k : Kind) (l : List HeldYaw) : (s.offerYaw k l).readers = s.readers := by
  induction l generalizing s with
  | nil => rfl
  | cons h r ih =>
    unfold State.offerYaw
    try dsimp only
    repeat' split
    all_goals simp [ih]
@[simp] theorem State.offerPump_readers (s : State) : (s.offerPump).readers = s.readers := by
  unfold State.offerPump
  try dsimp only
  repeat' split
  all_goals simp
@[simp] theorem State.offerStatus_readers (s : State) : (s.offerStatus).readers = s.readers := by
  unfold State.offerStatus
  try dsimp only
  repeat' split
  all_goals simp
@[simp] theorem State.offerNotices_readers (s : State) (l : List HeldNotice) : (s.offerNotices l).readers = s.readers := by
  induction l generalizing s with
  | nil => rfl
  | cons h r ih =>
    unfold State.offerNotices
    try dsimp only
    repeat' split
    all_goals simp [ih]
@[simp] theorem State.placeFree_readers (s : State) : (s.placeFree).readers = s.readers := by
  unfold State.placeFree
  try dsimp only
  all_goals simp
@[simp] theorem State.requestUrgent_readers (s : State) (k : Kind) (p : List Byte) : (s.requestUrgent k p).1.readers = s.readers := by
  unfold State.requestUrgent
  try dsimp only
  repeat' split
  all_goals simp
@[simp] theorem State.drive_readers (s : State) (st : StringState) (v : Nat) : (s.drive st v).readers = s.readers := by
  unfold State.drive
  try dsimp only
  repeat' split
  all_goals simp
@[simp] theorem State.requestTrip_readers (s : State) (c : TripCause) : (s.requestTrip c).readers = s.readers := by
  unfold State.requestTrip
  try dsimp only
  repeat' split
  all_goals simp
@[simp] theorem State.raiseCause_readers (s : State) (c : Option (Code × Int)) : (s.raiseCause c).readers = s.readers := by
  unfold State.raiseCause
  try dsimp only
  repeat' split
  all_goals simp
@[simp] theorem State.trip_readers (s : State) (c : TripCause) (r : Option (Code × Int)) : (s.trip c r).readers = s.readers := by
  unfold State.trip
  try dsimp only
  repeat' split
  all_goals simp
  all_goals rfl
@[simp] theorem State.enterSync_readers (s : State) : (s.enterSync).readers = s.readers := by
  unfold State.enterSync
  try dsimp only
  repeat' split
  all_goals simp
@[simp] theorem State.modulatorTrip_readers (s : State) : (s.modulatorTrip).readers = s.readers := by
  unfold State.modulatorTrip
  try dsimp only
  all_goals simp
@[simp] theorem State.enterPrecharge_readers (s : State) : (s.enterPrecharge).readers = s.readers := by
  unfold State.enterPrecharge
  try dsimp only
  repeat' split
  all_goals simp
  all_goals rfl
@[simp] theorem State.startTest_readers (s : State) : (s.startTest).readers = s.readers := by
  unfold State.startTest
  try dsimp only
  repeat' split
  all_goals simp
@[simp] theorem State.enterOff_readers (s : State) : (s.enterOff).readers = s.readers := by
  unfold State.enterOff
  try dsimp only
  all_goals simp
@[simp] theorem State.cutSetpoint_readers (s : State) : (s.cutSetpoint).readers = s.readers := by
  unfold State.cutSetpoint
  try dsimp only
  repeat' split
  all_goals simp
@[simp] theorem State.respondToLimit_readers (s : State) : (s.respondToLimit).readers = s.readers := by
  unfold State.respondToLimit
  try dsimp only
  repeat' split
  all_goals simp
@[simp] theorem State.formLimit_readers (s : State) : (s.formLimit).readers = s.readers := by
  unfold State.formLimit
  try dsimp only
  repeat' split
  all_goals simp
@[simp] theorem State.stcFlow_readers (s : State) (f : FlowState) : (s.stcFlow f).readers = s.readers := by
  unfold State.stcFlow
  try dsimp only
  all_goals simp
@[simp] theorem State.tempTest_readers (s : State) (v : Option Int) : (s.tempTest v).readers = s.readers := by
  unfold State.tempTest
  try dsimp only
  repeat' split
  all_goals simp
@[simp] theorem State.stcTheta_readers (s : State) (v : Option Int) : (s.stcTheta v).readers = s.readers := by
  unfold State.stcTheta
  try dsimp only
  all_goals simp
@[simp] theorem State.stcPermit_readers (s : State) (b : Bool) : (s.stcPermit b).readers = s.readers := by
  unfold State.stcPermit
  try dsimp only
  repeat' split
  all_goals simp
@[simp] theorem State.stcTripRequest_readers (s : State) : (s.stcTripRequest).readers = s.readers := by
  unfold State.stcTripRequest
  try dsimp only
  all_goals simp
@[simp] theorem State.shareInRun_readers (s : State) : (s.shareInRun).readers = s.readers := by
  unfold State.shareInRun
  try dsimp only
  repeat' split
  all_goals simp
@[simp] theorem State.shareInStopping_readers (s : State) : (s.shareInStopping).readers = s.readers := by
  unfold State.shareInStopping
  try dsimp only
  repeat' split
  all_goals simp
@[simp] theorem State.shareRound_readers (s : State) : (s.shareRound).readers = s.readers := by
  unfold State.shareRound
  try dsimp only
  repeat' split
  all_goals simp
@[simp] theorem State.markSeen_readers (s : State) : (s.markSeen).readers = s.readers := by
  unfold State.markSeen
  try dsimp only
  repeat' split
  all_goals simp
@[simp] theorem State.positionVote_readers (s : State) : (s.positionVote).readers = s.readers := by
  unfold State.positionVote
  try dsimp only
  repeat' split
  all_goals simp
@[simp] theorem State.enterBraking_readers (s : State) : (s.enterBraking).readers = s.readers := by
  unfold State.enterBraking
  try dsimp only
  repeat' split
  all_goals simp
@[simp] theorem State.pathClockwise_readers (s : State) (p : Int) : (s.pathClockwise p).2.readers = s.readers := by
  unfold State.pathClockwise
  try dsimp only
  repeat' split
  all_goals simp
@[simp] theorem State.requestYaw_readers (s : State) (k : Kind) (r : Ref) (p : List Byte) : (s.requestYaw k r p).readers = s.readers := by
  unfold State.requestYaw
  try dsimp only
  repeat' split
  all_goals simp
@[simp] theorem State.requestAnswer_readers (s : State) (r : Ref) (a : Answer) (e : Refusing) : (s.requestAnswer r a e).readers = s.readers := by
  unfold State.requestAnswer
  try dsimp only
  all_goals simp
@[simp] theorem State.haltParticipant_readers (s : State) : (s.haltParticipant).readers = s.readers := by
  unfold State.haltParticipant
  try dsimp only
  repeat' split
  all_goals simp
@[simp] theorem State.takeHalt_readers (s : State) (r : Ref) : (s.takeHalt r).readers = s.readers := by
  unfold State.takeHalt
  try dsimp only
  repeat' split
  all_goals simp
@[simp] theorem State.ownHalt_readers (s : State) (r : Ref) (e : HaltReason) : (s.ownHalt r e).readers = s.readers := by
  unfold State.ownHalt
  try dsimp only
  all_goals simp
@[simp] theorem State.haltMove_readers (s : State) (e : HaltReason) : (s.haltMove e).readers = s.readers := by
  unfold State.haltMove
  try dsimp only
  repeat' split
  all_goals simp
@[simp] theorem State.haltProposal_readers (s : State) (e : HaltReason) : (s.haltProposal e).readers = s.readers := by
  unfold State.haltProposal
  try dsimp only
  repeat' split
  all_goals simp
@[simp] theorem State.takeDrive_readers (s : State) : (s.takeDrive).readers = s.readers := by
  unfold State.takeDrive
  try dsimp only
  repeat' split
  all_goals simp
@[simp] theorem State.startMotion_readers (s : State) (r : Proposal) : (s.startMotion r).readers = s.readers := by
  unfold State.startMotion
  try dsimp only
  repeat' split
  all_goals simp
@[simp] theorem State.joinReleased_readers (s : State) (n : Station) : (s.joinReleased n).readers = s.readers := by
  unfold State.joinReleased
  try dsimp only
  repeat' split
  all_goals simp
@[simp] theorem State.brakesReleased_readers (s : State) : (s.brakesReleased).readers = s.readers := by
  unfold State.brakesReleased
  try dsimp only
  repeat' split
  all_goals simp
@[simp] theorem State.enterReleasing_readers (s : State) : (s.enterReleasing).readers = s.readers := by
  unfold State.enterReleasing
  try dsimp only
  repeat' split
  all_goals simp
@[simp] theorem State.takeDecision_readers (s : State) (r : Proposal) : (s.takeDecision r).readers = s.readers := by
  unfold State.takeDecision
  try dsimp only
  repeat' split
  all_goals simp
@[simp] theorem State.enterAnswer_readers (s : State) (r : Proposal) (n : Station) (a : Reply) : (s.enterAnswer r n a).readers = s.readers := by
  unfold State.enterAnswer
  try dsimp only
  repeat' split
  all_goals simp
@[simp] theorem State.propose_readers (s : State) (p : Plan) : (s.propose p).readers = s.readers := by
  unfold State.propose
  try dsimp only
  repeat' split
  all_goals simp
@[simp] theorem State.answerIdle_readers (s : State) (r : Ref) (p : Int) : (s.answerIdle r p).readers = s.readers := by
  unfold State.answerIdle
  try dsimp only
  repeat' split
  all_goals simp
@[simp] theorem State.answerWithout_readers (s : State) (r : Ref) (p : Int) : (s.answerWithout r p).readers = s.readers := by
  unfold State.answerWithout
  try dsimp only
  repeat' split
  all_goals simp
@[simp] theorem State.withdrawAndAnswer_readers (s : State) (r : Ref) (p : Int) : (s.withdrawAndAnswer r p).readers = s.readers := by
  unfold State.withdrawAndAnswer
  try dsimp only
  repeat' split
  all_goals simp
@[simp] theorem State.answerProposal_readers (s : State) (r : Ref) (p : Int) : (s.answerProposal r p).readers = s.readers := by
  unfold State.answerProposal
  try dsimp only
  repeat' split
  all_goals simp
@[simp] theorem State.countRecord_readers (s : State) (cw : Bool) : (s.countRecord cw).readers = s.readers := by
  unfold State.countRecord
  try dsimp only
  repeat' split
  all_goals simp
@[simp] theorem State.countMove_readers (s : State) (cw : Bool) : (s.countMove cw).readers = s.readers := by
  unfold State.countMove
  try dsimp only
  repeat' split
  all_goals simp
@[simp] theorem State.motionTests_readers (s : State) : (s.motionTests).readers = s.readers := by
  unfold State.motionTests
  try dsimp only
  repeat' split
  all_goals simp
@[simp] theorem State.motionStep_readers (s : State) (cw : Bool) : (s.motionStep cw).readers = s.readers := by
  unfold State.motionStep
  try dsimp only
  all_goals simp
@[simp] theorem State.ywcPermit_readers (s : State) (b : Bool) : (s.ywcPermit b).readers = s.readers := by
  unfold State.ywcPermit
  try dsimp only
  repeat' split
  all_goals simp
@[simp] theorem State.ywcWind_readers (s : State) (a : Int) : (s.ywcWind a).readers = s.readers := by
  unfold State.ywcWind
  try dsimp only
  repeat' split
  all_goals simp
@[simp] theorem State.requestPump_readers (s : State) : (s.requestPump).readers = s.readers := by
  unfold State.requestPump
  try dsimp only
  repeat' split
  all_goals simp
@[simp] theorem State.changeOwner_readers (s : State) (o : PumpOwner) : (s.changeOwner o).readers = s.readers := by
  unfold State.changeOwner
  try dsimp only
  all_goals simp
@[simp] theorem State.enterRunning_readers (s : State) : (s.enterRunning).readers = s.readers := by
  unfold State.enterRunning
  try dsimp only
  all_goals simp
@[simp] theorem State.enterStarting_readers (s : State) : (s.enterStarting).readers = s.readers := by
  unfold State.enterStarting
  try dsimp only
  repeat' split
  all_goals simp
@[simp] theorem State.holdStart_readers (s : State) : (s.holdStart).readers = s.readers := by
  unfold State.holdStart
  try dsimp only
  repeat' split
  all_goals simp
@[simp] theorem State.startTests_readers (s : State) : (s.startTests).readers = s.readers := by
  unfold State.startTests
  try dsimp only
  repeat' split
  all_goals simp
@[simp] theorem State.bothRunningTest_readers (s : State) : (s.bothRunningTest).readers = s.readers := by
  unfold State.bothRunningTest
  try dsimp only
  repeat' split
  all_goals simp
@[simp] theorem State.outgoingTest_readers (s : State) : (s.outgoingTest).readers = s.readers := by
  unfold State.outgoingTest
  try dsimp only
  repeat' split
  all_goals simp
@[simp] theorem State.setFlow_readers (s : State) (f : FlowState) : (s.setFlow f).readers = s.readers := by
  unfold State.setFlow
  try dsimp only
  all_goals simp
@[simp] theorem State.flowTest_readers (s : State) : (s.flowTest).readers = s.readers := by
  unfold State.flowTest
  try dsimp only
  repeat' split
  all_goals simp
@[simp] theorem State.viewTests_readers (s : State) (n : Nat) : (s.viewTests n).readers = s.readers := by
  induction n generalizing s with
  | zero => rfl
  | succ n ih =>
    unfold State.viewTests
    try dsimp only
    repeat' split
    all_goals simp [ih]
@[simp] theorem State.viewChanged_readers (s : State) : (s.viewChanged).readers = s.readers := by
  unfold State.viewChanged
  try dsimp only
  all_goals simp
@[simp] theorem State.failPump_readers (s : State) (c : Int) : (s.failPump c).readers = s.readers := by
  unfold State.failPump
  try dsimp only
  repeat' split
  all_goals simp
@[simp] theorem State.setView_readers (s : State) (p : Pump) (v : PumpView) : (s.setView p v).readers = s.readers := by
  unfold State.setView
  try dsimp only
  repeat' split
  all_goals simp
@[simp] theorem State.takeView_readers (s : State) (f : PumpFields) (n : Station) : (s.takeView f n).readers = s.readers := by
  unfold State.takeView
  try dsimp only
  repeat' split
  all_goals simp
@[simp] theorem State.handoverRequest_readers (s : State) (f : PumpFields) : (s.handoverRequest f).readers = s.readers := by
  unfold State.handoverRequest
  try dsimp only
  repeat' split
  all_goals simp
@[simp] theorem State.disagreeTest_readers (s : State) (v : Vote) : (s.disagreeTest v).readers = s.readers := by
  unfold State.disagreeTest
  try dsimp only
  repeat' split
  all_goals simp
@[simp] theorem State.supplyTest_readers (s : State) (v : Vote) (n : Nat) : (s.supplyTest v n).readers = s.readers := by
  unfold State.supplyTest
  try dsimp only
  repeat' split
  all_goals simp
@[simp] theorem State.switchFan_readers (s : State) (i : Fin 3) (b : Bool) : (s.switchFan i b).readers = s.readers := by
  unfold State.switchFan
  try dsimp only
  repeat' split
  all_goals simp
@[simp] theorem State.applyDuty_readers (s : State) : (s.applyDuty).readers = s.readers := by
  unfold State.applyDuty
  try dsimp only
  repeat' split
  all_goals simp
@[simp] theorem State.fansOff_readers (s : State) : (s.fansOff).readers = s.readers := by
  unfold State.fansOff
  try dsimp only
  all_goals simp
@[simp] theorem State.setStages_readers (s : State) (n : Nat) : (s.setStages n).readers = s.readers := by
  unfold State.setStages
  try dsimp only
  repeat' split
  all_goals simp
@[simp] theorem State.raiseStages_readers (s : State) : (s.raiseStages).readers = s.readers := by
  unfold State.raiseStages
  try dsimp only
  repeat' split
  all_goals simp
@[simp] theorem State.stepStages_readers (s : State) : (s.stepStages).readers = s.readers := by
  unfold State.stepStages
  try dsimp only
  repeat' split
  all_goals simp
@[simp] theorem State.setCover_readers (s : State) : (s.setCover).readers = s.readers := by
  unfold State.setCover
  try dsimp only
  repeat' split
  all_goals simp
@[simp] theorem State.rivalTest_readers (s : State) : (s.rivalTest).readers = s.readers := by
  unfold State.rivalTest
  try dsimp only
  repeat' split
  all_goals simp
@[simp] theorem State.removed_readers (s : State) (e : Entry) : (s.removed e).readers = s.readers := by
  unfold State.removed
  try dsimp only
  repeat' split
  all_goals simp
@[simp] theorem State.removedIf_readers (s : State) (e : Option Entry) : (s.removedIf e).readers = s.readers := by
  unfold State.removedIf
  try dsimp only
  repeat' split
  all_goals simp
@[simp] theorem State.makeEntry_readers (s : State) (c : Code) (v : Int) : (s.makeEntry c v).readers = s.readers := by
  unfold State.makeEntry
  try dsimp only
  repeat' split
  all_goals simp
@[simp] theorem State.logCondition_readers (s : State) (c : Code) (v : Int) : (s.logCondition c v).readers = s.readers := by
  unfold State.logCondition
  try dsimp only
  repeat' split
  all_goals simp
@[simp] theorem State.logEvent_readers (s : State) (c : Code) (v : Int) : (s.logEvent c v).readers = s.readers := by
  unfold State.logEvent
  try dsimp only
  repeat' split
  all_goals simp

end Sys2Proof.Machine
end

