-- ==== Sys2Proof/Laws/Outer.lean ====
section
/-! SUPPORT. The frame of the shared operations: no work of the LIF's queue, the STC, the YWC, the CLC or the FLU changes
the ICU, the PTB, the qualified levels, the samplers or the queue of commands. -/

namespace Sys2Proof.Machine

/-- The parts of a state that lie outside that work. -/
structure Outer where
  icu : Icu
  ptb : Ptb
  levels : Levels
  differing : Differing
  pending : List Instr

/-- The outer parts of a state. -/
def State.outer (s : State) : Outer :=
  { icu := s.icu, ptb := s.ptb, levels := s.levels, differing := s.differing, pending := s.pending }

@[simp] theorem State.outer_update (s : State) (l : Lif) (c : Stc) (y : Ywc) (k : Clc) (f : Flu) (d : Nat) :
    State.outer ⟨s.icu, l, s.ptb, c, y, k, f, s.levels, s.differing, d, s.pending⟩ = s.outer := rfl

@[simp] theorem State.outer_ite (c : Prop) [Decidable c] (s t : State) :
    (if c then s else t).outer = if c then s.outer else t.outer := apply_ite State.outer c s t

theorem State.outer_icu {s t : State} (h : t.outer = s.outer) : t.icu = s.icu := congrArg Outer.icu h
theorem State.outer_ptb {s t : State} (h : t.outer = s.outer) : t.ptb = s.ptb := congrArg Outer.ptb h
theorem State.outer_levels {s t : State} (h : t.outer = s.outer) : t.levels = s.levels := congrArg Outer.levels h
theorem State.outer_differing {s t : State} (h : t.outer = s.outer) : t.differing = s.differing :=
  congrArg Outer.differing h
theorem State.outer_pending {s t : State} (h : t.outer = s.outer) : t.pending = s.pending := congrArg Outer.pending h

@[simp] theorem State.raise_outer (s : State) (code : Code) (v : Int) (o : Option Origin) : (s.raise code v o).outer = s.outer := rfl
@[simp] theorem State.clear_outer (s : State) (code : Code) : (s.clear code).outer = s.outer := rfl
@[simp] theorem State.drew_outer (s : State) : (s.drew).outer = s.outer := rfl
@[simp] theorem State.enqueue_outer (s : State) (k : Kind) (p : List Byte) : (s.enqueue k p).outer = s.outer := rfl
@[simp] theorem State.noteHolders_outer (s : State) : (s.noteHolders).outer = s.outer := rfl
@[simp] theorem State.testPressure_outer (s : State) : (s.testPressure).outer = s.outer := rfl
@[simp] theorem State.stopRepeat_outer (s : State) (c : FaultClass) : (s.stopRepeat c).outer = s.outer := rfl
@[simp] theorem State.dropHeldNotice_outer (s : State) (n : Nat) : (s.dropHeldNotice n).outer = s.outer := rfl
@[simp] theorem State.dropStaleHeld_outer (s : State) : (s.dropStaleHeld).outer = s.outer := rfl
@[simp] theorem State.setLog_outer (s : State) (l : List Entry) : (s.setLog l).outer = s.outer := rfl
@[simp] theorem State.setString_outer (s : State) (st : StringState) : (s.setString st).outer = s.outer := rfl
@[simp] theorem State.setSetpoint_outer (s : State) (v : Nat) : (s.setSetpoint v).outer = s.outer := rfl
@[simp] theorem State.sendLink_outer (s : State) : (s.sendLink).outer = s.outer := rfl
@[simp] theorem State.enterRun_outer (s : State) : (s.enterRun).outer = s.outer := rfl
@[simp] theorem State.countStep_outer (s : State) (cw : Bool) : (s.countStep cw).outer = s.outer := rfl
@[simp] theorem State.setDisagree_outer (s : State) (v : Bool) : (s.setDisagree v).outer = s.outer := rfl
@[simp] theorem State.participate_outer (s : State) (p : Participant) (w : Bool) : (s.participate p w).outer = s.outer := rfl
@[simp] theorem State.setProposal_outer (s : State) (r : Option Proposal) : (s.setProposal r).outer = s.outer := rfl
@[simp] theorem State.enterIdle_outer (s : State) : (s.enterIdle).outer = s.outer := rfl
@[simp] theorem State.startHoldoff_outer (s : State) : (s.startHoldoff).outer = s.outer := rfl
@[simp] theorem State.clearProposal_outer (s : State) : (s.clearProposal).outer = s.outer := rfl
@[simp] theorem State.emptyWindow_outer (s : State) : (s.emptyWindow).outer = s.outer := rfl
@[simp] theorem State.setOwner_outer (s : State) (o : PumpOwner) : (s.setOwner o).outer = s.outer := rfl
@[simp] theorem State.loadDuty_outer (s : State) : (s.loadDuty).outer = s.outer := rfl
@[simp] theorem State.clcLatch_outer (s : State) (on : Bool) : (s.clcLatch on).outer = s.outer := rfl
@[simp] theorem State.readSupply_outer (s : State) (w : BitVec 12) : (s.readSupply w).outer = s.outer := rfl
@[simp] theorem State.formHeat_outer (s : State) : (s.formHeat).outer = s.outer := rfl
@[simp] theorem State.lifConfigured_outer (s : State) : (s.lifConfigured).outer = s.outer := rfl
@[simp] theorem State.placeStatus_outer (s : State) (p : List Byte) : (s.placeStatus p).outer = s.outer := rfl
@[simp] theorem State.replaceStatus_outer (s : State) (p : List Byte) : (s.replaceStatus p).outer = s.outer := rfl

@[simp] theorem State.request_outer (s : State) (k : Kind) (p : List Byte) : (s.request k p).1.outer = s.outer := by
  unfold State.request
  try dsimp only
  repeat' split
  all_goals simp
@[simp] theorem State.requestNotice_outer (s : State) (e : Entry) : (s.requestNotice e).outer = s.outer := by
  unfold State.requestNotice
  try dsimp only
  repeat' split
  all_goals simp
@[simp] theorem State.announce_outer (s : State) (e : Entry) : (s.announce e).outer = s.outer := by
  unfold State.announce
  try dsimp only
  all_goals simp
@[simp] theorem State.select_outer (s : State) : (s.select).outer = s.outer := by
  unfold State.select
  try dsimp only
  repeat' split
  all_goals simp
@[simp] theorem State.noticeCompleted_outer (s : State) (n : Nat) : (s.noticeCompleted n).outer = s.outer := by
  unfold State.noticeCompleted
  try dsimp only
  repeat' split
  all_goals simp
@[simp] theorem State.noticeDiscarded_outer (s : State) (n : Nat) : (s.noticeDiscarded n).outer = s.outer := by
  unfold State.noticeDiscarded
  try dsimp only
  repeat' split
  all_goals simp
@[simp] theorem State.supervisorIndication_outer (s : State) (b : Bool) : (s.supervisorIndication b).outer = s.outer := by
  unfold State.supervisorIndication
  try dsimp only
  repeat' split
  all_goals simp
@[simp] theorem State.freeClasses_outer (s : State) (l : List Entry) : (s.freeClasses l).outer = s.outer := by
  induction l generalizing s with
  | nil => rfl
  | cons h r ih =>
    unfold State.freeClasses
    try dsimp only
    all_goals simp [ih]
@[simp] theorem State.acknowledge_outer (s : State) (o : AckOrder) : (s.acknowledge o).outer = s.outer := by
  unfold State.acknowledge
  try dsimp only
  repeat' split
  all_goals simp
@[simp] theorem State.discardNotice_outer (s : State) (f : QueuedFrame) : (s.discardNotice f).outer = s.outer := by
  unfold State.discardNotice
  try dsimp only
  repeat' split
  all_goals simp
@[simp] theorem State.completionNotice_outer (s : State) (f : QueuedFrame) : (s.completionNotice f).outer = s.outer := by
  unfold State.completionNotice
  try dsimp only
  repeat' split
  all_goals simp
@[simp] theorem State.offerTrip_outer (s : State) : (s.offerTrip).outer = s.outer := by
  unfold State.offerTrip
  try dsimp only
  repeat' split
  all_goals simp
@[simp] theorem State.offerYaw_outer (s : State) (k : Kind) (l : List HeldYaw) : (s.offerYaw k l).outer = s.outer := by
  induction l generalizing s with
  | nil => rfl
  | cons h r ih =>
    unfold State.offerYaw
    try dsimp only
    repeat' split
    all_goals simp [ih]
@[simp] theorem State.offerPump_outer (s : State) : (s.offerPump).outer = s.outer := by
  unfold State.offerPump
  try dsimp only
  repeat' split
  all_goals simp
@[simp] theorem State.offerStatus_outer (s : State) : (s.offerStatus).outer = s.outer := by
  unfold State.offerStatus
  try dsimp only
  repeat' split
  all_goals simp
@[simp] theorem State.offerNotices_outer (s : State) (l : List HeldNotice) : (s.offerNotices l).outer = s.outer := by
  induction l generalizing s with
  | nil => rfl
  | cons h r ih =>
    unfold State.offerNotices
    try dsimp only
    repeat' split
    all_goals simp [ih]
@[simp] theorem State.placeFree_outer (s : State) : (s.placeFree).outer = s.outer := by
  unfold State.placeFree
  try dsimp only
  all_goals simp
@[simp] theorem State.requestUrgent_outer (s : State) (k : Kind) (p : List Byte) : (s.requestUrgent k p).1.outer = s.outer := by
  unfold State.requestUrgent
  try dsimp only
  repeat' split
  all_goals simp
@[simp] theorem State.drive_outer (s : State) (st : StringState) (v : Nat) : (s.drive st v).outer = s.outer := by
  unfold State.drive
  try dsimp only
  repeat' split
  all_goals simp
@[simp] theorem State.requestTrip_outer (s : State) (c : TripCause) : (s.requestTrip c).outer = s.outer := by
  unfold State.requestTrip
  try dsimp only
  repeat' split
  all_goals simp
@[simp] theorem State.raiseCause_outer (s : State) (c : Option (Code × Int)) : (s.raiseCause c).outer = s.outer := by
  unfold State.raiseCause
  try dsimp only
  repeat' split
  all_goals simp
@[simp] theorem State.trip_outer (s : State) (c : TripCause) (r : Option (Code × Int)) : (s.trip c r).outer = s.outer := by
  unfold State.trip
  try dsimp only
  repeat' split
  all_goals simp
@[simp] theorem State.enterSync_outer (s : State) : (s.enterSync).outer = s.outer := by
  unfold State.enterSync
  try dsimp only
  repeat' split
  all_goals simp
@[simp] theorem State.modulatorTrip_outer (s : State) : (s.modulatorTrip).outer = s.outer := by
  unfold State.modulatorTrip
  try dsimp only
  all_goals simp
@[simp] theorem State.enterPrecharge_outer (s : State) : (s.enterPrecharge).outer = s.outer := by
  unfold State.enterPrecharge
  try dsimp only
  repeat' split
  all_goals simp
@[simp] theorem State.startTest_outer (s : State) : (s.startTest).outer = s.outer := by
  unfold State.startTest
  try dsimp only
  repeat' split
  all_goals simp
@[simp] theorem State.enterOff_outer (s : State) : (s.enterOff).outer = s.outer := by
  unfold State.enterOff
  try dsimp only
  all_goals simp
@[simp] theorem State.cutSetpoint_outer (s : State) : (s.cutSetpoint).outer = s.outer := by
  unfold State.cutSetpoint
  try dsimp only
  repeat' split
  all_goals simp
@[simp] theorem State.respondToLimit_outer (s : State) : (s.respondToLimit).outer = s.outer := by
  unfold State.respondToLimit
  try dsimp only
  repeat' split
  all_goals simp
@[simp] theorem State.formLimit_outer (s : State) : (s.formLimit).outer = s.outer := by
  unfold State.formLimit
  try dsimp only
  repeat' split
  all_goals simp
@[simp] theorem State.stcDerate_outer (s : State) (e : Nat) : (s.stcDerate e).outer = s.outer := by
  unfold State.stcDerate
  try dsimp only
  all_goals simp
@[simp] theorem State.stcFlow_outer (s : State) (f : FlowState) : (s.stcFlow f).outer = s.outer := by
  unfold State.stcFlow
  try dsimp only
  all_goals simp
@[simp] theorem State.tempTest_outer (s : State) (v : Option Int) : (s.tempTest v).outer = s.outer := by
  unfold State.tempTest
  try dsimp only
  repeat' split
  all_goals simp
@[simp] theorem State.stcTheta_outer (s : State) (v : Option Int) : (s.stcTheta v).outer = s.outer := by
  unfold State.stcTheta
  try dsimp only
  all_goals simp
@[simp] theorem State.stcPermit_outer (s : State) (b : Bool) : (s.stcPermit b).outer = s.outer := by
  unfold State.stcPermit
  try dsimp only
  repeat' split
  all_goals simp
@[simp] theorem State.stcTripRequest_outer (s : State) : (s.stcTripRequest).outer = s.outer := by
  unfold State.stcTripRequest
  try dsimp only
  all_goals simp
@[simp] theorem State.stcLatchOn_outer (s : State) : (s.stcLatchOn).outer = s.outer := by
  unfold State.stcLatchOn
  try dsimp only
  repeat' split
  all_goals simp
@[simp] theorem State.stcLatch_outer (s : State) (b : Bool) : (s.stcLatch b).outer = s.outer := by
  unfold State.stcLatch
  try dsimp only
  repeat' split
  all_goals simp
@[simp] theorem State.shareInRun_outer (s : State) : (s.shareInRun).outer = s.outer := by
  unfold State.shareInRun
  try dsimp only
  repeat' split
  all_goals simp
@[simp] theorem State.shareInStopping_outer (s : State) : (s.shareInStopping).outer = s.outer := by
  unfold State.shareInStopping
  try dsimp only
  repeat' split
  all_goals simp
@[simp] theorem State.shareRound_outer (s : State) : (s.shareRound).outer = s.outer := by
  unfold State.shareRound
  try dsimp only
  repeat' split
  all_goals simp
@[simp] theorem State.markSeen_outer (s : State) : (s.markSeen).outer = s.outer := by
  unfold State.markSeen
  try dsimp only
  repeat' split
  all_goals simp
@[simp] theorem State.positionVote_outer (s : State) : (s.positionVote).outer = s.outer := by
  unfold State.positionVote
  try dsimp only
  repeat' split
  all_goals simp
@[simp] theorem State.enterBraking_outer (s : State) : (s.enterBraking).outer = s.outer := by
  unfold State.enterBraking
  try dsimp only
  repeat' split
  all_goals simp
@[simp] theorem State.pathClockwise_outer (s : State) (p : Int) : (s.pathClockwise p).2.outer = s.outer := by
  unfold State.pathClockwise
  try dsimp only
  repeat' split
  all_goals simp
@[simp] theorem State.requestYaw_outer (s : State) (k : Kind) (r : Ref) (p : List Byte) : (s.requestYaw k r p).outer = s.outer := by
  unfold State.requestYaw
  try dsimp only
  repeat' split
  all_goals simp
@[simp] theorem State.requestAnswer_outer (s : State) (r : Ref) (a : Answer) (e : Refusing) : (s.requestAnswer r a e).outer = s.outer := by
  unfold State.requestAnswer
  try dsimp only
  all_goals simp
@[simp] theorem State.haltParticipant_outer (s : State) : (s.haltParticipant).outer = s.outer := by
  unfold State.haltParticipant
  try dsimp only
  repeat' split
  all_goals simp
@[simp] theorem State.takeHalt_outer (s : State) (r : Ref) : (s.takeHalt r).outer = s.outer := by
  unfold State.takeHalt
  try dsimp only
  repeat' split
  all_goals simp
@[simp] theorem State.ownHalt_outer (s : State) (r : Ref) (e : HaltReason) : (s.ownHalt r e).outer = s.outer := by
  unfold State.ownHalt
  try dsimp only
  all_goals simp
@[simp] theorem State.haltMove_outer (s : State) (e : HaltReason) : (s.haltMove e).outer = s.outer := by
  unfold State.haltMove
  try dsimp only
  repeat' split
  all_goals simp
@[simp] theorem State.haltProposal_outer (s : State) (e : HaltReason) : (s.haltProposal e).outer = s.outer := by
  unfold State.haltProposal
  try dsimp only
  repeat' split
  all_goals simp
@[simp] theorem State.takeDrive_outer (s : State) : (s.takeDrive).outer = s.outer := by
  unfold State.takeDrive
  try dsimp only
  repeat' split
  all_goals simp
@[simp] theorem State.startMotion_outer (s : State) (r : Proposal) : (s.startMotion r).outer = s.outer := by
  unfold State.startMotion
  try dsimp only
  repeat' split
  all_goals simp
@[simp] theorem State.joinReleased_outer (s : State) (n : Station) : (s.joinReleased n).outer = s.outer := by
  unfold State.joinReleased
  try dsimp only
  repeat' split
  all_goals simp
@[simp] theorem State.brakesReleased_outer (s : State) : (s.brakesReleased).outer = s.outer := by
  unfold State.brakesReleased
  try dsimp only
  repeat' split
  all_goals simp
@[simp] theorem State.enterReleasing_outer (s : State) : (s.enterReleasing).outer = s.outer := by
  unfold State.enterReleasing
  try dsimp only
  repeat' split
  all_goals simp
@[simp] theorem State.takeDecision_outer (s : State) (r : Proposal) : (s.takeDecision r).outer = s.outer := by
  unfold State.takeDecision
  try dsimp only
  repeat' split
  all_goals simp
@[simp] theorem State.enterAnswer_outer (s : State) (r : Proposal) (n : Station) (a : Reply) : (s.enterAnswer r n a).outer = s.outer := by
  unfold State.enterAnswer
  try dsimp only
  repeat' split
  all_goals simp
@[simp] theorem State.propose_outer (s : State) (p : Plan) : (s.propose p).outer = s.outer := by
  unfold State.propose
  try dsimp only
  repeat' split
  all_goals simp
@[simp] theorem State.answerIdle_outer (s : State) (r : Ref) (p : Int) : (s.answerIdle r p).outer = s.outer := by
  unfold State.answerIdle
  try dsimp only
  repeat' split
  all_goals simp
@[simp] theorem State.answerWithout_outer (s : State) (r : Ref) (p : Int) : (s.answerWithout r p).outer = s.outer := by
  unfold State.answerWithout
  try dsimp only
  repeat' split
  all_goals simp
@[simp] theorem State.withdrawAndAnswer_outer (s : State) (r : Ref) (p : Int) : (s.withdrawAndAnswer r p).outer = s.outer := by
  unfold State.withdrawAndAnswer
  try dsimp only
  repeat' split
  all_goals simp
@[simp] theorem State.answerProposal_outer (s : State) (r : Ref) (p : Int) : (s.answerProposal r p).outer = s.outer := by
  unfold State.answerProposal
  try dsimp only
  repeat' split
  all_goals simp
@[simp] theorem State.countRecord_outer (s : State) (cw : Bool) : (s.countRecord cw).outer = s.outer := by
  unfold State.countRecord
  try dsimp only
  repeat' split
  all_goals simp
@[simp] theorem State.countMove_outer (s : State) (cw : Bool) : (s.countMove cw).outer = s.outer := by
  unfold State.countMove
  try dsimp only
  repeat' split
  all_goals simp
@[simp] theorem State.motionTests_outer (s : State) : (s.motionTests).outer = s.outer := by
  unfold State.motionTests
  try dsimp only
  repeat' split
  all_goals simp
@[simp] theorem State.motionStep_outer (s : State) (cw : Bool) : (s.motionStep cw).outer = s.outer := by
  unfold State.motionStep
  try dsimp only
  all_goals simp
@[simp] theorem State.ywcLock_outer (s : State) (b : Bool) : (s.ywcLock b).outer = s.outer := by
  unfold State.ywcLock
  try dsimp only
  repeat' split
  all_goals simp
@[simp] theorem State.ywcPermit_outer (s : State) (b : Bool) : (s.ywcPermit b).outer = s.outer := by
  unfold State.ywcPermit
  try dsimp only
  repeat' split
  all_goals simp
@[simp] theorem State.ywcWind_outer (s : State) (a : Int) : (s.ywcWind a).outer = s.outer := by
  unfold State.ywcWind
  try dsimp only
  repeat' split
  all_goals simp
@[simp] theorem State.requestPump_outer (s : State) : (s.requestPump).outer = s.outer := by
  unfold State.requestPump
  try dsimp only
  repeat' split
  all_goals simp
@[simp] theorem State.changeOwner_outer (s : State) (o : PumpOwner) : (s.changeOwner o).outer = s.outer := by
  unfold State.changeOwner
  try dsimp only
  all_goals simp
@[simp] theorem State.enterRunning_outer (s : State) : (s.enterRunning).outer = s.outer := by
  unfold State.enterRunning
  try dsimp only
  all_goals simp
@[simp] theorem State.enterStarting_outer (s : State) : (s.enterStarting).outer = s.outer := by
  unfold State.enterStarting
  try dsimp only
  repeat' split
  all_goals simp
@[simp] theorem State.holdStart_outer (s : State) : (s.holdStart).outer = s.outer := by
  unfold State.holdStart
  try dsimp only
  repeat' split
  all_goals simp
@[simp] theorem State.startTests_outer (s : State) : (s.startTests).outer = s.outer := by
  unfold State.startTests
  try dsimp only
  repeat' split
  all_goals simp
@[simp] theorem State.bothRunningTest_outer (s : State) : (s.bothRunningTest).outer = s.outer := by
  unfold State.bothRunningTest
  try dsimp only
  repeat' split
  all_goals simp
@[simp] theorem State.outgoingTest_outer (s : State) : (s.outgoingTest).outer = s.outer := by
  unfold State.outgoingTest
  try dsimp only
  repeat' split
  all_goals simp
@[simp] theorem State.setFlow_outer (s : State) (f : FlowState) : (s.setFlow f).outer = s.outer := by
  unfold State.setFlow
  try dsimp only
  all_goals simp
@[simp] theorem State.flowTest_outer (s : State) : (s.flowTest).outer = s.outer := by
  unfold State.flowTest
  try dsimp only
  repeat' split
  all_goals simp
@[simp] theorem State.viewTests_outer (s : State) (n : Nat) : (s.viewTests n).outer = s.outer := by
  induction n generalizing s with
  | zero => rfl
  | succ n ih =>
    unfold State.viewTests
    try dsimp only
    repeat' split
    all_goals simp [ih]
@[simp] theorem State.viewChanged_outer (s : State) : (s.viewChanged).outer = s.outer := by
  unfold State.viewChanged
  try dsimp only
  all_goals simp
@[simp] theorem State.failPump_outer (s : State) (c : Int) : (s.failPump c).outer = s.outer := by
  unfold State.failPump
  try dsimp only
  repeat' split
  all_goals simp
@[simp] theorem State.setView_outer (s : State) (p : Pump) (v : PumpView) : (s.setView p v).outer = s.outer := by
  unfold State.setView
  try dsimp only
  repeat' split
  all_goals simp
@[simp] theorem State.takeView_outer (s : State) (f : PumpFields) (n : Station) : (s.takeView f n).outer = s.outer := by
  unfold State.takeView
  try dsimp only
  repeat' split
  all_goals simp
@[simp] theorem State.handoverRequest_outer (s : State) (f : PumpFields) : (s.handoverRequest f).outer = s.outer := by
  unfold State.handoverRequest
  try dsimp only
  repeat' split
  all_goals simp
@[simp] theorem State.disagreeTest_outer (s : State) (v : Vote) : (s.disagreeTest v).outer = s.outer := by
  unfold State.disagreeTest
  try dsimp only
  repeat' split
  all_goals simp
@[simp] theorem State.supplyTest_outer (s : State) (v : Vote) (n : Nat) : (s.supplyTest v n).outer = s.outer := by
  unfold State.supplyTest
  try dsimp only
  repeat' split
  all_goals simp
@[simp] theorem State.switchFan_outer (s : State) (i : Fin 3) (b : Bool) : (s.switchFan i b).outer = s.outer := by
  unfold State.switchFan
  try dsimp only
  repeat' split
  all_goals simp
@[simp] theorem State.applyDuty_outer (s : State) : (s.applyDuty).outer = s.outer := by
  unfold State.applyDuty
  try dsimp only
  repeat' split
  all_goals simp
@[simp] theorem State.fansOff_outer (s : State) : (s.fansOff).outer = s.outer := by
  unfold State.fansOff
  try dsimp only
  all_goals simp
@[simp] theorem State.setStages_outer (s : State) (n : Nat) : (s.setStages n).outer = s.outer := by
  unfold State.setStages
  try dsimp only
  repeat' split
  all_goals simp
@[simp] theorem State.raiseStages_outer (s : State) : (s.raiseStages).outer = s.outer := by
  unfold State.raiseStages
  try dsimp only
  repeat' split
  all_goals simp
@[simp] theorem State.stepStages_outer (s : State) : (s.stepStages).outer = s.outer := by
  unfold State.stepStages
  try dsimp only
  repeat' split
  all_goals simp
@[simp] theorem State.setCover_outer (s : State) : (s.setCover).outer = s.outer := by
  unfold State.setCover
  try dsimp only
  repeat' split
  all_goals simp
@[simp] theorem State.rivalTest_outer (s : State) : (s.rivalTest).outer = s.outer := by
  unfold State.rivalTest
  try dsimp only
  repeat' split
  all_goals simp
@[simp] theorem State.indicate_outer (s : State) : (s.indicate).outer = s.outer := by
  unfold State.indicate
  try dsimp only
  repeat' split
  all_goals simp
@[simp] theorem State.removed_outer (s : State) (e : Entry) : (s.removed e).outer = s.outer := by
  unfold State.removed
  try dsimp only
  repeat' split
  all_goals simp
@[simp] theorem State.removedIf_outer (s : State) (e : Option Entry) : (s.removedIf e).outer = s.outer := by
  unfold State.removedIf
  try dsimp only
  repeat' split
  all_goals simp
@[simp] theorem State.makeEntry_outer (s : State) (c : Code) (v : Int) : (s.makeEntry c v).outer = s.outer := by
  unfold State.makeEntry
  try dsimp only
  repeat' split
  all_goals simp
@[simp] theorem State.logCondition_outer (s : State) (c : Code) (v : Int) : (s.logCondition c v).outer = s.outer := by
  unfold State.logCondition
  try dsimp only
  repeat' split
  all_goals simp
@[simp] theorem State.logEvent_outer (s : State) (c : Code) (v : Int) : (s.logEvent c v).outer = s.outer := by
  unfold State.logEvent
  try dsimp only
  repeat' split
  all_goals simp
@[simp] theorem State.takeRaise_outer (s : State) (c : Code) (v : Int) (o : Option Origin) : (s.takeRaise c v o).outer = s.outer := by
  unfold State.takeRaise
  try dsimp only
  repeat' split
  all_goals simp
@[simp] theorem State.takeClear_outer (s : State) (c : Code) : (s.takeClear c).outer = s.outer := by
  unfold State.takeClear
  try dsimp only
  repeat' split
  all_goals simp
@[simp] theorem State.serve_outer (s : State) (r : Request) : (s.serve r).outer = s.outer := by
  unfold State.serve
  try dsimp only
  repeat' split
  all_goals simp
@[simp] theorem State.settleWithin_outer (s : State) (n : Nat) : (s.settleWithin n).outer = s.outer := by
  induction n generalizing s with
  | zero => rfl
  | succ n ih =>
    unfold State.settleWithin
    try dsimp only
    repeat' split
    all_goals simp [ih]
@[simp] theorem State.settle_outer (s : State) : (s.settle).outer = s.outer := by
  unfold State.settle
  try dsimp only
  all_goals simp
@[simp] theorem State.raiseNow_outer (s : State) (c : Code) (v : Int) (o : Option Origin) : (s.raiseNow c v o).outer = s.outer := by
  unfold State.raiseNow
  try dsimp only
  all_goals simp
@[simp] theorem State.clearNow_outer (s : State) (c : Code) : (s.clearNow c).outer = s.outer := by
  unfold State.clearNow
  try dsimp only
  all_goals simp

end Sys2Proof.Machine
end

