-- ==== Sys2Proof/Laws/StringFrame.lean ====
section
/-! SUPPORT. The frame of the STC: which shared operations leave everything of the STC but its held TRIP_NOTICE as it stands. -/

namespace Sys2Proof.Machine

/-- The STC without its held request, which the LIF's offers move. -/
def State.string (s : State) : Stc := { s.stc with heldTrip := none }

@[simp] theorem State.string_update (s : State) (i : Icu) (l : Lif) (p : Ptb) (y : Ywc) (k : Clc) (f : Flu) (v : Levels)
    (d : Differing) (n : Nat) (q : List Instr) : State.string ⟨i, l, p, s.stc, y, k, f, v, d, n, q⟩ = s.string := rfl

@[simp] theorem State.string_held (s : State) (i : Icu) (l : Lif) (p : Ptb) (h : Option (List Byte)) (y : Ywc) (k : Clc)
    (f : Flu) (v : Levels) (d : Differing) (n : Nat) (q : List Instr) :
    State.string ⟨i, l, p, { s.stc with heldTrip := h }, y, k, f, v, d, n, q⟩ = s.string := rfl

@[simp] theorem State.string_ite (c : Prop) [Decidable c] (s t : State) :
    (if c then s else t).string = if c then s.string else t.string := apply_ite State.string c s t

@[simp] theorem State.raise_string (s : State) (code : Code) (v : Int) (o : Option Origin) : (s.raise code v o).string = s.string := rfl
@[simp] theorem State.clear_string (s : State) (code : Code) : (s.clear code).string = s.string := rfl
@[simp] theorem State.drew_string (s : State) : (s.drew).string = s.string := rfl
@[simp] theorem State.setPeer_string (s : State) (n : Station) (e : PeerEntry) : (s.setPeer n e).string = s.string := rfl
@[simp] theorem State.enqueue_string (s : State) (k : Kind) (p : List Byte) : (s.enqueue k p).string = s.string := rfl
@[simp] theorem State.noteHolders_string (s : State) : (s.noteHolders).string = s.string := rfl
@[simp] theorem State.testPressure_string (s : State) : (s.testPressure).string = s.string := rfl
@[simp] theorem State.stopRepeat_string (s : State) (c : FaultClass) : (s.stopRepeat c).string = s.string := rfl
@[simp] theorem State.dropHeldNotice_string (s : State) (n : Nat) : (s.dropHeldNotice n).string = s.string := rfl
@[simp] theorem State.dropStaleHeld_string (s : State) : (s.dropStaleHeld).string = s.string := rfl
@[simp] theorem State.setLog_string (s : State) (l : List Entry) : (s.setLog l).string = s.string := rfl
@[simp] theorem State.countStep_string (s : State) (cw : Bool) : (s.countStep cw).string = s.string := rfl
@[simp] theorem State.setDisagree_string (s : State) (v : Bool) : (s.setDisagree v).string = s.string := rfl
@[simp] theorem State.participate_string (s : State) (p : Participant) (w : Bool) : (s.participate p w).string = s.string := rfl
@[simp] theorem State.setProposal_string (s : State) (r : Option Proposal) : (s.setProposal r).string = s.string := rfl
@[simp] theorem State.enterIdle_string (s : State) : (s.enterIdle).string = s.string := rfl
@[simp] theorem State.startHoldoff_string (s : State) : (s.startHoldoff).string = s.string := rfl
@[simp] theorem State.clearProposal_string (s : State) : (s.clearProposal).string = s.string := rfl
@[simp] theorem State.emptyWindow_string (s : State) : (s.emptyWindow).string = s.string := rfl
@[simp] theorem State.setOwner_string (s : State) (o : PumpOwner) : (s.setOwner o).string = s.string := rfl
@[simp] theorem State.loadDuty_string (s : State) : (s.loadDuty).string = s.string := rfl
@[simp] theorem State.clcLatch_string (s : State) (on : Bool) : (s.clcLatch on).string = s.string := rfl
@[simp] theorem State.readSupply_string (s : State) (w : BitVec 12) : (s.readSupply w).string = s.string := rfl
@[simp] theorem State.formHeat_string (s : State) : (s.formHeat).string = s.string := rfl
@[simp] theorem State.setMismatch_string (s : State) (v : Bool) : (s.setMismatch v).string = s.string := rfl
@[simp] theorem State.takeTripNotice_string (s : State) (n : Station) : (s.takeTripNotice n).string = s.string := rfl
@[simp] theorem State.lifConfigured_string (s : State) : (s.lifConfigured).string = s.string := rfl
@[simp] theorem State.setAssembly_string (s : State) (a : Assembly) : (s.setAssembly a).string = s.string := rfl
@[simp] theorem State.placeStatus_string (s : State) (p : List Byte) : (s.placeStatus p).string = s.string := rfl
@[simp] theorem State.replaceStatus_string (s : State) (p : List Byte) : (s.replaceStatus p).string = s.string := rfl

@[simp] theorem State.request_string (s : State) (k : Kind) (p : List Byte) : (s.request k p).1.string = s.string := by
  unfold State.request
  try dsimp only
  repeat' split
  all_goals simp
@[simp] theorem State.requestNotice_string (s : State) (e : Entry) : (s.requestNotice e).string = s.string := by
  unfold State.requestNotice
  try dsimp only
  repeat' split
  all_goals simp
@[simp] theorem State.announce_string (s : State) (e : Entry) : (s.announce e).string = s.string := by
  unfold State.announce
  try dsimp only
  all_goals simp
@[simp] theorem State.select_string (s : State) : (s.select).string = s.string := by
  unfold State.select
  try dsimp only
  repeat' split
  all_goals simp
@[simp] theorem State.noticeCompleted_string (s : State) (n : Nat) : (s.noticeCompleted n).string = s.string := by
  unfold State.noticeCompleted
  try dsimp only
  repeat' split
  all_goals simp
@[simp] theorem State.noticeDiscarded_string (s : State) (n : Nat) : (s.noticeDiscarded n).string = s.string := by
  unfold State.noticeDiscarded
  try dsimp only
  repeat' split
  all_goals simp
@[simp] theorem State.supervisorIndication_string (s : State) (b : Bool) : (s.supervisorIndication b).string = s.string := by
  unfold State.supervisorIndication Flu.outOfService
  try dsimp only
  repeat' split
  all_goals simp
@[simp] theorem State.freeClasses_string (s : State) (l : List Entry) : (s.freeClasses l).string = s.string := by
  induction l generalizing s with
  | nil => rfl
  | cons h r ih =>
    unfold State.freeClasses
    try dsimp only
    all_goals simp [ih]
@[simp] theorem State.acknowledge_string (s : State) (o : AckOrder) : (s.acknowledge o).string = s.string := by
  unfold State.acknowledge
  try dsimp only
  repeat' split
  all_goals simp
@[simp] theorem State.discardNotice_string (s : State) (f : QueuedFrame) : (s.discardNotice f).string = s.string := by
  unfold State.discardNotice
  try dsimp only
  repeat' split
  all_goals simp
@[simp] theorem State.completionNotice_string (s : State) (f : QueuedFrame) : (s.completionNotice f).string = s.string := by
  unfold State.completionNotice
  try dsimp only
  repeat' split
  all_goals simp
@[simp] theorem State.offerTrip_string (s : State) : (s.offerTrip).string = s.string := by
  unfold State.offerTrip
  try dsimp only
  repeat' split
  all_goals simp
@[simp] theorem State.offerYaw_string (s : State) (k : Kind) (l : List HeldYaw) : (s.offerYaw k l).string = s.string := by
  induction l generalizing s with
  | nil => rfl
  | cons h r ih =>
    unfold State.offerYaw
    try dsimp only
    repeat' split
    all_goals simp [ih]
@[simp] theorem State.offerPump_string (s : State) : (s.offerPump).string = s.string := by
  unfold State.offerPump
  try dsimp only
  repeat' split
  all_goals simp
@[simp] theorem State.offerStatus_string (s : State) : (s.offerStatus).string = s.string := by
  unfold State.offerStatus
  try dsimp only
  repeat' split
  all_goals simp
@[simp] theorem State.offerNotices_string (s : State) (l : List HeldNotice) : (s.offerNotices l).string = s.string := by
  induction l generalizing s with
  | nil => rfl
  | cons h r ih =>
    unfold State.offerNotices
    try dsimp only
    repeat' split
    all_goals simp [ih]
@[simp] theorem State.placeFree_string (s : State) : (s.placeFree).string = s.string := by
  unfold State.placeFree
  try dsimp only
  all_goals simp
@[simp] theorem State.requestUrgent_string (s : State) (k : Kind) (p : List Byte) : (s.requestUrgent k p).1.string = s.string := by
  unfold State.requestUrgent
  try dsimp only
  repeat' split
  all_goals simp
@[simp] theorem State.markSeen_string (s : State) : (s.markSeen).string = s.string := by
  unfold State.markSeen
  try dsimp only
  repeat' split
  all_goals simp
@[simp] theorem State.positionVote_string (s : State) : (s.positionVote).string = s.string := by
  unfold State.positionVote
  try dsimp only
  repeat' split
  all_goals simp
@[simp] theorem State.enterBraking_string (s : State) : (s.enterBraking).string = s.string := by
  unfold State.enterBraking
  try dsimp only
  repeat' split
  all_goals simp
@[simp] theorem State.pathClockwise_string (s : State) (p : Int) : (s.pathClockwise p).2.string = s.string := by
  unfold State.pathClockwise
  try dsimp only
  repeat' split
  all_goals simp
@[simp] theorem State.requestYaw_string (s : State) (k : Kind) (r : Ref) (p : List Byte) : (s.requestYaw k r p).string = s.string := by
  unfold State.requestYaw
  try dsimp only
  repeat' split
  all_goals simp
@[simp] theorem State.requestAnswer_string (s : State) (r : Ref) (a : Answer) (e : Refusing) : (s.requestAnswer r a e).string = s.string := by
  unfold State.requestAnswer
  try dsimp only
  all_goals simp
@[simp] theorem State.haltParticipant_string (s : State) : (s.haltParticipant).string = s.string := by
  unfold State.haltParticipant
  try dsimp only
  repeat' split
  all_goals simp
@[simp] theorem State.takeHalt_string (s : State) (r : Ref) : (s.takeHalt r).string = s.string := by
  unfold State.takeHalt
  try dsimp only
  repeat' split
  all_goals simp
@[simp] theorem State.ownHalt_string (s : State) (r : Ref) (e : HaltReason) : (s.ownHalt r e).string = s.string := by
  unfold State.ownHalt
  try dsimp only
  all_goals simp
@[simp] theorem State.haltMove_string (s : State) (e : HaltReason) : (s.haltMove e).string = s.string := by
  unfold State.haltMove
  try dsimp only
  repeat' split
  all_goals simp
@[simp] theorem State.haltProposal_string (s : State) (e : HaltReason) : (s.haltProposal e).string = s.string := by
  unfold State.haltProposal
  try dsimp only
  repeat' split
  all_goals simp
@[simp] theorem State.takeDrive_string (s : State) : (s.takeDrive).string = s.string := by
  unfold State.takeDrive
  try dsimp only
  repeat' split
  all_goals simp
@[simp] theorem State.startMotion_string (s : State) (r : Proposal) : (s.startMotion r).string = s.string := by
  unfold State.startMotion
  try dsimp only
  repeat' split
  all_goals simp
@[simp] theorem State.joinReleased_string (s : State) (n : Station) : (s.joinReleased n).string = s.string := by
  unfold State.joinReleased
  try dsimp only
  repeat' split
  all_goals simp
@[simp] theorem State.brakesReleased_string (s : State) : (s.brakesReleased).string = s.string := by
  unfold State.brakesReleased
  try dsimp only
  repeat' split
  all_goals simp
@[simp] theorem State.enterReleasing_string (s : State) : (s.enterReleasing).string = s.string := by
  unfold State.enterReleasing
  try dsimp only
  repeat' split
  all_goals simp
@[simp] theorem State.takeDecision_string (s : State) (r : Proposal) : (s.takeDecision r).string = s.string := by
  unfold State.takeDecision
  try dsimp only
  repeat' split
  all_goals simp
@[simp] theorem State.enterAnswer_string (s : State) (r : Proposal) (n : Station) (a : Reply) : (s.enterAnswer r n a).string = s.string := by
  unfold State.enterAnswer
  try dsimp only
  repeat' split
  all_goals simp
@[simp] theorem State.propose_string (s : State) (p : Plan) : (s.propose p).string = s.string := by
  unfold State.propose
  try dsimp only
  repeat' split
  all_goals simp
@[simp] theorem State.answerIdle_string (s : State) (r : Ref) (p : Int) : (s.answerIdle r p).string = s.string := by
  unfold State.answerIdle
  try dsimp only
  repeat' split
  all_goals simp
@[simp] theorem State.answerWithout_string (s : State) (r : Ref) (p : Int) : (s.answerWithout r p).string = s.string := by
  unfold State.answerWithout
  try dsimp only
  repeat' split
  all_goals simp
@[simp] theorem State.withdrawAndAnswer_string (s : State) (r : Ref) (p : Int) : (s.withdrawAndAnswer r p).string = s.string := by
  unfold State.withdrawAndAnswer
  try dsimp only
  repeat' split
  all_goals simp
@[simp] theorem State.answerProposal_string (s : State) (r : Ref) (p : Int) : (s.answerProposal r p).string = s.string := by
  unfold State.answerProposal
  try dsimp only
  repeat' split
  all_goals simp
@[simp] theorem State.countRecord_string (s : State) (cw : Bool) : (s.countRecord cw).string = s.string := by
  unfold State.countRecord
  try dsimp only
  repeat' split
  all_goals simp
@[simp] theorem State.countMove_string (s : State) (cw : Bool) : (s.countMove cw).string = s.string := by
  unfold State.countMove
  try dsimp only
  repeat' split
  all_goals simp
@[simp] theorem State.motionTests_string (s : State) : (s.motionTests).string = s.string := by
  unfold State.motionTests
  try dsimp only
  repeat' split
  all_goals simp
@[simp] theorem State.motionStep_string (s : State) (cw : Bool) : (s.motionStep cw).string = s.string := by
  unfold State.motionStep
  try dsimp only
  all_goals simp
@[simp] theorem State.ywcLock_string (s : State) (b : Bool) : (s.ywcLock b).string = s.string := by
  unfold State.ywcLock
  try dsimp only
  repeat' split
  all_goals simp
@[simp] theorem State.ywcPermit_string (s : State) (b : Bool) : (s.ywcPermit b).string = s.string := by
  unfold State.ywcPermit
  try dsimp only
  repeat' split
  all_goals simp
@[simp] theorem State.ywcWind_string (s : State) (a : Int) : (s.ywcWind a).string = s.string := by
  unfold State.ywcWind
  try dsimp only
  repeat' split
  all_goals simp
@[simp] theorem State.requestPump_string (s : State) : (s.requestPump).string = s.string := by
  unfold State.requestPump
  try dsimp only
  repeat' split
  all_goals simp
@[simp] theorem State.changeOwner_string (s : State) (o : PumpOwner) : (s.changeOwner o).string = s.string := by
  unfold State.changeOwner
  try dsimp only
  all_goals simp
@[simp] theorem State.enterRunning_string (s : State) : (s.enterRunning).string = s.string := by
  unfold State.enterRunning
  try dsimp only
  all_goals simp
@[simp] theorem State.enterStarting_string (s : State) : (s.enterStarting).string = s.string := by
  unfold State.enterStarting
  try dsimp only
  repeat' split
  all_goals simp
@[simp] theorem State.holdStart_string (s : State) : (s.holdStart).string = s.string := by
  unfold State.holdStart
  try dsimp only
  repeat' split
  all_goals simp
@[simp] theorem State.startTests_string (s : State) : (s.startTests).string = s.string := by
  unfold State.startTests
  try dsimp only
  repeat' split
  all_goals simp
@[simp] theorem State.bothRunningTest_string (s : State) : (s.bothRunningTest).string = s.string := by
  unfold State.bothRunningTest
  try dsimp only
  repeat' split
  all_goals simp
@[simp] theorem State.outgoingTest_string (s : State) : (s.outgoingTest).string = s.string := by
  unfold State.outgoingTest
  try dsimp only
  repeat' split
  all_goals simp
@[simp] theorem State.failPump_string (s : State) (c : Int) : (s.failPump c).string = s.string := by
  unfold State.failPump
  try dsimp only
  repeat' split
  all_goals simp
@[simp] theorem State.setView_string (s : State) (p : Pump) (v : PumpView) : (s.setView p v).string = s.string := by
  unfold State.setView
  try dsimp only
  repeat' split
  all_goals simp
@[simp] theorem State.takeView_string (s : State) (f : PumpFields) (n : Station) : (s.takeView f n).string = s.string := by
  unfold State.takeView
  try dsimp only
  repeat' split
  all_goals simp
@[simp] theorem State.handoverRequest_string (s : State) (f : PumpFields) : (s.handoverRequest f).string = s.string := by
  unfold State.handoverRequest
  try dsimp only
  repeat' split
  all_goals simp
@[simp] theorem State.disagreeTest_string (s : State) (v : Vote) : (s.disagreeTest v).string = s.string := by
  unfold State.disagreeTest
  try dsimp only
  repeat' split
  all_goals simp
@[simp] theorem State.supplyTest_string (s : State) (v : Vote) (n : Nat) : (s.supplyTest v n).string = s.string := by
  unfold State.supplyTest
  try dsimp only
  repeat' split
  all_goals simp
@[simp] theorem State.switchFan_string (s : State) (i : Fin 3) (b : Bool) : (s.switchFan i b).string = s.string := by
  unfold State.switchFan
  try dsimp only
  repeat' split
  all_goals simp
@[simp] theorem State.applyDuty_string (s : State) : (s.applyDuty).string = s.string := by
  unfold State.applyDuty
  try dsimp only
  repeat' split
  all_goals simp
@[simp] theorem State.fansOff_string (s : State) : (s.fansOff).string = s.string := by
  unfold State.fansOff
  try dsimp only
  all_goals simp
@[simp] theorem State.setStages_string (s : State) (n : Nat) : (s.setStages n).string = s.string := by
  unfold State.setStages
  try dsimp only
  repeat' split
  all_goals simp
@[simp] theorem State.raiseStages_string (s : State) : (s.raiseStages).string = s.string := by
  unfold State.raiseStages
  try dsimp only
  repeat' split
  all_goals simp
@[simp] theorem State.stepStages_string (s : State) : (s.stepStages).string = s.string := by
  unfold State.stepStages
  try dsimp only
  repeat' split
  all_goals simp
@[simp] theorem State.setCover_string (s : State) : (s.setCover).string = s.string := by
  unfold State.setCover
  try dsimp only
  repeat' split
  all_goals simp
@[simp] theorem State.rivalTest_string (s : State) : (s.rivalTest).string = s.string := by
  unfold State.rivalTest
  try dsimp only
  repeat' split
  all_goals simp
@[simp] theorem State.removed_string (s : State) (e : Entry) : (s.removed e).string = s.string := by
  unfold State.removed
  try dsimp only
  repeat' split
  all_goals simp
@[simp] theorem State.removedIf_string (s : State) (e : Option Entry) : (s.removedIf e).string = s.string := by
  unfold State.removedIf
  try dsimp only
  repeat' split
  all_goals simp
@[simp] theorem State.makeEntry_string (s : State) (c : Code) (v : Int) : (s.makeEntry c v).string = s.string := by
  unfold State.makeEntry
  try dsimp only
  repeat' split
  all_goals simp
@[simp] theorem State.logCondition_string (s : State) (c : Code) (v : Int) : (s.logCondition c v).string = s.string := by
  unfold State.logCondition
  try dsimp only
  repeat' split
  all_goals simp
@[simp] theorem State.logEvent_string (s : State) (c : Code) (v : Int) : (s.logEvent c v).string = s.string := by
  unfold State.logEvent
  try dsimp only
  repeat' split
  all_goals simp

end Sys2Proof.Machine
end

