-- ==== Sys2Proof/Laws/Settle.lean ====
section
/-! SUPPORT. What the taking of requests (10 R166) comes to: it ends, the FLU being left with none, and it keeps every
member of the condition set that no clear request names. -/

namespace Sys2Proof.Machine

/-- Whether a request is a raise that the string makes while it starts and trips of itself. -/
def Request.isTrip : Request → Bool
  | .raised .modulatorFault _ _ | .raised .repeatedTrips _ _ => true
  | _ => false

/-- Whether what a trip raises, if anything, is MODULATOR_FAULT. -/
def raisesModulator : Option (Code × Int) → Bool
  | none => true
  | some (code, _) => code == .modulatorFault

/-- How many requests the string can still hand the FLU within the taking of requests: it may start and trip once, and it
leaves TRIPPED and LOCKED at no request. -/
def StringState.spare : StringState → Nat
  | .tripped | .locked => 0
  | .off | .precharge | .sync | .run | .stopping => 3

/-- Work that hands the FLU raise requests only, within what the string has to spare. -/
def State.Onward (s t : State) : Prop :=
  ∃ l : List Request, t.requests = s.requests ++ l ∧ (∀ r ∈ l, r.isTrip = true) ∧
    l.length + t.stc.state.spare ≤ s.stc.state.spare

theorem State.Onward.refl (s : State) : s.Onward s := ⟨[], by simp, by simp, by simp⟩

theorem State.Onward.of_eq {s t : State} (hr : t.requests = s.requests) (hs : t.stc.state.spare ≤ s.stc.state.spare) :
    s.Onward t := ⟨[], by simp [hr], by simp, by simpa using hs⟩

theorem State.Onward.trans {s t u : State} (h : s.Onward t) (k : t.Onward u) : s.Onward u := by
  obtain ⟨l, h1, h2, h3⟩ := h
  obtain ⟨m, k1, k2, k3⟩ := k
  refine ⟨l ++ m, by rw [k1, h1, List.append_assoc], ?_, ?_⟩
  · intro r hr
    rcases List.mem_append.mp hr with hr | hr
    · exact h2 r hr
    · exact k2 r hr
  · rw [List.length_append]
    omega

/-- A state change that keeps requests and string state does not matter to what follows it. -/
theorem State.Onward.from {s s' t : State} (hr : s'.requests = s.requests) (hs : s'.stc.state = s.stc.state)
    (h : s'.Onward t) : s.Onward t := (State.Onward.of_eq hr (Nat.le_of_eq (by rw [hs]))).trans h

theorem State.state_of_string {s t : State} (h : t.string = s.string) : t.stc.state = s.stc.state := by
  have k := congrArg Stc.state h
  exact k

/-! ## The string's work -/

theorem State.drive_state (s : State) (st : StringState) (v : Nat) : (s.drive st v).stc.state = st := by
  unfold State.drive
  dsimp only
  split <;> rfl

theorem State.requestTrip_state (s : State) (c : TripCause) : (s.requestTrip c).stc.state = s.stc.state :=
  State.state_of_string (by
    unfold State.requestTrip
    try dsimp only
    repeat' split
    all_goals simp)

theorem State.raiseCause_state (s : State) (c : Option (Code × Int)) : (s.raiseCause c).stc.state = s.stc.state := by
  unfold State.raiseCause
  split <;> rfl

theorem State.raiseCause_requests (s : State) (c : Option (Code × Int)) (hc : raisesModulator c = true) :
    ∃ l : List Request, (s.raiseCause c).requests = s.requests ++ l ∧ (∀ r ∈ l, r.isTrip = true) ∧ l.length ≤ 1 := by
  unfold State.raiseCause
  split
  · rename_i code v
    have : code = .modulatorFault := by simpa [raisesModulator] using hc
    subst this
    exact ⟨[.raised _ _ none], rfl, by simp [Request.isTrip], by simp⟩
  · exact ⟨[], by simp, by simp, by simp⟩

theorem State.trip_state (s : State) (cause : TripCause) (raised : Option (Code × Int))
    (h : s.stc.state.isActive = true) :
    (s.trip cause raised).stc.state =
      if 3 ≤ (tripHistory s.flu.seconds s.stc.history).length then .locked else .tripped := by
  unfold State.trip
  simp only [h, if_true]
  split
  · rename_i hl
    simp only [State.raise_stc, State.raiseCause_state, State.requestTrip_state]
    simp_all [State.sendLink, State.setSetpoint, State.setString]
  · rename_i hl
    simp only [State.raiseCause_state, State.requestTrip_state]
    simp_all [State.sendLink, State.setSetpoint, State.setString]

theorem State.trip_onward (s : State) (cause : TripCause) (raised : Option (Code × Int))
    (hc : raisesModulator raised = true) : s.Onward (s.trip cause raised) := by
  by_cases h : s.stc.state.isActive = true
  · have hs := s.trip_state cause raised h
    have hspare : s.stc.state.spare = 3 := by cases hq : s.stc.state <;> simp_all [StringState.isActive, StringState.spare]
    have hz : (s.trip cause raised).stc.state.spare = 0 := by rw [hs]; split <;> rfl
    unfold State.Onward
    rw [hz, hspare]
    unfold State.trip
    simp only [h, if_true]
    generalize hx : State.requestTrip _ cause = x
    have hr : x.requests = s.requests := by rw [← hx]; simp
    obtain ⟨l, h1, h2, h3⟩ := x.raiseCause_requests raised hc
    split
    · refine ⟨l ++ [.raised .repeatedTrips (historySpan (tripHistory s.flu.seconds s.stc.history)) none], ?_, ?_, ?_⟩
      · have hy : ∀ (y : State) (v : Int),
            (y.raise .repeatedTrips v).requests = y.requests ++ [.raised .repeatedTrips v none] := fun _ _ => rfl
        rw [hy, h1, hr, List.append_assoc]
      · intro r hm
        rcases List.mem_append.mp hm with hm | hm
        · exact h2 r hm
        · simp only [List.mem_singleton] at hm
          subst hm
          rfl
      · simp only [List.length_append, List.length_singleton]
        omega
    · exact ⟨l, by rw [h1, hr], h2, by omega⟩
  · unfold State.trip
    simp only [h]
    exact State.Onward.refl s

theorem State.modulatorTrip_onward (s : State) : s.Onward s.modulatorTrip := s.trip_onward _ _ rfl

theorem State.enterSync_onward (s : State) (h : s.stc.state.spare = 3) : s.Onward s.enterSync := by
  refine State.Onward.of_eq (by simp) ?_
  rw [h]
  cases s.enterSync.stc.state <;> simp [StringState.spare]

theorem State.enterSync_state (s : State) : s.enterSync.stc.state = .sync ∨ s.enterSync.stc.state = .run := by
  unfold State.enterSync
  dsimp only
  split
  · exact .inr rfl
  · exact .inl (s.drive_state _ _)

theorem State.Onward.ite {s t u : State} (c : Prop) [Decidable c] (ht : s.Onward t) (hu : s.Onward u) :
    s.Onward (if c then t else u) := by
  split <;> assumption

/-- A test whose work goes on from the state it is made in. -/
theorem State.Onward.test {s a : State} (c : Prop) [Decidable c] {f : State → State} (h : s.Onward a)
    (hf : ∀ x : State, x.Onward (f x)) : s.Onward (if c then f a else a) := State.Onward.ite c (h.trans (hf a)) h

theorem State.enterPrecharge_onward (s : State) (h : s.stc.state.spare = 3) : s.Onward s.enterPrecharge := by
  unfold State.enterPrecharge
  dsimp only
  refine State.Onward.test (f := State.modulatorTrip) _ (State.Onward.ite _ (State.Onward.trans ?_
    (State.enterSync_onward _ ?_)) ?_) State.modulatorTrip_onward
  · exact State.Onward.of_eq rfl (by rw [h]; exact Nat.le_refl 3)
  · rfl
  · exact State.Onward.of_eq rfl (by rw [h]; exact Nat.le_refl 3)

theorem State.startTest_onward (s : State) : s.Onward s.startTest := by
  unfold State.startTest
  split
  · rename_i h
    exact s.enterPrecharge_onward (by rw [h.1]; rfl)
  · exact State.Onward.refl s

theorem State.cutSetpoint_state (s : State) : s.cutSetpoint.stc.state = s.stc.state := by
  unfold State.cutSetpoint
  split <;> rfl

theorem State.respondToLimit_onward (s : State) : s.Onward s.respondToLimit := by
  unfold State.respondToLimit
  split
  · exact s.startTest_onward
  · exact State.Onward.of_eq rfl (Nat.le_refl _)
  all_goals exact State.Onward.refl s

theorem State.formLimit_onward (s : State) : s.Onward s.formLimit := by
  unfold State.formLimit
  split
  · dsimp only
    split
    · exact State.Onward.of_eq rfl (Nat.le_refl _)
    · refine State.Onward.trans ?_ (State.respondToLimit_onward _)
      refine State.Onward.of_eq (by simp) ?_
      simp only [State.cutSetpoint_state, Nat.le_refl]
  · exact State.Onward.refl s

theorem State.stcDerate_onward (s : State) (e : Nat) : s.Onward (s.stcDerate e) := by
  unfold State.stcDerate
  refine State.Onward.trans ?_ (State.formLimit_onward _)
  exact State.Onward.of_eq rfl (Nat.le_refl _)

theorem State.stcFlow_onward (s : State) (f : FlowState) : s.Onward (s.stcFlow f) := by
  unfold State.stcFlow
  refine State.Onward.trans (State.Onward.trans ?_ (State.formLimit_onward _)) (State.startTest_onward _)
  exact State.Onward.of_eq rfl (Nat.le_refl _)

theorem State.stcLatch_onward (s : State) (on : Bool) : s.Onward (s.stcLatch on) := by
  unfold State.stcLatch
  split
  · unfold State.stcLatchOn
    dsimp only
    split
    · refine State.Onward.trans ?_ (State.trip_onward _ _ _ rfl)
      exact State.Onward.of_eq rfl (Nat.le_refl _)
    · split
      · rename_i h
        refine State.Onward.of_eq (by simp) ?_
        rw [State.drive_state]
        exact Nat.zero_le _
      · exact State.Onward.of_eq rfl (Nat.le_refl _)
  · exact State.Onward.of_eq rfl (Nat.le_refl _)

/-! ## The taking of a request -/

theorem State.ywcLock_state (s : State) (b : Bool) : (s.ywcLock b).stc.state = s.stc.state :=
  State.state_of_string (by simp)

theorem State.ywcLock_onward (s : State) (b : Bool) : s.Onward (s.ywcLock b) :=
  State.Onward.of_eq (by simp) (Nat.le_of_eq (by rw [State.ywcLock_state]))

theorem State.clcLatch_onward (s : State) (b : Bool) : s.Onward (s.clcLatch b) := State.Onward.of_eq rfl (Nat.le_refl _)

/-- A test whose work goes on from the state it is made in, made the other way round. -/
theorem State.Onward.unless {s a : State} (f : State → State) (c : Prop) [Decidable c] (h : s.Onward a)
    (hf : ∀ x : State, x.Onward (f x)) : s.Onward (if c then a else f a) := State.Onward.ite c h (h.trans (hf a))

theorem State.indicate_onward (s : State) : s.Onward s.indicate := by
  unfold State.indicate
  refine State.Onward.unless (fun x => x.clcLatch _) _ ?_ (fun x => x.clcLatch_onward _)
  refine State.Onward.unless (fun x => x.ywcLock _) _ ?_ (fun x => x.ywcLock_onward _)
  refine State.Onward.unless (fun x => x.stcLatch _) _ ?_ (fun x => x.stcLatch_onward _)
  refine State.Onward.unless (fun x => x.stcDerate _) _ ?_ (fun x => x.stcDerate_onward _)
  exact State.Onward.of_eq rfl (Nat.le_refl _)

theorem State.makeEntry_onward (s : State) (code : Code) (v : Int) : s.Onward (s.makeEntry code v) :=
  State.Onward.of_eq (by simp) (Nat.le_of_eq (by rw [State.state_of_string (s.makeEntry_string code v)]))

theorem State.takeRaise_onward (s : State) (code : Code) (v : Int) (o : Option Origin) : s.Onward (s.takeRaise code v o) := by
  unfold State.takeRaise
  dsimp only
  have hlog : ∀ (c : Prop) [Decidable c] (x : State) (w : Int),
      x.Onward (if c then x.logCondition code w else x.logEvent code w) := fun c _ x w =>
    State.Onward.ite c
      (State.Onward.of_eq (by simp) (Nat.le_of_eq (by rw [State.state_of_string (x.logCondition_string code w)])))
      (State.Onward.of_eq (by simp) (Nat.le_of_eq (by rw [State.state_of_string (x.logEvent_string code w)])))
  refine State.Onward.trans ?_ (hlog _ _ _)
  refine State.Onward.test (f := State.stcTripRequest) _ ?_ (fun x => x.trip_onward _ _ rfl)
  refine State.Onward.ite _ (State.Onward.trans ?_ (State.indicate_onward _)) (State.Onward.refl s)
  exact State.Onward.of_eq rfl (Nat.le_refl _)

theorem State.takeClear_onward (s : State) (code : Code) : s.Onward (s.takeClear code) := by
  unfold State.takeClear
  refine State.Onward.ite _ (State.Onward.refl s) ?_
  dsimp only
  generalize hx : ({ s with flu := { s.flu with members := s.flu.members.filter (fun m => m.code != code) } } : State) = x
  have h1 : s.Onward x := State.Onward.of_eq (by rw [← hx]; rfl) (Nat.le_of_eq (by rw [← hx]))
  exact (h1.trans x.indicate_onward).trans (State.Onward.of_eq rfl (Nat.le_refl _))

theorem State.serve_onward (s : State) (r : Request) : s.Onward (s.serve r) := by
  unfold State.serve
  split
  · exact s.takeRaise_onward _ _ _
  · exact s.takeClear_onward _

/-! ## The taking of all requests -/

/-- A bound on the requests that the FLU takes before none is left. -/
def State.load (s : State) : Nat := s.requests.length + s.stc.state.spare

/-- Once every request is taken, the inbox is empty (10 R166). -/
theorem State.settleWithin_empty (n : Nat) (s : State) (h : s.load ≤ n) : (s.settleWithin n).requests = [] := by
  induction n generalizing s with
  | zero =>
    have : s.requests.length = 0 := by
      unfold State.load at h
      omega
    exact List.eq_nil_of_length_eq_zero this
  | succ n ih =>
    unfold State.settleWithin
    split
    · assumption
    · rename_i r rest hr
      apply ih
      generalize hx : ({ s with flu := { s.flu with inbox := rest } } : State) = x
      have h4 : x.requests = rest := by rw [← hx]; rfl
      have h5 : x.stc.state = s.stc.state := by rw [← hx]
      obtain ⟨l, h1, _, h3⟩ := x.serve_onward r
      have hs : s.requests = r :: rest := hr
      unfold State.load at h ⊢
      rw [h1, h4]
      rw [hs] at h
      rw [h5] at h3
      simp only [List.length_append, List.length_cons] at h ⊢
      omega

theorem State.settle_empty (s : State) (h : s.load ≤ 32) : s.settle.requests = [] := State.settleWithin_empty 32 s h

@[simp] theorem State.settle_of_empty (s : State) (h : s.flu.inbox = []) : s.settle = s := by
  unfold State.settle State.settleWithin
  rw [h]

/-! ## The condition set through the taking of requests -/

theorem State.members_of_standing {s t : State} (h : t.standing = s.standing) : t.flu.members = s.flu.members := by
  have k := congrArg FluStanding.members h
  exact k

theorem State.indicate_members (s : State) : s.indicate.flu.members = s.flu.members := by
  have keep : ∀ (a : State) (c : Prop) [Decidable c] (f : State → State), a.flu.members = s.flu.members →
      (∀ x : State, (f x).standing = x.standing) → (if c then a else f a).flu.members = s.flu.members := by
    intro a c _ f h hf
    split
    · exact h
    · rw [State.members_of_standing (hf a), h]
  unfold State.indicate
  refine keep _ _ (fun x => x.clcLatch _) ?_ (fun x => by simp)
  refine keep _ _ (fun x => x.ywcLock _) ?_ (fun x => by simp)
  refine keep _ _ (fun x => x.stcLatch _) ?_ (fun x => by simp)
  exact keep _ _ (fun x => x.stcDerate _) rfl (fun x => by simp)

@[simp] theorem State.removedIf_standing (s : State) (e : Option Entry) : (s.removedIf e).standing = s.standing := by
  unfold State.removedIf
  split
  · unfold State.removed
    split <;> simp
  · rfl

theorem State.makeEntry_members (s : State) (code : Code) (v : Int) : (s.makeEntry code v).flu.members = s.flu.members := by
  unfold State.makeEntry
  dsimp only
  split
  · rw [State.members_of_standing (State.select_standing _), State.members_of_standing (State.testPressure_standing _),
      State.members_of_standing (State.removedIf_standing _ _), State.members_of_standing (State.removedIf_standing _ _)]
  · rw [State.members_of_standing (State.testPressure_standing _),
      State.members_of_standing (State.removedIf_standing _ _), State.members_of_standing (State.removedIf_standing _ _)]

theorem State.logCondition_members (s : State) (code : Code) (v : Int) :
    (s.logCondition code v).flu.members = s.flu.members := by
  unfold State.logCondition
  split
  · split
    · rw [State.makeEntry_members]
      rfl
    · rfl
  · rw [State.makeEntry_members]

theorem State.logEvent_members (s : State) (code : Code) (v : Int) : (s.logEvent code v).flu.members = s.flu.members := by
  unfold State.logEvent
  split
  · split
    · rfl
    · rw [State.makeEntry_members]
  · rw [State.makeEntry_members]

/-- What a raise makes of the condition set (10 R167). -/
theorem State.takeRaise_members (s : State) (code : Code) (v : Int) (o : Option Origin) :
    (s.takeRaise code v o).flu.members =
      if code.isCondition = true then joinSet code (code.actions o) s.flu.members else s.flu.members := by
  unfold State.takeRaise
  dsimp only
  by_cases h : code.isCondition = true
  · simp only [h, if_true, State.logCondition_members]
    split
    · rw [State.stcTripRequest, State.members_of_standing (State.trip_standing _ _ _), State.indicate_members]
    · rw [State.indicate_members]
  · simp only [h, Bool.false_eq_true, if_false, State.logEvent_members]
    split
    · rw [State.stcTripRequest, State.members_of_standing (State.trip_standing _ _ _)]
    · rfl

theorem State.takeClear_members (s : State) (code : Code) :
    (s.takeClear code).flu.members =
      if (code.isLatched || !inMembers code s.flu.members) = true then s.flu.members
      else s.flu.members.filter (fun m => m.code != code) := by
  unfold State.takeClear
  dsimp only
  split
  · rfl
  · exact State.indicate_members _

theorem inMembers_joinSet (c code : Code) (a : Actions) (ms : List Member) :
    inMembers c (joinSet code a ms) = (code == c || inMembers c ms) := by
  induction ms with
  | nil => simp [joinSet, inMembers]
  | cons m rest ih =>
    unfold joinSet
    split
    · rename_i h
      simp only [inMembers, List.any_cons]
      subst h
      cases hc : (m.code == c) <;> simp
    · simp only [inMembers, List.any_cons] at ih ⊢
      rw [ih]
      cases (m.code == c) <;> cases (code == c) <;> simp

theorem inMembers_filter (c code : Code) (ms : List Member) :
    inMembers c (ms.filter (fun m => m.code != code)) = (inMembers c ms && c != code) := by
  induction ms with
  | nil => simp [inMembers]
  | cons m rest ih =>
    simp only [inMembers] at ih ⊢
    by_cases h : m.code = code
    · have hb : (m.code != code) = false := by simp [h]
      rw [List.filter_cons_of_neg (by simp [hb]), ih, List.any_cons]
      by_cases hc : m.code = c
      · have : c = code := hc.symm.trans h
        simp [this]
      · have : (m.code == c) = false := by simpa using hc
        rw [this, Bool.false_or]
    · have hb : (m.code != code) = true := by simpa using h
      rw [List.filter_cons_of_pos (by simp [hb]), List.any_cons, ih, List.any_cons]
      by_cases hc : m.code = c
      · subst hc
        simp [h]
      · have : (m.code == c) = false := by simpa using hc
        rw [this, Bool.false_or, Bool.false_or]

/-- A member that no request of the inbox clears stays through the taking of them all. -/
theorem State.settleWithin_keeps (c : Code) (n : Nat) (s : State) (hm : inMembers c s.flu.members = true)
    (hr : ∀ r ∈ s.requests, r ≠ .cleared c) : inMembers c (s.settleWithin n).flu.members = true := by
  induction n generalizing s with
  | zero => exact hm
  | succ n ih =>
    unfold State.settleWithin
    split
    · exact hm
    · rename_i r rest hs
      generalize hx : ({ s with flu := { s.flu with inbox := rest } } : State) = x
      have h4 : x.requests = rest := by rw [← hx]; rfl
      have h5 : x.flu.members = s.flu.members := by rw [← hx]
      have hin : s.requests = r :: rest := hs
      rw [hin] at hr
      apply ih
      · unfold State.serve
        split
        · rw [State.takeRaise_members]
          split
          · rw [inMembers_joinSet, h5, hm, Bool.or_true]
          · rw [h5, hm]
        · rename_i code
          rw [State.takeClear_members]
          split
          · rw [h5, hm]
          · rw [inMembers_filter, h5, hm]
            have : code ≠ c := fun h => hr _ List.mem_cons_self (by rw [h])
            simp [Ne.symm this]
      · obtain ⟨l, h1, h2, _⟩ := x.serve_onward r
        rw [h1, h4]
        intro q hq
        rcases List.mem_append.mp hq with hq | hq
        · exact hr q (List.mem_cons_of_mem _ hq)
        · intro h
          have := h2 q hq
          rw [h] at this
          simp [Request.isTrip] at this

/-- A condition code that no request of the inbox raises does not join the set, REPEATED_TRIPS apart. -/
theorem State.settleWithin_absent (c : Code) (hc : c ≠ .repeatedTrips) (hk : c.isCondition = true) (n : Nat) (s : State)
    (hm : inMembers c s.flu.members = false) (hr : ∀ r ∈ s.requests, ∀ v o, r ≠ .raised c v o) :
    inMembers c (s.settleWithin n).flu.members = false := by
  induction n generalizing s with
  | zero => exact hm
  | succ n ih =>
    unfold State.settleWithin
    split
    · exact hm
    · rename_i r rest hs
      generalize hx : ({ s with flu := { s.flu with inbox := rest } } : State) = x
      have h4 : x.requests = rest := by rw [← hx]; rfl
      have h5 : x.flu.members = s.flu.members := by rw [← hx]
      have hin : s.requests = r :: rest := hs
      rw [hin] at hr
      have hrest : ∀ q ∈ rest, ∀ v o, q ≠ .raised c v o := fun q hq => hr q (List.mem_cons_of_mem _ hq)
      obtain ⟨l, h1, h2, _⟩ := x.serve_onward r
      apply ih
      · cases r with
        | raised code v o =>
          have hne : code ≠ c := fun h => hr _ List.mem_cons_self v o (by rw [h])
          show inMembers c (x.takeRaise code v o).flu.members = false
          rw [State.takeRaise_members]
          split
          · rw [inMembers_joinSet, h5, hm]
            simp [hne]
          · rw [h5, hm]
        | cleared code =>
          show inMembers c (x.takeClear code).flu.members = false
          rw [State.takeClear_members]
          split
          · rw [h5, hm]
          · rw [inMembers_filter, h5, hm, Bool.false_and]
      · rw [h1, h4]
        intro q hq v o
        rcases List.mem_append.mp hq with hq | hq
        · exact hrest q hq v o
        · intro h
          have := h2 q hq
          rw [h] at this
          cases c <;> simp_all [Request.isTrip, Code.isCondition]

theorem State.settle_keeps (c : Code) (s : State) (hm : inMembers c s.flu.members = true)
    (hr : ∀ r ∈ s.requests, r ≠ .cleared c) : inMembers c s.settle.flu.members = true :=
  State.settleWithin_keeps c 32 s hm hr

theorem State.settle_absent (c : Code) (hc : c ≠ .repeatedTrips) (hk : c.isCondition = true) (s : State)
    (hm : inMembers c s.flu.members = false) (hr : ∀ r ∈ s.requests, ∀ v o, r ≠ .raised c v o) :
    inMembers c s.settle.flu.members = false := State.settleWithin_absent c hc hk 32 s hm hr

end Sys2Proof.Machine
end

