-- ==== Sys2Proof/Laws/Indications.lean ====
section
/-! SUPPORT. What the taking of requests leaves of the FLU's indications and of what their readers keep (10 R168, R169). -/

namespace Sys2Proof.Machine

/-- Indications depend only on the FLU's standing parts and on what the readers keep. -/
theorem State.Indicated.of_frames {s t : State} (h : s.Indicated) (hs : t.standing = s.standing)
    (hr : t.readers = s.readers) : t.Indicated := by
  have e1 : t.flu.members = s.flu.members := by have k := congrArg FluStanding.members hs; exact k
  have e2 : t.flu.exponent = s.flu.exponent := by have k := congrArg FluStanding.exponent hs; exact k
  have e3 : t.flu.stringLatch = s.flu.stringLatch := by have k := congrArg FluStanding.stringLatch hs; exact k
  have e4 : t.flu.yawLock = s.flu.yawLock := by have k := congrArg FluStanding.yawLock hs; exact k
  have e5 : t.flu.pumpLatch = s.flu.pumpLatch := by have k := congrArg FluStanding.pumpLatch hs; exact k
  have r1 : t.stc.exponent = s.stc.exponent := by have k := congrArg Readers.exponent hr; exact k
  have r2 : t.stc.latch = s.stc.latch := by have k := congrArg Readers.stringLatch hr; exact k
  have r3 : t.ywc.lock = s.ywc.lock := by have k := congrArg Readers.yawLock hr; exact k
  have r4 : t.clc.latch = s.clc.latch := by have k := congrArg Readers.pumpLatch hr; exact k
  unfold State.Indicated at h ⊢
  rw [e1, e2, e3, e4, e5, r1, r2, r3, r4]
  exact h

theorem State.stcDerate_readers (s : State) (e : Nat) : (s.stcDerate e).readers = { s.readers with exponent := e } := by
  unfold State.stcDerate
  rw [State.formLimit_readers]
  rfl

theorem State.stcLatch_readers (s : State) (b : Bool) : (s.stcLatch b).readers = { s.readers with stringLatch := b } := by
  unfold State.stcLatch
  split
  · rename_i h
    subst h
    unfold State.stcLatchOn
    dsimp only
    split
    · rw [State.trip_readers]
      rfl
    · split
      · rw [State.drive_readers]
        rfl
      · rfl
  · rename_i h
    have : b = false := by simpa using h
    subst this
    rfl

theorem State.ywcLock_readers (s : State) (b : Bool) : (s.ywcLock b).readers = { s.readers with yawLock := b } := by
  unfold State.ywcLock
  dsimp only
  repeat' split
  all_goals first
    | rfl
    | (rw [State.haltProposal_readers]; rfl)
    | (rw [State.haltMove_readers]; rfl)

theorem State.clcLatch_readers (s : State) (b : Bool) : (s.clcLatch b).readers = { s.readers with pumpLatch := b } := rfl

/-- A set of readings that the FLU forms, as the readers come to keep it. -/
theorem State.indicate_readers (s : State) (h : s.readers = ⟨s.flu.exponent, s.flu.stringLatch, s.flu.yawLock, s.flu.pumpLatch⟩) :
    s.indicate.readers = ⟨exponentOf s.flu.members, s.flu.members.any (fun m => m.actions.stringLatch),
      s.flu.members.any (fun m => m.actions.yawLock), s.flu.members.any (fun m => m.actions.pumpLatch)⟩ := by
  unfold State.indicate
  dsimp only
  generalize hx : ({ s with flu := { s.flu with
    exponent := exponentOf s.flu.members
    stringLatch := s.flu.members.any (fun m => m.actions.stringLatch)
    yawLock := s.flu.members.any (fun m => m.actions.yawLock)
    pumpLatch := s.flu.members.any (fun m => m.actions.pumpLatch) } } : State) = x
  have hr : x.readers = s.readers := by rw [← hx]; rfl
  rw [h] at hr
  simp only [State.readers_ite, State.clcLatch_readers, State.ywcLock_readers, State.stcLatch_readers,
    State.stcDerate_readers, hr]
  repeat' split
  all_goals simp_all

theorem State.indicate_standing (s : State) :
    s.indicate.standing =
      { s.standing with
        exponent := exponentOf s.flu.members
        stringLatch := s.flu.members.any (fun m => m.actions.stringLatch)
        yawLock := s.flu.members.any (fun m => m.actions.yawLock)
        pumpLatch := s.flu.members.any (fun m => m.actions.pumpLatch) } := by
  unfold State.indicate
  dsimp only
  simp only [State.standing_ite, State.clcLatch_standing, State.ywcLock_standing, State.stcLatch_standing,
    State.stcDerate_standing, ite_self]
  rfl

/-- A change of the condition set, with the indications formed again, leaves them standing (10 R168, R169). -/
theorem State.indicate_indicated (s : State) (ms : List Member) (h : s.Indicated) :
    (State.indicate { s with flu := { s.flu with members := ms } }).Indicated := by
  generalize hx : ({ s with flu := { s.flu with members := ms } } : State) = x
  have hr : x.readers = ⟨x.flu.exponent, x.flu.stringLatch, x.flu.yawLock, x.flu.pumpLatch⟩ := by
    obtain ⟨_, _, _, _, h5, h6, h7, h8⟩ := h
    rw [← hx]
    show Readers.mk s.stc.exponent s.stc.latch s.ywc.lock s.clc.latch = _
    rw [h5, h6, h7, h8]
  have h1 := x.indicate_readers hr
  have h2 := x.indicate_standing
  have hm := x.indicate_members
  have a1 := congrArg FluStanding.exponent h2
  have a2 := congrArg FluStanding.stringLatch h2
  have a3 := congrArg FluStanding.yawLock h2
  have a4 := congrArg FluStanding.pumpLatch h2
  have b1 := congrArg Readers.exponent h1
  have b2 := congrArg Readers.stringLatch h1
  have b3 := congrArg Readers.yawLock h1
  have b4 := congrArg Readers.pumpLatch h1
  unfold State.Indicated
  rw [hm]
  refine ⟨a1, a2, a3, a4, b1.trans a1.symm, b2.trans a2.symm, b3.trans a3.symm, b4.trans a4.symm⟩

/-! ## Requests, one and all -/

theorem State.makeEntry_indications (s : State) (code : Code) (v : Int) (h : s.Indicated) :
    (s.makeEntry code v).Indicated := by
  unfold State.makeEntry
  dsimp only
  generalize hx : ({ s with flu := { s.flu with
    log := (storeIn (s.newEntry code v) (wrapRemoval (s.newEntry code v).number s.flu.log).2).2.1
    counter := (s.flu.counter + 1) % 4096
    overflow := s.flu.overflow ||
      !(storeIn (s.newEntry code v) (wrapRemoval (s.newEntry code v).number s.flu.log).2).2.2 } } : State) = x
  have hxi : x.Indicated := by rw [← hx]; exact h
  split
  · exact hxi.of_frames (by simp) (by simp)
  · exact hxi.of_frames (by simp) (by simp)

theorem State.logCondition_indications (s : State) (code : Code) (v : Int) (h : s.Indicated) :
    (s.logCondition code v).Indicated := by
  unfold State.logCondition
  split
  · split
    · exact State.makeEntry_indications _ _ _ (h.of_frames (by simp) (by simp))
    · exact h.of_frames (by simp) (by simp)
  · exact State.makeEntry_indications _ _ _ h

theorem State.logEvent_indications (s : State) (code : Code) (v : Int) (h : s.Indicated) :
    (s.logEvent code v).Indicated := by
  unfold State.logEvent
  split
  · split
    · exact h.of_frames (by simp) (by simp)
    · exact State.makeEntry_indications _ _ _ h
  · exact State.makeEntry_indications _ _ _ h

/-- A raise leaves the indications those of the condition set. -/
theorem State.takeRaise_indicated (s : State) (code : Code) (v : Int) (o : Option Origin) (h : s.Indicated) :
    (s.takeRaise code v o).Indicated := by
  have h1 : (if code.isCondition = true then
      State.indicate { s with flu := { s.flu with members := joinSet code (code.actions o) s.flu.members } }
      else s).Indicated := by
    split
    · exact State.indicate_indicated s _ h
    · exact h
  unfold State.takeRaise
  dsimp only
  generalize (if code.isCondition = true then
      State.indicate { s with flu := { s.flu with members := joinSet code (code.actions o) s.flu.members } }
      else s) = x at h1 ⊢
  have h2 : (if (code.actions o).trip = true then x.stcTripRequest else x).Indicated := by
    split
    · exact h1.of_frames (by simp) (by simp)
    · exact h1
  generalize (if (code.actions o).trip = true then x.stcTripRequest else x) = y at h2 ⊢
  split
  · exact State.logCondition_indications _ _ _ h2
  · exact State.logEvent_indications _ _ _ h2

theorem State.takeClear_indicated (s : State) (code : Code) (h : s.Indicated) : (s.takeClear code).Indicated := by
  unfold State.takeClear
  dsimp only
  split
  · exact h
  · exact (State.indicate_indicated s (s.flu.members.filter (fun m => m.code != code)) h).of_frames (by simp) (by simp)

/-- The taking of requests leaves the indications those of the condition set (10 R168, R169). -/
theorem State.settleWithin_indicated (n : Nat) (s : State) (h : s.Indicated) : (s.settleWithin n).Indicated := by
  induction n generalizing s with
  | zero => exact h
  | succ n ih =>
    unfold State.settleWithin
    split
    · exact h
    · rename_i r rest _
      apply ih
      have hx : (State.Indicated { s with flu := { s.flu with inbox := rest } }) := h
      unfold State.serve
      split
      · exact State.takeRaise_indicated _ _ _ _ hx
      · exact State.takeClear_indicated _ _ hx

theorem State.settle_indicated (s : State) (h : s.Indicated) : s.settle.Indicated := State.settleWithin_indicated 32 s h

/-! ## A code without actions -/

theorem exponentOf_fold (ms : List Member) (e : Nat) :
    ms.foldl (fun e m => max e m.actions.derate) e = max e (ms.foldl (fun e m => max e m.actions.derate) 0) := by
  induction ms generalizing e with
  | nil => simp
  | cons m rest ih =>
    simp only [List.foldl_cons]
    rw [ih (max e m.actions.derate), ih (max 0 m.actions.derate)]
    omega

/-- A code without actions that joins the set changes no indication. -/
theorem joinSet_quiet (code : Code) (ms : List Member) :
    exponentOf (joinSet code Actions.none ms) = exponentOf ms ∧
    (joinSet code Actions.none ms).any (fun m => m.actions.stringLatch) = ms.any (fun m => m.actions.stringLatch) ∧
    (joinSet code Actions.none ms).any (fun m => m.actions.yawLock) = ms.any (fun m => m.actions.yawLock) ∧
    (joinSet code Actions.none ms).any (fun m => m.actions.pumpLatch) = ms.any (fun m => m.actions.pumpLatch) := by
  have hf : (joinSet code Actions.none ms).foldl (fun e m => max e m.actions.derate) 0 =
        ms.foldl (fun e m => max e m.actions.derate) 0 ∧
      (joinSet code Actions.none ms).any (fun m => m.actions.stringLatch) = ms.any (fun m => m.actions.stringLatch) ∧
      (joinSet code Actions.none ms).any (fun m => m.actions.yawLock) = ms.any (fun m => m.actions.yawLock) ∧
      (joinSet code Actions.none ms).any (fun m => m.actions.pumpLatch) = ms.any (fun m => m.actions.pumpLatch) := by
    induction ms with
    | nil => simp [joinSet, Actions.none]
    | cons m rest ih =>
      obtain ⟨i1, i2, i3, i4⟩ := ih
      unfold joinSet
      split
      · simp [Actions.join, Actions.none]
      · simp only [List.foldl_cons, List.any_cons, i2, i3, i4, and_true]
        rw [exponentOf_fold, i1, ← exponentOf_fold]
  unfold exponentOf
  exact ⟨by rw [hf.1], hf.2⟩

/-- Where the indications stand, a raise of a code without actions is its join and its work on the log. -/
theorem State.takeRaise_quiet (s : State) (code : Code) (v : Int) (o : Option Origin) (h : s.Indicated)
    (ha : code.actions o = Actions.none) (hc : code.isCondition = true) :
    s.takeRaise code v o =
      State.logCondition { s with flu := { s.flu with members := joinSet code Actions.none s.flu.members } } code
        (clampInt (-32768) 32767 v) := by
  obtain ⟨h1, h2, h3, h4, _⟩ := h
  obtain ⟨q1, q2, q3, q4⟩ := joinSet_quiet code s.flu.members
  have hi : State.indicate { s with flu := { s.flu with members := joinSet code Actions.none s.flu.members } } =
      { s with flu := { s.flu with members := joinSet code Actions.none s.flu.members } } := by
    unfold State.indicate
    dsimp only
    rw [q1, q2, q3, q4, ← h1, ← h2, ← h3, ← h4]
    simp only [if_true]
  unfold State.takeRaise
  dsimp only
  rw [ha, if_pos hc, hi, if_pos hc]
  rfl

end Sys2Proof.Machine
end

