-- ==== Sys2Proof/WellFormed.lean ====
section
/-! DEFINITION. Which commands describe an event of the spec: a frame of a known kind has its kind's payload length
(01 R1), and an unknown kind's code is in no row of R1's table. The other operands' ranges are in their types. -/

namespace Sys2Proof

/-- The check on one command. A command that fails it is still given a meaning (a wrong length is a damaged frame,
01 R15). -/
def Instr.wellFormed : Instr → Bool
  | .unknownKindFrame kind _ => (Kind.ofCode kind.toNat).isNone
  | .faultNotice _ p => p.length == Kind.faultNotice.payloadLength
  | .status _ p => p.length == Kind.status.payloadLength
  | .tripNotice _ p => p.length == Kind.tripNotice.payloadLength
  | .demand _ p => p.length == Kind.demand.payloadLength
  | .wind _ p => p.length == Kind.wind.payloadLength
  | .configPart _ p => p.length == Kind.configPart.payloadLength
  | .stationReset _ p => p.length == Kind.stationReset.payloadLength
  | .yawPropose _ p => p.length == Kind.yawPropose.payloadLength
  | .yawAnswer _ p => p.length == Kind.yawAnswer.payloadLength
  | .yawCommit _ p => p.length == Kind.yawCommit.payloadLength
  | .yawDrive _ p => p.length == Kind.yawDrive.payloadLength
  | .yawHalt _ p => p.length == Kind.yawHalt.payloadLength
  | .pumpState _ p => p.length == Kind.pumpState.payloadLength
  | .faultAck _ p => p.length == Kind.faultAck.payloadLength
  | .fullReset .. | .lineIdle | .lostArbitration | .readBackMismatch | .frameGoneOutWhole
  | .statusIntervalExpiry | .damagedFrame | .ownNumberFrame _ | .windAgeTimerExpiry
  | .silenceTimerExpiry | .dcLinkReady _ | .prechargeTimerExpiry | .gridSyncAchieved _
  | .syncTimerExpiry | .modulatorFaultFeedback _ | .mainContactorFeedbackChange _
  | .contactorCheckExpiry | .coolDownExpiry _ | .shareRoundExpiry | .zeroLimitHoldExpiry
  | .toothStep _ | .invalidStep | .markEdge _ | .checkTimerExpiry | .proposalHoldoffExpiry
  | .answerTimerExpiry | .commitWaitExpiry | .brakeFeedbackReleased | .brakeTimerExpiry
  | .releaseTimerExpiry | .driveWaitExpiry | .stallTimerExpiry | .settleTimerExpiry
  | .brakeFeedbackApplied | .brakingTimerExpiry | .pumpReportTimerExpiry | .startHoldExpiry
  | .flowSwitchShowsFlow | .flowSwitchNoFlow | .flowConfirmExpiry | .dutyMinuteExpiry
  | .handoffTimerExpiry | .flowGraceExpiry | .sampleTimerExpiry _ | .fanStepExpiry
  | .fanFeedbackChange .. | .fanFeedbackTimerExpiry _ | .stationClockExpiry
  | .noticeRepeatExpiry _ => true

end Sys2Proof
end

