-- ==== Sys2Proof/Laws/PerInstr.lean ====
section
/-! SUPPORT. A per-command family about the commands as syntax: the payload of a well-formed command fits a frame, whose
length field admits 0 to 16 bytes (01 R1, R14). -/

namespace Sys2Proof

/-- The payload that a command of a received frame carries; every other command carries none. -/
def Instr.payload : Instr → List Byte
  | .faultNotice _ p => p
  | .status _ p => p
  | .tripNotice _ p => p
  | .demand _ p => p
  | .wind _ p => p
  | .configPart _ p => p
  | .stationReset _ p => p
  | .yawPropose _ p => p
  | .yawAnswer _ p => p
  | .yawCommit _ p => p
  | .yawDrive _ p => p
  | .yawHalt _ p => p
  | .pumpState _ p => p
  | .faultAck _ p => p
  | .fullReset _ _ | .lineIdle | .lostArbitration | .readBackMismatch | .frameGoneOutWhole
  | .statusIntervalExpiry | .damagedFrame | .ownNumberFrame _ | .unknownKindFrame _ _ | .windAgeTimerExpiry
  | .silenceTimerExpiry | .dcLinkReady _ | .prechargeTimerExpiry | .gridSyncAchieved _ | .syncTimerExpiry
  | .modulatorFaultFeedback _ | .mainContactorFeedbackChange _ | .contactorCheckExpiry | .coolDownExpiry _
  | .shareRoundExpiry | .zeroLimitHoldExpiry | .toothStep _ | .invalidStep | .markEdge _ | .checkTimerExpiry
  | .proposalHoldoffExpiry | .answerTimerExpiry | .commitWaitExpiry | .brakeFeedbackReleased
  | .brakeTimerExpiry | .releaseTimerExpiry | .driveWaitExpiry | .stallTimerExpiry | .settleTimerExpiry
  | .brakeFeedbackApplied | .brakingTimerExpiry | .pumpReportTimerExpiry | .startHoldExpiry
  | .flowSwitchShowsFlow | .flowSwitchNoFlow | .flowConfirmExpiry | .dutyMinuteExpiry | .handoffTimerExpiry
  | .flowGraceExpiry | .sampleTimerExpiry _ | .fanStepExpiry | .fanFeedbackChange _ _
  | .fanFeedbackTimerExpiry _ | .stationClockExpiry | .noticeRepeatExpiry _ => []

end Sys2Proof

namespace Sys2Proof.Laws

/-- The payload of a well-formed command is at most 16 bytes long. -/
def Payload.Statement (i : Instr) : Prop := i.wellFormed = true → i.payload.length ≤ 16

theorem Payload.fullReset (pins : BitVec 10) (first : Levels) : Payload.Statement (.fullReset pins first) := fun _ => Nat.zero_le _

theorem Payload.lineIdle : Payload.Statement .lineIdle := fun _ => Nat.zero_le _

theorem Payload.lostArbitration : Payload.Statement .lostArbitration := fun _ => Nat.zero_le _

theorem Payload.readBackMismatch : Payload.Statement .readBackMismatch := fun _ => Nat.zero_le _

theorem Payload.frameGoneOutWhole : Payload.Statement .frameGoneOutWhole := fun _ => Nat.zero_le _

theorem Payload.statusIntervalExpiry : Payload.Statement .statusIntervalExpiry := fun _ => Nat.zero_le _

theorem Payload.damagedFrame : Payload.Statement .damagedFrame := fun _ => Nat.zero_le _

theorem Payload.ownNumberFrame (kind : BitVec 6) : Payload.Statement (.ownNumberFrame kind) := fun _ => Nat.zero_le _

theorem Payload.unknownKindFrame (kind : BitVec 6) (source : Station) : Payload.Statement (.unknownKindFrame kind source) := fun _ => Nat.zero_le _

theorem Payload.faultNotice (source : Station) (payload : List Byte) : Payload.Statement (.faultNotice source payload) := by
  intro h
  have h := eq_of_beq h
  simp only [Instr.payload, h, Kind.payloadLength, Nat.reduceLeDiff]

theorem Payload.status (source : Station) (payload : List Byte) : Payload.Statement (.status source payload) := by
  intro h
  have h := eq_of_beq h
  simp only [Instr.payload, h, Kind.payloadLength, Nat.reduceLeDiff]

theorem Payload.tripNotice (source : Station) (payload : List Byte) : Payload.Statement (.tripNotice source payload) := by
  intro h
  have h := eq_of_beq h
  simp only [Instr.payload, h, Kind.payloadLength, Nat.reduceLeDiff]

theorem Payload.demand (source : Station) (payload : List Byte) : Payload.Statement (.demand source payload) := by
  intro h
  have h := eq_of_beq h
  simp only [Instr.payload, h, Kind.payloadLength, Nat.reduceLeDiff]

theorem Payload.wind (source : Station) (payload : List Byte) : Payload.Statement (.wind source payload) := by
  intro h
  have h := eq_of_beq h
  simp only [Instr.payload, h, Kind.payloadLength, Nat.reduceLeDiff]

theorem Payload.windAgeTimerExpiry : Payload.Statement .windAgeTimerExpiry := fun _ => Nat.zero_le _

theorem Payload.silenceTimerExpiry : Payload.Statement .silenceTimerExpiry := fun _ => Nat.zero_le _

theorem Payload.configPart (source : Station) (payload : List Byte) : Payload.Statement (.configPart source payload) := by
  intro h
  have h := eq_of_beq h
  simp only [Instr.payload, h, Kind.payloadLength, Nat.reduceLeDiff]

theorem Payload.stationReset (source : Station) (payload : List Byte) : Payload.Statement (.stationReset source payload) := by
  intro h
  have h := eq_of_beq h
  simp only [Instr.payload, h, Kind.payloadLength, Nat.reduceLeDiff]

theorem Payload.dcLinkReady (shows : Bool) : Payload.Statement (.dcLinkReady shows) := fun _ => Nat.zero_le _

theorem Payload.prechargeTimerExpiry : Payload.Statement .prechargeTimerExpiry := fun _ => Nat.zero_le _

theorem Payload.gridSyncAchieved (shows : Bool) : Payload.Statement (.gridSyncAchieved shows) := fun _ => Nat.zero_le _

theorem Payload.syncTimerExpiry : Payload.Statement .syncTimerExpiry := fun _ => Nat.zero_le _

theorem Payload.modulatorFaultFeedback (shows : Bool) : Payload.Statement (.modulatorFaultFeedback shows) := fun _ => Nat.zero_le _

theorem Payload.mainContactorFeedbackChange (closed : Bool) : Payload.Statement (.mainContactorFeedbackChange closed) := fun _ => Nat.zero_le _

theorem Payload.contactorCheckExpiry : Payload.Statement .contactorCheckExpiry := fun _ => Nat.zero_le _

theorem Payload.coolDownExpiry (latchArrives : Bool) : Payload.Statement (.coolDownExpiry latchArrives) :=
  fun _ => Nat.zero_le _

theorem Payload.shareRoundExpiry : Payload.Statement .shareRoundExpiry := fun _ => Nat.zero_le _

theorem Payload.zeroLimitHoldExpiry : Payload.Statement .zeroLimitHoldExpiry := fun _ => Nat.zero_le _

theorem Payload.toothStep (channel : Channel) : Payload.Statement (.toothStep channel) := fun _ => Nat.zero_le _

theorem Payload.invalidStep : Payload.Statement .invalidStep := fun _ => Nat.zero_le _

theorem Payload.markEdge (high : Bool) : Payload.Statement (.markEdge high) := fun _ => Nat.zero_le _

theorem Payload.checkTimerExpiry : Payload.Statement .checkTimerExpiry := fun _ => Nat.zero_le _

theorem Payload.proposalHoldoffExpiry : Payload.Statement .proposalHoldoffExpiry := fun _ => Nat.zero_le _

theorem Payload.yawPropose (source : Station) (payload : List Byte) : Payload.Statement (.yawPropose source payload) := by
  intro h
  have h := eq_of_beq h
  simp only [Instr.payload, h, Kind.payloadLength, Nat.reduceLeDiff]

theorem Payload.yawAnswer (source : Station) (payload : List Byte) : Payload.Statement (.yawAnswer source payload) := by
  intro h
  have h := eq_of_beq h
  simp only [Instr.payload, h, Kind.payloadLength, Nat.reduceLeDiff]

theorem Payload.answerTimerExpiry : Payload.Statement .answerTimerExpiry := fun _ => Nat.zero_le _

theorem Payload.yawCommit (source : Station) (payload : List Byte) : Payload.Statement (.yawCommit source payload) := by
  intro h
  have h := eq_of_beq h
  simp only [Instr.payload, h, Kind.payloadLength, Nat.reduceLeDiff]

theorem Payload.commitWaitExpiry : Payload.Statement .commitWaitExpiry := fun _ => Nat.zero_le _

theorem Payload.brakeFeedbackReleased : Payload.Statement .brakeFeedbackReleased := fun _ => Nat.zero_le _

theorem Payload.brakeTimerExpiry : Payload.Statement .brakeTimerExpiry := fun _ => Nat.zero_le _

theorem Payload.releaseTimerExpiry : Payload.Statement .releaseTimerExpiry := fun _ => Nat.zero_le _

theorem Payload.yawDrive (source : Station) (payload : List Byte) : Payload.Statement (.yawDrive source payload) := by
  intro h
  have h := eq_of_beq h
  simp only [Instr.payload, h, Kind.payloadLength, Nat.reduceLeDiff]

theorem Payload.driveWaitExpiry : Payload.Statement .driveWaitExpiry := fun _ => Nat.zero_le _

theorem Payload.stallTimerExpiry : Payload.Statement .stallTimerExpiry := fun _ => Nat.zero_le _

theorem Payload.yawHalt (source : Station) (payload : List Byte) : Payload.Statement (.yawHalt source payload) := by
  intro h
  have h := eq_of_beq h
  simp only [Instr.payload, h, Kind.payloadLength, Nat.reduceLeDiff]

theorem Payload.settleTimerExpiry : Payload.Statement .settleTimerExpiry := fun _ => Nat.zero_le _

theorem Payload.brakeFeedbackApplied : Payload.Statement .brakeFeedbackApplied := fun _ => Nat.zero_le _

theorem Payload.brakingTimerExpiry : Payload.Statement .brakingTimerExpiry := fun _ => Nat.zero_le _

theorem Payload.pumpState (source : Station) (payload : List Byte) : Payload.Statement (.pumpState source payload) := by
  intro h
  have h := eq_of_beq h
  simp only [Instr.payload, h, Kind.payloadLength, Nat.reduceLeDiff]

theorem Payload.pumpReportTimerExpiry : Payload.Statement .pumpReportTimerExpiry := fun _ => Nat.zero_le _

theorem Payload.startHoldExpiry : Payload.Statement .startHoldExpiry := fun _ => Nat.zero_le _

theorem Payload.flowSwitchShowsFlow : Payload.Statement .flowSwitchShowsFlow := fun _ => Nat.zero_le _

theorem Payload.flowSwitchNoFlow : Payload.Statement .flowSwitchNoFlow := fun _ => Nat.zero_le _

theorem Payload.flowConfirmExpiry : Payload.Statement .flowConfirmExpiry := fun _ => Nat.zero_le _

theorem Payload.dutyMinuteExpiry : Payload.Statement .dutyMinuteExpiry := fun _ => Nat.zero_le _

theorem Payload.handoffTimerExpiry : Payload.Statement .handoffTimerExpiry := fun _ => Nat.zero_le _

theorem Payload.flowGraceExpiry : Payload.Statement .flowGraceExpiry := fun _ => Nat.zero_le _

theorem Payload.sampleTimerExpiry (word : BitVec 12) : Payload.Statement (.sampleTimerExpiry word) := fun _ => Nat.zero_le _

theorem Payload.fanStepExpiry : Payload.Statement .fanStepExpiry := fun _ => Nat.zero_le _

theorem Payload.fanFeedbackChange (fan : Fin 3) (shows : Bool) : Payload.Statement (.fanFeedbackChange fan shows) := fun _ => Nat.zero_le _

theorem Payload.fanFeedbackTimerExpiry (fan : Fin 3) : Payload.Statement (.fanFeedbackTimerExpiry fan) := fun _ => Nat.zero_le _

theorem Payload.stationClockExpiry : Payload.Statement .stationClockExpiry := fun _ => Nat.zero_le _

theorem Payload.noticeRepeatExpiry (cls : FaultClass) : Payload.Statement (.noticeRepeatExpiry cls) := fun _ => Nat.zero_le _

theorem Payload.faultAck (source : Station) (payload : List Byte) : Payload.Statement (.faultAck source payload) := by
  intro h
  have h := eq_of_beq h
  simp only [Instr.payload, h, Kind.payloadLength, Nat.reduceLeDiff]

end Sys2Proof.Laws
end

