-- ==== Sys2Proof/Laws/Reception.lean ====
section
/-! SUPPORT. What the arrival of a frame comes to before its owner acts on it, and the discard of a failed frame (01 R5 to R20). -/

namespace Sys2Proof.Machine

/-- A good frame that does not clear the degraded flag lowers the error counter and nothing else (01 R16). -/
theorem State.countGood_quiet (s : State) (h : s.lif.degraded = true → 64 < s.lif.errors) :
    s.countGood = { s with lif := { s.lif with errors := s.lif.errors - 1, lineIdle := false } } := by
  have hn : ¬ (s.lif.errors - 1 < 64 ∧ s.lif.degraded = true) := by
    rintro ⟨h1, h2⟩
    have := h h2
    omega
  simp only [State.countGood, hn, if_false]

/-- A presence refresh of a PRESENT entry indicates nothing (03 R39). -/
theorem State.refresh_present (s : State) (n : Station) (kind : Option Kind) (h : (s.peer n).presence = .present) :
    s.refresh n kind =
      s.setPeer n { s.peer n with silence := 0, presence := .present, seen := kindSeenAfter (s.peer n).seen kind } := by
  simp only [State.refresh, h, if_true]

/-- The count and the presence refresh of a frame from a PRESENT source. -/
theorem State.counted_refreshed (s : State) (kind : Option Kind) (source : Station)
    (hp : (s.peer source).presence = .present) (hd : s.lif.degraded = true → 64 < s.lif.errors) :
    s.countGood.refresh source kind = s.heard kind source := by
  have h := State.refresh_present { s with lif := { s.lif with errors := s.lif.errors - 1, lineIdle := false } } source
    kind hp
  rw [State.countGood_quiet s hd]
  exact h

/-- A frame that is heard reaches its owner in the state after its count and its presence refresh. -/
theorem State.receive_heard (s : State) (kind : Kind) (source : Station) (payload : List Byte) (deliver : State → State)
    (h : s.Hears kind source payload) : s.receive kind source payload deliver = deliver (s.heard (some kind) source) := by
  obtain ⟨hl, ho, hp, hd, ht⟩ := h
  have ht' : (s.heard (some kind) source).passes kind source = true := ht
  simp only [State.receive, hl, if_true, ho, if_false, State.counted_refreshed s _ _ hp hd, ht']

/-- A frame turned away by the sender test leaves its count and its presence refresh only (01 R19). -/
theorem State.receive_turned_away (s : State) (kind : Kind) (source : Station) (payload : List Byte)
    (deliver : State → State) (hl : payload.length = kind.payloadLength) (ho : source ≠ s.own)
    (hp : (s.peer source).presence = .present) (hd : s.lif.degraded = true → 64 < s.lif.errors)
    (ht : s.passes kind source = false) : s.receive kind source payload deliver = s.heard (some kind) source := by
  have ht' : (s.heard (some kind) source).passes kind source = false := ht
  simp only [State.receive, hl, if_true, ho, if_false, State.counted_refreshed s _ _ hp hd, ht', Bool.false_eq_true]

/-- A STATUS discarded while its successor waits is reported first and the successor offered then (01 R12). -/
theorem State.discardSent_successor (s : State) (f : QueuedFrame) (hk : f.kind = .status)
    (hp : s.lif.statusPlace.isSome = true) :
    s.discardSent f = (State.reportDiscard { s with lif := s.lif.removeSent } f).placeFree := by
  simp [State.discardSent, State.hasSuccessor, hk, hp]

/-- Any other discarded frame is reported before or after the place-free indication (01 R9; log entry 12). -/
theorem State.discardSent_either (s : State) (f : QueuedFrame) (h : f.kind ≠ .status ∨ s.lif.statusPlace = none) :
    let t : State := { s with lif := s.lif.removeSent, draws := s.draws + 1 }
    s.discardSent f = t.placeFree.reportDiscard f ∨ s.discardSent f = (t.reportDiscard f).placeFree := by
  have hs : s.hasSuccessor f = false := by
    rcases h with h | h <;> simp [State.hasSuccessor, h]
  cases hd : Config.placeFreeFirst s.draws
  · exact .inr (by simp only [State.discardSent, hs, hd, Bool.false_eq_true, if_false]; rfl)
  · exact .inl (by simp only [State.discardSent, hs, hd, Bool.false_eq_true, if_false, if_true]; rfl)

/-- A good frame that clears the degraded flag gives up LINE_DEGRADED, and nothing else of the count differs (01 R16). -/
theorem State.countGood_clears (s : State) (hd : s.lif.degraded = true) (he : s.lif.errors ≤ 64) :
    s.countGood = State.clearNow
      { s with lif := { s.lif with errors := s.lif.errors - 1, lineIdle := false, degraded := false } } .lineDegraded := by
  have hn : s.lif.errors - 1 < 64 := by omega
  simp only [State.countGood, hd, hn, and_self, if_true]

end Sys2Proof.Machine
end

