-- ==== Sys2Proof/Laws/YawFrame.lean ====
section
/-! SUPPORT. The frame of the YWC: which shared operations leave everything of the YWC but its held requests as it stands. -/

namespace Sys2Proof.Machine

/-- The YWC without its held requests, which the LIF's offers move. -/
def State.yaw (s : State) : Ywc := { s.ywc with held := [] }

@[simp] theorem State.yaw_update (s : State) (i : Icu) (l : Lif) (p : Ptb) (c : Stc) (k : Clc) (f : Flu) (v : Levels)
    (d : Differing) (n : Nat) (q : List Instr) : State.yaw ⟨i, l, p, c, s.ywc, k, f, v, d, n, q⟩ = s.yaw := rfl

@[simp] theorem State.yaw_held (s : State) (i : Icu) (l : Lif) (p : Ptb) (c : Stc) (h : List HeldYaw) (k : Clc)
    (f : Flu) (v : Levels) (d : Differing) (n : Nat) (q : List Instr) :
    State.yaw ⟨i, l, p, c, { s.ywc with held := h }, k, f, v, d, n, q⟩ = s.yaw := rfl

@[simp] theorem State.dropStaleHeld_yaw (s : State) : s.dropStaleHeld.yaw = s.yaw := rfl
@[simp] theorem State.yaw_ite (c : Prop) [Decidable c] (s t : State) :
    (if c then s else t).yaw = if c then s.yaw else t.yaw := apply_ite State.yaw c s t

@[simp] theorem State.raise_yaw (s : State) (code : Code) (v : Int) (o : Option Origin) : (s.raise code v o).yaw = s.yaw := rfl
@[simp] theorem State.clear_yaw (s : State) (code : Code) : (s.clear code).yaw = s.yaw := rfl
@[simp] theorem State.drew_yaw (s : State) : (s.drew).yaw = s.yaw := rfl
@[simp] theorem State.setPeer_yaw (s : State) (n : Station) (e : PeerEntry) : (s.setPeer n e).yaw = s.yaw := rfl
@[simp] theorem State.enqueue_yaw (s : State) (k : Kind) (p : List Byte) : (s.enqueue k p).yaw = s.yaw := rfl
@[simp] theorem State.noteHolders_yaw (s : State) : (s.noteHolders).yaw = s.yaw := rfl
@[simp] theorem State.testPressure_yaw (s : State) : (s.testPressure).yaw = s.yaw := rfl
@[simp] theorem State.stopRepeat_yaw (s : State) (c : FaultClass) : (s.stopRepeat c).yaw = s.yaw := rfl
@[simp] theorem State.dropHeldNotice_yaw (s : State) (n : Nat) : (s.dropHeldNotice n).yaw = s.yaw := rfl
@[simp] theorem State.setLog_yaw (s : State) (l : List Entry) : (s.setLog l).yaw = s.yaw := rfl
@[simp] theorem State.setString_yaw (s : State) (st : StringState) : (s.setString st).yaw = s.yaw := rfl
@[simp] theorem State.setSetpoint_yaw (s : State) (v : Nat) : (s.setSetpoint v).yaw = s.yaw := rfl
@[simp] theorem State.sendLink_yaw (s : State) : (s.sendLink).yaw = s.yaw := rfl
@[simp] theorem State.enterRun_yaw (s : State) : (s.enterRun).yaw = s.yaw := rfl
@[simp] theorem State.setOwner_yaw (s : State) (o : PumpOwner) : (s.setOwner o).yaw = s.yaw := rfl
@[simp] theorem State.loadDuty_yaw (s : State) : (s.loadDuty).yaw = s.yaw := rfl
@[simp] theorem State.clcLatch_yaw (s : State) (on : Bool) : (s.clcLatch on).yaw = s.yaw := rfl
@[simp] theorem State.readSupply_yaw (s : State) (w : BitVec 12) : (s.readSupply w).yaw = s.yaw := rfl
@[simp] theorem State.formHeat_yaw (s : State) : (s.formHeat).yaw = s.yaw := rfl
@[simp] theorem State.setMismatch_yaw (s : State) (v : Bool) : (s.setMismatch v).yaw = s.yaw := rfl
@[simp] theorem State.takeTripNotice_yaw (s : State) (n : Station) : (s.takeTripNotice n).yaw = s.yaw := rfl
@[simp] theorem State.lifConfigured_yaw (s : State) : (s.lifConfigured).yaw = s.yaw := rfl
@[simp] theorem State.setAssembly_yaw (s : State) (a : Assembly) : (s.setAssembly a).yaw = s.yaw := rfl
@[simp] theorem State.placeStatus_yaw (s : State) (p : List Byte) : (s.placeStatus p).yaw = s.yaw := rfl
@[simp] theorem State.replaceStatus_yaw (s : State) (p : List Byte) : (s.replaceStatus p).yaw = s.yaw := rfl

@[simp] theorem State.request_yaw (s : State) (k : Kind) (p : List Byte) : (s.request k p).1.yaw = s.yaw := by
  unfold State.request
  try dsimp only
  repeat' split
  all_goals simp
@[simp] theorem State.requestNotice_yaw (s : State) (e : Entry) : (s.requestNotice e).yaw = s.yaw := by
  unfold State.requestNotice
  try dsimp only
  repeat' split
  all_goals simp
@[simp] theorem State.announce_yaw (s : State) (e : Entry) : (s.announce e).yaw = s.yaw := by
  unfold State.announce
  try dsimp only
  all_goals simp
@[simp] theorem State.select_yaw (s : State) : (s.select).yaw = s.yaw := by
  unfold State.select
  try dsimp only
  repeat' split
  all_goals simp
@[simp] theorem State.noticeCompleted_yaw (s : State) (n : Nat) : (s.noticeCompleted n).yaw = s.yaw := by
  unfold State.noticeCompleted
  try dsimp only
  repeat' split
  all_goals simp
@[simp] theorem State.noticeDiscarded_yaw (s : State) (n : Nat) : (s.noticeDiscarded n).yaw = s.yaw := by
  unfold State.noticeDiscarded
  try dsimp only
  repeat' split
  all_goals simp
@[simp] theorem State.supervisorIndication_yaw (s : State) (b : Bool) : (s.supervisorIndication b).yaw = s.yaw := by
  unfold State.supervisorIndication Flu.outOfService
  try dsimp only
  repeat' split
  all_goals simp
@[simp] theorem State.freeClasses_yaw (s : State) (l : List Entry) : (s.freeClasses l).yaw = s.yaw := by
  induction l generalizing s with
  | nil => rfl
  | cons h r ih =>
    unfold State.freeClasses
    try dsimp only
    all_goals simp [ih]
@[simp] theorem State.acknowledge_yaw (s : State) (o : AckOrder) : (s.acknowledge o).yaw = s.yaw := by
  unfold State.acknowledge
  try dsimp only
  repeat' split
  all_goals simp
@[simp] theorem State.discardNotice_yaw (s : State) (f : QueuedFrame) : (s.discardNotice f).yaw = s.yaw := by
  unfold State.discardNotice
  try dsimp only
  repeat' split
  all_goals simp
@[simp] theorem State.completionNotice_yaw (s : State) (f : QueuedFrame) : (s.completionNotice f).yaw = s.yaw := by
  unfold State.completionNotice
  try dsimp only
  repeat' split
  all_goals simp
@[simp] theorem State.offerTrip_yaw (s : State) : (s.offerTrip).yaw = s.yaw := by
  unfold State.offerTrip
  try dsimp only
  repeat' split
  all_goals simp
@[simp] theorem State.offerYaw_yaw (s : State) (k : Kind) (l : List HeldYaw) : (s.offerYaw k l).yaw = s.yaw := by
  induction l generalizing s with
  | nil => rfl
  | cons h r ih =>
    unfold State.offerYaw
    try dsimp only
    repeat' split
    all_goals simp [ih]
@[simp] theorem State.offerPump_yaw (s : State) : (s.offerPump).yaw = s.yaw := by
  unfold State.offerPump
  try dsimp only
  repeat' split
  all_goals simp
@[simp] theorem State.offerStatus_yaw (s : State) : (s.offerStatus).yaw = s.yaw := by
  unfold State.offerStatus
  try dsimp only
  repeat' split
  all_goals simp
@[simp] theorem State.offerNotices_yaw (s : State) (l : List HeldNotice) : (s.offerNotices l).yaw = s.yaw := by
  induction l generalizing s with
  | nil => rfl
  | cons h r ih =>
    unfold State.offerNotices
    try dsimp only
    repeat' split
    all_goals simp [ih]
@[simp] theorem State.placeFree_yaw (s : State) : (s.placeFree).yaw = s.yaw := by
  unfold State.placeFree
  try dsimp only
  all_goals simp
@[simp] theorem State.requestUrgent_yaw (s : State) (k : Kind) (p : List Byte) : (s.requestUrgent k p).1.yaw = s.yaw := by
  unfold State.requestUrgent
  try dsimp only
  repeat' split
  all_goals simp
@[simp] theorem State.drive_yaw (s : State) (st : StringState) (v : Nat) : (s.drive st v).yaw = s.yaw := by
  unfold State.drive
  try dsimp only
  repeat' split
  all_goals simp
@[simp] theorem State.requestTrip_yaw (s : State) (c : TripCause) : (s.requestTrip c).yaw = s.yaw := by
  unfold State.requestTrip
  try dsimp only
  repeat' split
  all_goals simp
@[simp] theorem State.raiseCause_yaw (s : State) (c : Option (Code × Int)) : (s.raiseCause c).yaw = s.yaw := by
  unfold State.raiseCause
  try dsimp only
  repeat' split
  all_goals simp
@[simp] theorem State.trip_yaw (s : State) (c : TripCause) (r : Option (Code × Int)) : (s.trip c r).yaw = s.yaw := by
  unfold State.trip
  try dsimp only
  repeat' split
  all_goals simp
@[simp] theorem State.enterSync_yaw (s : State) : (s.enterSync).yaw = s.yaw := by
  unfold State.enterSync
  try dsimp only
  repeat' split
  all_goals simp
@[simp] theorem State.modulatorTrip_yaw (s : State) : (s.modulatorTrip).yaw = s.yaw := by
  unfold State.modulatorTrip
  try dsimp only
  all_goals simp
@[simp] theorem State.enterPrecharge_yaw (s : State) : (s.enterPrecharge).yaw = s.yaw := by
  unfold State.enterPrecharge
  try dsimp only
  repeat' split
  all_goals simp
@[simp] theorem State.startTest_yaw (s : State) : (s.startTest).yaw = s.yaw := by
  unfold State.startTest
  try dsimp only
  repeat' split
  all_goals simp
@[simp] theorem State.enterOff_yaw (s : State) : (s.enterOff).yaw = s.yaw := by
  unfold State.enterOff
  try dsimp only
  all_goals simp
@[simp] theorem State.cutSetpoint_yaw (s : State) : (s.cutSetpoint).yaw = s.yaw := by
  unfold State.cutSetpoint
  try dsimp only
  repeat' split
  all_goals simp
@[simp] theorem State.respondToLimit_yaw (s : State) : (s.respondToLimit).yaw = s.yaw := by
  unfold State.respondToLimit
  try dsimp only
  repeat' split
  all_goals simp
@[simp] theorem State.formLimit_yaw (s : State) : (s.formLimit).yaw = s.yaw := by
  unfold State.formLimit
  try dsimp only
  repeat' split
  all_goals simp
@[simp] theorem State.stcDerate_yaw (s : State) (e : Nat) : (s.stcDerate e).yaw = s.yaw := by
  unfold State.stcDerate
  try dsimp only
  all_goals simp
@[simp] theorem State.stcFlow_yaw (s : State) (f : FlowState) : (s.stcFlow f).yaw = s.yaw := by
  unfold State.stcFlow
  try dsimp only
  all_goals simp
@[simp] theorem State.tempTest_yaw (s : State) (v : Option Int) : (s.tempTest v).yaw = s.yaw := by
  unfold State.tempTest
  try dsimp only
  repeat' split
  all_goals simp
@[simp] theorem State.stcTheta_yaw (s : State) (v : Option Int) : (s.stcTheta v).yaw = s.yaw := by
  unfold State.stcTheta
  try dsimp only
  all_goals simp
@[simp] theorem State.stcPermit_yaw (s : State) (b : Bool) : (s.stcPermit b).yaw = s.yaw := by
  unfold State.stcPermit
  try dsimp only
  repeat' split
  all_goals simp
@[simp] theorem State.stcTripRequest_yaw (s : State) : (s.stcTripRequest).yaw = s.yaw := by
  unfold State.stcTripRequest
  try dsimp only
  all_goals simp
@[simp] theorem State.stcLatchOn_yaw (s : State) : (s.stcLatchOn).yaw = s.yaw := by
  unfold State.stcLatchOn
  try dsimp only
  repeat' split
  all_goals simp
@[simp] theorem State.stcLatch_yaw (s : State) (b : Bool) : (s.stcLatch b).yaw = s.yaw := by
  unfold State.stcLatch
  try dsimp only
  repeat' split
  all_goals simp
@[simp] theorem State.shareInRun_yaw (s : State) : (s.shareInRun).yaw = s.yaw := by
  unfold State.shareInRun
  try dsimp only
  repeat' split
  all_goals simp
@[simp] theorem State.shareInStopping_yaw (s : State) : (s.shareInStopping).yaw = s.yaw := by
  unfold State.shareInStopping
  try dsimp only
  repeat' split
  all_goals simp
@[simp] theorem State.shareRound_yaw (s : State) : (s.shareRound).yaw = s.yaw := by
  unfold State.shareRound
  try dsimp only
  repeat' split
  all_goals simp
@[simp] theorem State.requestPump_yaw (s : State) : (s.requestPump).yaw = s.yaw := by
  unfold State.requestPump
  try dsimp only
  repeat' split
  all_goals simp
@[simp] theorem State.changeOwner_yaw (s : State) (o : PumpOwner) : (s.changeOwner o).yaw = s.yaw := by
  unfold State.changeOwner
  try dsimp only
  all_goals simp
@[simp] theorem State.enterRunning_yaw (s : State) : (s.enterRunning).yaw = s.yaw := by
  unfold State.enterRunning
  try dsimp only
  all_goals simp
@[simp] theorem State.enterStarting_yaw (s : State) : (s.enterStarting).yaw = s.yaw := by
  unfold State.enterStarting
  try dsimp only
  repeat' split
  all_goals simp
@[simp] theorem State.holdStart_yaw (s : State) : (s.holdStart).yaw = s.yaw := by
  unfold State.holdStart
  try dsimp only
  repeat' split
  all_goals simp
@[simp] theorem State.startTests_yaw (s : State) : (s.startTests).yaw = s.yaw := by
  unfold State.startTests
  try dsimp only
  repeat' split
  all_goals simp
@[simp] theorem State.bothRunningTest_yaw (s : State) : (s.bothRunningTest).yaw = s.yaw := by
  unfold State.bothRunningTest
  try dsimp only
  repeat' split
  all_goals simp
@[simp] theorem State.outgoingTest_yaw (s : State) : (s.outgoingTest).yaw = s.yaw := by
  unfold State.outgoingTest
  try dsimp only
  repeat' split
  all_goals simp
@[simp] theorem State.setFlow_yaw (s : State) (f : FlowState) : (s.setFlow f).yaw = s.yaw := by
  unfold State.setFlow
  try dsimp only
  all_goals simp
@[simp] theorem State.flowTest_yaw (s : State) : (s.flowTest).yaw = s.yaw := by
  unfold State.flowTest
  try dsimp only
  repeat' split
  all_goals simp
@[simp] theorem State.viewTests_yaw (s : State) (n : Nat) : (s.viewTests n).yaw = s.yaw := by
  induction n generalizing s with
  | zero => rfl
  | succ n ih =>
    unfold State.viewTests
    try dsimp only
    repeat' split
    all_goals simp [ih]
@[simp] theorem State.viewChanged_yaw (s : State) : (s.viewChanged).yaw = s.yaw := by
  unfold State.viewChanged
  try dsimp only
  all_goals simp
@[simp] theorem State.failPump_yaw (s : State) (c : Int) : (s.failPump c).yaw = s.yaw := by
  unfold State.failPump
  try dsimp only
  repeat' split
  all_goals simp
@[simp] theorem State.setView_yaw (s : State) (p : Pump) (v : PumpView) : (s.setView p v).yaw = s.yaw := by
  unfold State.setView
  try dsimp only
  repeat' split
  all_goals simp
@[simp] theorem State.takeView_yaw (s : State) (f : PumpFields) (n : Station) : (s.takeView f n).yaw = s.yaw := by
  unfold State.takeView
  try dsimp only
  repeat' split
  all_goals simp
@[simp] theorem State.handoverRequest_yaw (s : State) (f : PumpFields) : (s.handoverRequest f).yaw = s.yaw := by
  unfold State.handoverRequest
  try dsimp only
  repeat' split
  all_goals simp
@[simp] theorem State.disagreeTest_yaw (s : State) (v : Vote) : (s.disagreeTest v).yaw = s.yaw := by
  unfold State.disagreeTest
  try dsimp only
  repeat' split
  all_goals simp
@[simp] theorem State.supplyTest_yaw (s : State) (v : Vote) (n : Nat) : (s.supplyTest v n).yaw = s.yaw := by
  unfold State.supplyTest
  try dsimp only
  repeat' split
  all_goals simp
@[simp] theorem State.switchFan_yaw (s : State) (i : Fin 3) (b : Bool) : (s.switchFan i b).yaw = s.yaw := by
  unfold State.switchFan
  try dsimp only
  repeat' split
  all_goals simp
@[simp] theorem State.applyDuty_yaw (s : State) : (s.applyDuty).yaw = s.yaw := by
  unfold State.applyDuty
  try dsimp only
  repeat' split
  all_goals simp
@[simp] theorem State.fansOff_yaw (s : State) : (s.fansOff).yaw = s.yaw := by
  unfold State.fansOff
  try dsimp only
  all_goals simp
@[simp] theorem State.setStages_yaw (s : State) (n : Nat) : (s.setStages n).yaw = s.yaw := by
  unfold State.setStages
  try dsimp only
  repeat' split
  all_goals simp
@[simp] theorem State.raiseStages_yaw (s : State) : (s.raiseStages).yaw = s.yaw := by
  unfold State.raiseStages
  try dsimp only
  repeat' split
  all_goals simp
@[simp] theorem State.stepStages_yaw (s : State) : (s.stepStages).yaw = s.yaw := by
  unfold State.stepStages
  try dsimp only
  repeat' split
  all_goals simp
@[simp] theorem State.setCover_yaw (s : State) : (s.setCover).yaw = s.yaw := by
  unfold State.setCover
  try dsimp only
  repeat' split
  all_goals simp
@[simp] theorem State.rivalTest_yaw (s : State) : (s.rivalTest).yaw = s.yaw := by
  unfold State.rivalTest
  try dsimp only
  repeat' split
  all_goals simp
@[simp] theorem State.removed_yaw (s : State) (e : Entry) : (s.removed e).yaw = s.yaw := by
  unfold State.removed
  try dsimp only
  repeat' split
  all_goals simp
@[simp] theorem State.removedIf_yaw (s : State) (e : Option Entry) : (s.removedIf e).yaw = s.yaw := by
  unfold State.removedIf
  try dsimp only
  repeat' split
  all_goals simp
@[simp] theorem State.makeEntry_yaw (s : State) (c : Code) (v : Int) : (s.makeEntry c v).yaw = s.yaw := by
  unfold State.makeEntry
  try dsimp only
  repeat' split
  all_goals simp
@[simp] theorem State.logCondition_yaw (s : State) (c : Code) (v : Int) : (s.logCondition c v).yaw = s.yaw := by
  unfold State.logCondition
  try dsimp only
  repeat' split
  all_goals simp
@[simp] theorem State.logEvent_yaw (s : State) (c : Code) (v : Int) : (s.logEvent c v).yaw = s.yaw := by
  unfold State.logEvent
  try dsimp only
  repeat' split
  all_goals simp
@[simp] theorem State.requestYaw_yaw (s : State) (k : Kind) (r : Ref) (p : List Byte) : (s.requestYaw k r p).yaw = s.yaw := by
  unfold State.requestYaw
  try dsimp only
  repeat' split
  all_goals simp

end Sys2Proof.Machine
end

