-- ==== Sys2Proof/Tests/Slice0.lean ====
section
/-! SUPPORT. Tests: each check of `wellFormed` on an ill-formed command, the worked figures of the spec, payloads written
out from 12 R194, single commands on small states, and for each statement with hypotheses a state that meets them. -/

namespace Sys2Proof.Tests

open Sys2Proof.Machine

set_option Elab.async false

/-! ## The states of the tests -/

/-- The state after a command, where it answers one. -/
def after (c : Instr) (s : State) : State :=
  match exec c s with
  | .next t => t
  | .fault _ => s
  | .refused _ => s

/-- The 48 bytes of a configuration record, written out from the table of 12 R194. -/
def recordBytes : List Byte :=
  [0x5E, 0x64, 0x0E, 0xD8, 0x2C, 0x88, 0x23, 0x29, 0x00, 0xFA, 0x01, 0xF4, 0x07, 0xD0, 0x50, 0x3C]
    ++ [0x61, 0xC2, 0x52, 0x26, 0x10, 0x3C, 0x78, 0x00, 0x01, 0x16, 0x80, 0x00, 0x64, 0x43, 0x80, 0x38]
    ++ [0x40, 0x39, 0xFF, 0xFB, 0x16, 0x00, 0x01, 0x00, 0x00, 0x80, 0x00, 0x80, 0x01, 0xE0, 0x40, 0x3C]

/-- The record of the worked figures: those of 02 (sectors), 05 (rating, derating), 06 and 07 (ring, twist, drives). -/
def record : Params where
  supervisor := 6
  statusInterval := 100
  ratedPower := 3800
  maxPower := 11400
  fallbackDemand := 9001
  fallbackRamp := 250
  fallbackRun := true
  fallbackYaw := true
  stopRamp := 500
  prechargeTime := 2000
  coolDown := 60
  derateStart := 450
  tripTemp := 550
  fanCapacity := 60
  lossFraction := 28
  flowGrace := 20
  dutyHours := 1
  counts := 5760
  markPosition := 100
  twistLimit := 17280
  untwistThreshold := 14400
  untwistWind := 120
  startTwist := -5
  sectorCount := 2
  sector1Start := 5632
  sector1Length := 256
  sector2Start := 128
  sector2Length := 128
  misalignment := 60
  overrunMargin := 16
  minDrives := 5
  holdoff := 30
  maskCritical := false
  maskMajor := false
  maskMinor := false
  maskInfo := true
  watermark := 24

/-- A peer's STATUS. -/
def peerStatus : StatusRecord where
  phase := .configured
  stringState := .run
  participant := .idle
  eligible := false
  twistKnown := true
  overflow := false
  pressure := false
  fanRole := .b
  fanStages := 2
  pumpOwner := .standby
  limit := 1900
  drives := 2
  setpoint := 1900
  reject := 0
  loss := 53
  supplyValid := true
  supply := 440
  referenced := true
  position := 5700
  unacked := 3
  twist := 16900
  serial := 17

/-- `peerStatus` written out byte by byte from the table under STATUS of 12 R194. -/
def statusBytes : List Byte :=
  [0xB0, 0x92, 0x27, 0x6C, 0x47, 0x6C, 0x00, 0x35, 0x81, 0xB8, 0x96, 0x44, 0x0C, 0x42, 0x04, 0x11]

/-- The entry of a PRESENT NT44 peer with a CURRENT record. -/
def peerEntry (r : StatusRecord) : PeerEntry where
  presence := .present
  silence := 0
  seen := .nt44
  record := some r
  standing := .current
  tripped := false
  serial := 17

/-- The entry of a PRESENT station without a record, as of the supervisor. -/
def supervisorEntry : PeerEntry := { PeerEntry.atReset with presence := .present, seen := .supervisor }

/-- Station 1 with pump A and two drives, its brakes applied, in phase UNCONFIGURED; stations 2 and 6 are PRESENT. -/
def fresh : State :=
  let s : State :=
    { State.reset with
      icu := Icu.atReset { station := 1, pumpRole := .a, fanRole := .a, drives := 2, fastLine := false }
      clc := Clc.atReset .a
      ywc := Ywc.atReset 2
      levels := { Levels.low with brakeApplied := true } }
  (s.setPeer 2 (peerEntry peerStatus)).setPeer 6 supervisorEntry

/-- The same station in phase CONFIGURED with `record`, its position and twist those of 07 section 7.8. -/
def configured : State :=
  { fresh with
    icu := { fresh.icu with phase := .configured, params := some record, serial := 17 }
    ywc := { fresh.ywc with
      turn := some { modulus := 5760, mark := 100 }
      position := 5700
      referenced := true
      twist := 16900
      known := true }
    stc := { fresh.stc with
      parts := some (limitParts record 0 (some 440) .flowOk)
      limit := 3800
      permit := true
      flow := .flowOk
      theta := some 440 } }

/-- The same station with its string in RUN at a setpoint, the contactor closed. -/
def running (setpoint : Nat) : State :=
  { configured with
    levels := { configured.levels with contactorClosed := true, dcLink := true, gridSync := true }
    stc := { configured.stc with
      state := .run
      mainCommand := true
      enable := true
      setpoint := setpoint } }

/-- A frame of the queue. -/
def queued (s : State) (kind : Kind) (payload : List Byte) : QueuedFrame := s.newFrame kind payload

/-- A frame of the queue in transmission. -/
def sending (s : State) (kind : Kind) (payload : List Byte) : QueuedFrame :=
  { s.newFrame kind payload with transmitting := true }

/-- A state with a transmit queue. -/
def withQueue (s : State) (q : List QueuedFrame) : State := { s with lif := { s.lif with queue := q } }

/-- A log entry of the worked log of 10 section 10.5. -/
def entry (n : Nat) (code : Code) (active : Bool) (report : Report) : Entry where
  number := n
  code := code
  cls := code.cls
  active := active
  report := report
  occurrences := 1
  first := 4000
  last := 4000
  value := 3

/-- The worked log of 10 section 10.5 at its start: 140 SUPERVISOR_LOST, 141 LINE_DEGRADED, 142 to 169 PEER_LOST. -/
def workedLog : List Entry :=
  [entry 140 .supervisorLost true .pending, entry 141 .lineDegraded true .pending]
    ++ (List.range 28).map (fun i => entry (142 + i) .peerLost false .masked)

/-- Station 1 with that log and entry counter 170. -/
def logged : State :=
  { configured with
    flu := { configured.flu with log := workedLog, counter := 170, seconds := 5000 } }

/-- The numbers of a log, oldest first. -/
def numbers (s : State) : List Nat := s.flu.log.map (·.number)

/-- The kinds of the transmit queue, head first. -/
def kinds (s : State) : List Kind := s.lif.queue.map (·.kind)

/-! ## Well-formed commands -/

theorem test_wf_unknown_kind : (Instr.unknownKindFrame 0x20 2).wellFormed = false := by decide
theorem test_wf_unknown_kind_ok : (Instr.unknownKindFrame 0x3F 2).wellFormed = true := by decide
theorem test_wf_fault_notice : (Instr.faultNotice 2 [0]).wellFormed = false := by decide
theorem test_wf_status : (Instr.status 2 [0]).wellFormed = false := by decide
theorem test_wf_status_ok : (Instr.status 2 statusBytes).wellFormed = true := by decide
theorem test_wf_trip_notice : (Instr.tripNotice 2 [0]).wellFormed = false := by decide
theorem test_wf_demand : (Instr.demand 2 [0]).wellFormed = false := by decide
theorem test_wf_wind : (Instr.wind 2 [0]).wellFormed = false := by decide
theorem test_wf_config_part : (Instr.configPart 2 [0]).wellFormed = false := by decide
theorem test_wf_station_reset : (Instr.stationReset 2 []).wellFormed = false := by decide
theorem test_wf_yaw_propose : (Instr.yawPropose 2 [0]).wellFormed = false := by decide
theorem test_wf_yaw_answer : (Instr.yawAnswer 2 [0]).wellFormed = false := by decide
theorem test_wf_yaw_commit : (Instr.yawCommit 2 [0]).wellFormed = false := by decide
theorem test_wf_yaw_drive : (Instr.yawDrive 2 [0]).wellFormed = false := by decide
theorem test_wf_yaw_halt : (Instr.yawHalt 2 [0]).wellFormed = false := by decide
theorem test_wf_pump_state : (Instr.pumpState 2 [0]).wellFormed = false := by decide
theorem test_wf_fault_ack : (Instr.faultAck 2 [0]).wellFormed = false := by decide

/-! ## The worked figures of the spec -/

/-- 12 R192: the generator and start value of the frame check are those whose check value over the bytes of "123456789"
is 29B1 (the value commonly quoted for them, not the spec's). -/
theorem test_crc_check_value :
    crcOf (payloadBits [0x31, 0x32, 0x33, 0x34, 0x35, 0x36, 0x37, 0x38, 0x39]) = 0x29B1#16 := by decide +kernel

/-- 12 R192: five equal bits are followed by one of the opposite level, which counts toward the next five. -/
theorem test_inserted_bits :
    stuffFrom true 0 [false, false, false, false, false, true, true, true, true, false] =
      [false, false, false, false, false, true, true, true, true, true, false, false] := by decide

/-- 02 worked figures: the overlapping sectors fail field 28. -/
theorem test_sectors_overlap : validate 1 { record with sector2Start := 64 } = some 28 := by decide +kernel

/-- 02 worked figures: sectors that touch pass. -/
theorem test_sectors_touch : validate 1 record = none := by decide +kernel

/-- 02 worked sequence: a sector 1 length of 200 fails field 26. -/
theorem test_sector_length : validate 1 { record with sector1Length := 200 } = some 26 := by decide +kernel

/-- 12 R194: the record bytes decode to the record. -/
theorem test_record_bytes : decodeRecord recordBytes = record := by decide +kernel

/-- 12 R194: the record is formed into the record bytes. -/
theorem test_record_formed : encodeRecord record = recordBytes := by decide +kernel

/-- 03 worked figures: wind angles. -/
theorem test_wind_angles :
    [(1799 : Int), 1800, -1801, 2000, 5400, -3700].map (fun a => (a + 1800) % 3600 - 1800) =
      [1799, -1800, 1799, -1600, -1800, -100] := by decide

/-- 04 worked sequence: the histories at 762 and, in the other course, at 1,010. -/
theorem test_trip_histories :
    tripHistory 762 [400, 700] = [400, 700, 762] ∧ historySpan [400, 700, 762] = 362 ∧
      tripHistory 1010 [400, 700] = [700, 1010] := by decide

/-- 05 worked figures: D_therm. -/
theorem test_therm :
    [some 300, some 450, some 451, some 487, some 500, some 549, some 550, none].map (dTherm 3800 450 550) =
      [3800, 3800, 3762, 2394, 1900, 38, 0, 0] := by decide

/-- 05 worked figures: L at e = 1 with 487, 500 and 510, and with the flow lost. -/
theorem test_limit :
    (limitParts record 1 (some 487) .flowOk).least = 1900 ∧ (limitParts record 1 (some 500) .flowOk).least = 1900 ∧
      (limitParts record 1 (some 510) .flowOk).least = 1520 ∧
      (limitParts record 1 (some 510) .flowLost).least = 0 := by decide

/-- A participant of a walk. -/
def sharer (station limit : Nat) : Sharer := { station := station, limit := limit }

/-- What each of six stations has in an allocation. -/
def shares (xs : List Share) : List Nat := [0, 1, 2, 3, 4, 5].map (fun n => shareOf n xs)

/-- 05 worked case: one station tripped, one derated. -/
theorem test_walk_derated :
    shares (allocate 9001 [sharer 0 3800, sharer 1 1900, sharer 2 3800]) = [3551, 1900, 3550, 0, 0, 0] := by decide +kernel

/-- 05 worked cases: demand above every limit, a remainder over several stations, a limit of 0, no demand. -/
theorem test_walk_edges :
    shares (allocate 12000 [sharer 0 3800, sharer 1 1900, sharer 2 3800]) = [3800, 1900, 3800, 0, 0, 0] ∧
      shares (allocate 10003 [sharer 0 3800, sharer 2 3800, sharer 4 3800, sharer 5 3800]) =
        [2501, 0, 2501, 0, 2501, 2500] ∧
      shares (allocate 5001 [sharer 0 3800, sharer 1 0, sharer 2 3800]) = [2501, 0, 2500, 0, 0, 0] ∧
      shares (allocate 0 [sharer 0 3800, sharer 1 1900, sharer 2 3800]) = [0, 0, 0, 0, 0, 0] := by decide +kernel

/-- 05 worked figures: ramp steps. -/
theorem test_ramp_steps :
    [rampStep 250 100, rampStep 250 20, rampStep 7 100, rampStep 1 250, rampStep 5000 250, rampStep 333 150] =
      [25, 5, 1, 1, 1250, 49] := by decide

/-- 05 worked figures: the round that reaches the target, and the loss at 3,225. -/
theorem test_ramped : ramped 3550 3551 25 3800 = 3551 ∧ ramped 3200 3551 25 3800 = 3225 ∧ lossOf 3225 28 = 90 := by decide

/-- 06 worked figures: the upper medians of the position vote. -/
theorem test_position_vote :
    upperMedian [10, 50, -10] = some 10 ∧ upperMedian [40, 50] = some 50 ∧
      upperMedian [signedTurn (5750 - 1000) 5760, signedTurn (20 - 1000) 5760] = some (-980) := by decide

/-- The configured station with a twist, a window of 16 angles and a fresh wind speed. -/
def aligning (twist : Int) (window : List Int) (speed : Nat) : State :=
  { configured with
    icu := { configured.icu with params := some { record with sectorCount := 0 } }
    ywc := { configured.ywc with twist := twist, window := window }
    ptb := { configured.ptb with wind := { angle := 0, speed := speed, fresh := true } } }

/-- Fifteen angles of 83 and one of 90: a sum of 1,335. -/
def window1335 : List Int := List.replicate 15 83 ++ [90]

/-- 06 worked figures, cases A, A', B. -/
theorem test_moves_found :
    (aligning 16900 window1335 95).proposalTest =
        .plan { purpose := .untwist, path := -11520, target := 5700 } ∧
      (aligning 16900 window1335 140).proposalTest = .plan { purpose := .align, path := 133, target := 73 } ∧
      (aligning 16900 (List.replicate 16 250) 140).proposalTest =
        .plan { purpose := .align, path := -5360, target := 340 } := by decide +kernel

/-- 06 worked figures, cases D, E, E'. -/
theorem test_moves_twisted :
    (aligning 17000 [] 100).proposalTest = .plan { purpose := .untwist, path := -11520, target := 5700 } ∧
      (aligning 23000 window1335 140).proposalTest = .blocked 133 ∧
      (aligning 23000 window1335 110).proposalTest =
        .plan { purpose := .untwist, path := -17280, target := 5700 } := by decide +kernel

/-- 06 worked figures: the rounding of an offset, and the short way through position 0. -/
theorem test_offsets :
    alignOffset 9 1000 = 3 ∧ alignOffset (-9) 1000 = -3 ∧ signedTurn (5000 - 100) 5760 = -860 := by decide

/-- 06 worked figures: case C and the touching sectors. -/
theorem test_clamped :
    clampTarget [{ start := 1024, length := 256 }] 5760 1200 = 1280 ∧
      [100, 5650, 200, 256].map (clampTarget record.sectors 5760) = [256, 5631, 256, 256] := by decide +kernel

/-- 09 worked figures: the vote. -/
theorem test_votes :
    voteOf 487 true [480, 520] = .own 487 ∧ voteOf 440 true [487, 490] = .median 487 ∧
      voteOf 487 true [500] = .own 487 ∧ voteOf 487 true [530] = .median 530 ∧ voteOf 530 true [487] = .own 530 ∧
      voteOf 2047 false [480, 487, 520] = .peers 487 ∧ voteOf 487 true [] = .own 487 ∧
      voteOf (-500) false [] = .noValue ∧ voteOf 486 true [456, 480, 516] = .own 486 := by decide

/-- 09 worked figures: the heat-based counts. -/
theorem test_heat_counts : [min 6 (ceilDiv 233 60), min 6 (ceilDiv 233 10), min 6 (ceilDiv 180 60)] = [4, 6, 3] := by decide

/-- 02 R23: role code 3 is taken as NONE, drive code 3 as 2. -/
theorem test_straps :
    latchStraps 0b1110111101#10 = { station := 5, pumpRole := .noRole, fanRole := .a, drives := 2, fastLine := true } := by
  decide

/-! ## Payloads written out from 12 R194 -/

theorem test_status_payload : encodeStatus peerStatus = statusBytes := by decide +kernel
theorem test_status_read : decodeStatus statusBytes = some peerStatus := by decide +kernel
theorem test_propose_payload : encodePropose 42 (-5360) 340 .align = [42, 0xFF, 0xEB, 0x10, 0x01, 0x54, 1, 0] := by decide
theorem test_answer_payload :
    encodeAnswer { proposer := 1, number := 42 } .refuse 1 .brake = [1, 42, 2, 1, 3] := by decide
theorem test_notice_payload :
    encodeNotice { entry 174 .brakeFeedback true .pending with value := -2, first := 5010, last := 5011 } =
      [0x00, 0xAE, 25, 1, 1, 1, 0xFF, 0xFE, 0, 0, 0x13, 0x92, 0, 0, 0x13, 0x93] := by decide +kernel
theorem test_pump_payload : encodePump .b .handingOff 60 = [2, 4, 1, 0, 60] := by decide
theorem test_link_word : linkWord true 3225 = 0x8C99#16 := by decide
/-- 12 R193: a code absent from its table. -/
theorem test_absent_codes :
    decodeTrip [0, 5] = none ∧ decodePump [0, 1, 0, 0, 0] = none ∧ decodeAck [8, 2, 0, 5] = none ∧
      decodePump [2, 4, 7, 0, 60] = some { pump := .b, owner := .handingOff, handover := true, duty := 60 } := by decide

/-! ## Single commands on small states -/

/-- 01 worked figures: 90 and a damaged frame give 98, the degraded flag and LINE_DEGRADED with value 98. -/
theorem test_damaged_degrades :
    let t := after .damagedFrame { configured with lif := { configured.lif with errors := 90 } }
    t.lif.errors = 98 ∧ t.lif.degraded = true ∧ t.flu.log.map (fun e => (e.code, e.value)) = [(.lineDegraded, 98)] := by
  decide +kernel

/-- 01 worked figures: the 43rd good frame brings 64 to 63 and clears the flag and the code. -/
theorem test_good_frame_restores :
    let s := after .damagedFrame { configured with lif := { configured.lif with errors := 90 } }
    let t := after (.unknownKindFrame 0x3F 2) { s with lif := { s.lif with errors := 64 } }
    t.lif.errors = 63 ∧ t.lif.degraded = false ∧ t.flu.members = [] := by decide +kernel

/-- The crowded queue of 01 after its step 1. -/
def crowded : State :=
  withQueue configured
    [queued configured .yawAnswer [1, 42, 1, 2, 0], queued configured .pumpState (encodePump .a .standby 0),
      queued configured .pumpState (encodePump .a .starting 0), queued configured .status statusBytes,
      queued configured .faultNotice (encodeNotice (entry 40 .peerLost false .inService)),
      queued configured .faultNotice (encodeNotice (entry 41 .peerLost false .inService)),
      queued configured .faultNotice (encodeNotice (entry 42 .peerLost false .inService)),
      queued configured .faultNotice (encodeNotice (entry 43 .peerLost false .inService))]

/-- 01 worked sequence, step 3: a YAW_HALT displaces the FAULT_NOTICE of entry 43. -/
theorem test_crowded_displacement :
    let r := crowded.requestUrgent .yawHalt [1, 42, 5]
    r.2 = true ∧ kinds r.1 =
        [.yawHalt, .yawAnswer, .pumpState, .pumpState, .status, .faultNotice, .faultNotice, .faultNotice] ∧
      r.1.lif.queue.getLast?.map (fun f => noticeNumber f.payload) = some (some 42) := by decide +kernel

/-- 01 worked sequence, step 2: the new STATUS takes the old one's place. -/
theorem test_crowded_status :
    let t := after .statusIntervalExpiry crowded
    kinds t = kinds crowded ∧ t.lif.queue.map (fun f => f.payload == statusBytes) ≠
      crowded.lif.queue.map (fun f => f.payload == statusBytes) ∧ t.lif.statusPlace = none := by decide +kernel

/-- 01 worked sequence, steps 6 and 7: the frame leaves, and the held FAULT_NOTICE of entry 43 finds the free place. -/
theorem test_crowded_place_free :
    let s := (crowded.requestUrgent .yawHalt [1, 42, 5]).1
    let u : State :=
      { s with
        lif := { s.lif with queue := s.lif.queue.map (fun f => { f with transmitting := f.kind == .yawHalt }) }
        flu := { s.flu with
          log := [entry 43 .peerLost false .inService]
          held := [{ number := 43, cls := .info }] } }
    let t := after .frameGoneOutWhole u
    kinds t = [.yawAnswer, .pumpState, .pumpState, .status, .faultNotice, .faultNotice, .faultNotice, .faultNotice] ∧
      t.flu.held = [] ∧ t.lif.holders.flu = false := by decide +kernel

/-- 01 R5, R12: a STATUS at its sixteenth failure has LINE_TX_FAIL raised before the waiting STATUS is offered. -/
theorem test_status_sixteenth :
    let f := { sending configured .status statusBytes with attempts := 15 }
    let s : State := { withQueue configured [f] with lif := { configured.lif with queue := [f], statusPlace := some [1] } }
    let t := after .readBackMismatch s
    t.flu.log.map (fun e => (e.code, e.value)) = [(.lineTxFail, 0x20)] ∧
      t.lif.queue.map (fun f => (f.payload, f.attempts)) = [([1], 0)] ∧ t.lif.statusPlace = none := by decide +kernel

/-- 01 R2: an idle line begins the head of the queue. -/
theorem test_line_idle_begins :
    (after .lineIdle crowded).lif.queue.map (·.transmitting) =
      [true, false, false, false, false, false, false, false] := by decide +kernel

/-- 02 worked sequence, steps 1 to 4: a part 1 finds the assembly empty, a part 0 begins one, a part 3 is out of turn. -/
theorem test_assembly_order :
    let part (k : Byte) : Instr := .configPart 6 ([1, 17, k] ++ List.replicate 8 0)
    (after (part 1) fresh).icu.assembly = none ∧
      ((after (part 0) fresh).icu.assembly.map (fun a => (a.serial, a.next, a.bytes.length))) = some (17, 1, 8) ∧
      (after (part 3) (after (part 0) fresh)).icu = (after (part 0) fresh).icu := by decide +kernel

/-- An assembly that lacks its part 5. -/
def almost (s : State) (bytes : List Byte) : State :=
  { s with icu := { s.icu with assembly := some { serial := 17, next := 5, bytes := bytes.take 40 } } }

/-- 02 R29, R33: the last part of the worked record configures the station. -/
theorem test_record_accepted :
    let t := after (.configPart 6 ([8, 17, 5] ++ recordBytes.drop 40)) (almost fresh recordBytes)
    t.icu.phase = .configured ∧ t.icu.params = some record ∧ t.icu.serial = 17 ∧ t.ywc.twist = -5 ∧
      t.stc.shareTimer = some 100 := by decide +kernel

/-- 02 R37: a pump owner's queue after a full reset holds one PUMP_STATE. -/
theorem test_full_reset :
    let t := after (.fullReset 0b0000001001#10 Levels.low) configured
    t.icu.straps.station = 1 ∧ t.icu.phase = .unconfigured ∧ kinds t = [.pumpState] ∧ t.ywc.known = false := by
  decide +kernel

/-- 06 R110; 02 R34: a line reset that names the station keeps position and twist. -/
theorem test_station_reset :
    let t := after (.stationReset 6 [1]) (running 3210)
    t.icu.phase = .unconfigured ∧ t.stc.mainCommand = false ∧ t.ywc.position = 5700 ∧ t.ywc.twist = 16900 ∧
      t.icu.straps.station = 1 := by decide +kernel

/-- 03 R44: a STATUS clears the tripped override. -/
theorem test_status_taken :
    let s := configured.setPeer 2 { supervisorEntry with tripped := true }
    let t := after (.status 2 statusBytes) s
    (t.peer 2).record = some peerStatus ∧ (t.peer 2).tripped = false ∧ (t.peer 2).standing = .current ∧
      (t.peer 2).seen = .nt44 := by decide +kernel

/-- 03 R45, 05 R87: a TRIP_NOTICE takes the peer out of the running peers. -/
theorem test_trip_notice :
    configured.runningPeers.length = 1 ∧ (after (.tripNotice 2 [3, 5]) configured).runningPeers = [] := by decide +kernel

/-- 03 R50: 5,400 is taken as -1,800, and 750 as 600. -/
theorem test_wind :
    (after (.wind 6 [0x15, 0x18, 0x02, 0xEE]) configured).ptb.wind = { angle := -1800, speed := 600, fresh := true } := by
  decide +kernel

/-- 03 R47: P_max caps the demand, and a ramp of 0 is taken as 1. -/
theorem test_demand :
    (after (.demand 6 [0xFF, 0xFF, 0, 0, 2, 0]) configured).ptb.demand =
      { power := 11400, ramp := 1, run := true, yaw := false, fresh := true } := by decide +kernel

/-- 03 R41: the third silent round makes an entry ABSENT and its record OLD. -/
theorem test_silence :
    let t := after .silenceTimerExpiry (configured.setPeer 2 { peerEntry peerStatus with silence := 2 })
    (t.peer 2).presence = .absent ∧ (t.peer 2).standing = .old ∧ (t.peer 6).silence = 1 := by decide +kernel

/-- 04 worked sequence, time 400: a modulator fault at s = 3,210. -/
theorem test_modulator_fault :
    let t := after (.modulatorFaultFeedback true) { running 3210 with flu := { configured.flu with seconds := 400 } }
    t.stc.state = .tripped ∧ t.stc.history = [400] ∧ t.stc.coolDownTimer = some 60000 ∧
      t.lif.queue.map (fun f => (f.kind, f.payload)) = [(.tripNotice, [3, 5])] ∧
      t.flu.log.map (fun e => (e.code, e.value)) = [(.modulatorFault, 3210)] := by decide +kernel

/-- A string in PRECHARGE at 762 with two trips behind it. -/
def precharging : State :=
  { configured with
    flu := { configured.flu with seconds := 762 }
    stc := { configured.stc with
      state := .precharge
      prechargeCommand := true
      prechargeTimer := some 2000
      history := [400, 700] } }

/-- 04 worked sequence, time 762: the third trip locks the string. -/
theorem test_third_trip :
    let t := after .prechargeTimerExpiry precharging
    t.stc.state = .locked ∧ t.stc.coolDownTimer = none ∧
      t.lif.queue.map (fun f => f.payload) = [[1, 6]] ∧
      t.flu.log.map (fun e => (e.code, e.value)) = [(.prechargeTimeout, 2000), (.repeatedTrips, 362)] := by decide +kernel

/-- 04 R60: DC-link ready, with one link update that carries enable on and setpoint 0. -/
theorem test_dc_link :
    let t := after (.dcLinkReady true) precharging
    t.stc.state = .sync ∧ t.stc.link = 0x8000#16 ∧ t.stc.linkSends = 2 := by decide +kernel

/-- 05 worked sequence, time 30: a derate halves L and cuts s at once; the loss is 53. -/
theorem test_derate_cut :
    let t := State.stcDerate (running 3550) 1
    t.stc.limit = 1900 ∧ t.stc.setpoint = 1900 ∧ t.stc.loss = 53 ∧ t.stc.linkSends = 2 := by decide +kernel

/-- 05 worked sequence, time 100: beside one peer at 1,900 a station at 1,900 stays, with no link update. -/
theorem test_share_round :
    let t := after .shareRoundExpiry (State.stcDerate (running 3550) 1)
    t.stc.target = 1900 ∧ t.stc.setpoint = 1900 ∧ t.stc.linkSends = 2 := by decide +kernel

/-- 06 R95: channel A changing with B low is a clockwise step, from 5,759 to 0. -/
theorem test_tooth_step :
    let t := after (.toothStep .a) { configured with ywc := { configured.ywc with position := 5759 } }
    t.ywc.position = 0 ∧ t.ywc.twist = 16901 := by decide +kernel

/-- 06 R98: a mark 9 counts away corrects the position and raises HEADING_SLIP with the correction. -/
theorem test_mark_edge :
    let t := after (.markEdge true) { configured with ywc := { configured.ywc with position := 109 } }
    t.ywc.position = 100 ∧ t.ywc.twist = 16900 ∧ t.flu.log.map (fun e => (e.code, e.value)) = [(.headingSlip, -9)] := by
  decide +kernel

/-- 06 R100: two peers 40 and 50 counts off disagree with value 50. -/
theorem test_check_vote :
    let s := (configured.setPeer 2 (peerEntry { peerStatus with position := 5740 })).setPeer 3
      (peerEntry { peerStatus with position := 5750 })
    let t := after .checkTimerExpiry s
    t.ywc.disagree = true ∧ t.flu.log.map (fun e => (e.code, e.value)) = [(.headingDisagree, 50)] := by decide +kernel

/-- The record of the worked move of 07 section 7.8 before station 5's answer. -/
def collecting : Proposal where
  ref := { proposer := 1, number := 42 }
  purpose := .align
  path := 133
  clockwise := true
  target := 73
  expected := 0x2E#8
  answers := ((((Vector.replicate 8 none).set 0 (some (.refuse .noDrives))).set 1 (some (.ready 2))).set 2
    (some (.ready 2))).set 3 (some (.refuse .brake))
  committed := 0
  released := 0
  count := 0
  phase := .collecting

/-- Station 1 of the worked move, in a participant state with a record. -/
def moving (p : Participant) (r : Option Proposal) : State :=
  { configured with
    ptb := { configured.ptb with entries := configured.ptb.entries.set 5 (peerEntry peerStatus) }
    ywc := { configured.ywc with
      participant := p
      move := some { ref := { proposer := 1, number := 42 }, path := 133, clockwise := true, count := 0 }
      proposal := r
      brakeRelease := p.holdsRelease
      answerTimer := match r with
        | some _ => some 250
        | none => none } }

/-- 07 worked move, time 5: the last expected answer commits stations 1, 2 and 5. -/
theorem test_last_answer :
    let t := after (.yawAnswer 5 [1, 42, 1, 2, 0]) (moving .answered (some collecting))
    t.ywc.participant = .releasing ∧ t.ywc.brakeRelease = true ∧ t.ywc.releaseTimer = some 4000 ∧
      t.lif.queue.map (fun f => (f.kind, f.payload)) = [(.yawCommit, [1, 42, 0x26])] := by decide +kernel

/-- 07 worked move, time 421: the last released station starts the motion at the proposer. -/
theorem test_last_released :
    let r := { collecting with phase := .committed, committed := 0x26#8, released := 0x22#8 }
    let t := after (.yawAnswer 2 [1, 42, 3, 2, 0]) (moving .released (some r))
    t.ywc.participant = .driving ∧ t.ywc.motors = { cw1 := true, ccw1 := false, cw2 := true, ccw2 := false } ∧
      t.ywc.proposal.map (·.phase) = some .moving ∧ kinds t = [.yawDrive] := by decide +kernel

/-- 07 worked move, time 8,900: the 133rd step ends the move at the proposer. -/
theorem test_move_reached :
    let s := moving .driving (some { collecting with phase := .moving, committed := 0x26#8, count := 132 })
    let t := after (.toothStep .a) s
    t.ywc.participant = .stopping ∧ t.ywc.proposal = none ∧ t.ywc.holdoffTimer = some 30000 ∧
      t.lif.queue.map (fun f => (f.kind, f.payload)) = [(.yawHalt, [1, 42, 1])] := by decide +kernel

/-- 07 worked sequence of a lost proposer: step 149 overruns a path of 133 with margin 16. -/
theorem test_overrun :
    let s := moving .driving none
    let m : Move := { ref := { proposer := 2, number := 42 }, path := 133, clockwise := true, count := 148 }
    let t := after (.toothStep .a) { s with ywc := { s.ywc with move := some m } }
    t.ywc.participant = .stopping ∧ t.lif.queue.map (fun f => f.payload) = [[2, 42, 2]] := by decide +kernel

/-- 07 worked sequence of two proposals, time 2: the lower proposer takes the participant over. -/
theorem test_lower_proposal :
    let s := moving .answered (some collecting)
    let t := after (.yawPropose 0 (encodePropose 19 133 73 .align))
      ((s.setPeer 0 (peerEntry peerStatus)).participate .answered)
    t.ywc.proposal = none ∧ t.ywc.moveRef = some { proposer := 0, number := 19 } ∧ t.ywc.holdoffTimer = none ∧
      t.ywc.participant = .answered := by decide +kernel

/-- 07 worked move, time 1: brakes that do not show applied refuse with BRAKE. -/
theorem test_refuses_brake :
    let s := { configured with levels := Levels.low }
    (after (.yawPropose 2 (encodePropose 42 133 73 .align)) s).lif.queue.map (fun f => f.payload) =
      [[2, 42, 2, 2, 3]] := by decide +kernel

/-- A station 4 that owns pump B, beside station 2 that owns pump A. -/
def pumpB : State :=
  { configured with
    icu := { configured.icu with straps := { configured.icu.straps with pumpRole := .b } }
    clc := { Clc.atReset .b with viewA := { owner := some 2, reported := .shown .running, handover := false } } }

/-- 08 worked handover, time 1: the handover request starts pump B. -/
theorem test_handover_taken :
    let t := after (.pumpState 2 [1, 4, 1, 0, 0]) pumpB
    t.clc.owner = .starting ∧ t.clc.incoming = true ∧ t.clc.pumpOutput = true ∧ t.clc.confirmTimer = some 10000 ∧
      t.lif.queue.map (fun f => f.payload) = [[2, 2, 0, 0, 0]] := by decide +kernel

/-- 08 worked handover, time 10,001: the confirm expiry fails pump B with value 1. -/
theorem test_confirm_fails :
    let t := after .flowConfirmExpiry (after (.pumpState 2 [1, 4, 1, 0, 0]) pumpB)
    t.clc.owner = .failed ∧ t.clc.incoming = false ∧ t.flu.log.map (fun e => (e.code, e.value)) = [(.pumpFailed, 1)] ∧
      t.flu.pumpLatch = true := by decide +kernel

/-- Station 1 handing pump A off to station 2's pump B. -/
def handing : State :=
  { configured with
    clc := { configured.clc with
      owner := .handingOff
      pumpOutput := true
      handoffTimer := some 11000
      viewB := { owner := some 2, reported := .shown .starting, handover := false } } }

/-- 08 worked handover, time 10,002: pump B FAILED brings pump A back to RUNNING with its counter loaded. -/
theorem test_handover_fails :
    let t := after (.pumpState 2 [2, 5, 0, 0, 0]) handing
    t.clc.owner = .running ∧ t.clc.duty = 60 ∧ t.clc.handoffTimer = none ∧
      t.lif.queue.map (fun f => f.payload) = [[1, 3, 0, 0, 60]] := by decide +kernel

/-- 08 worked sequence, 4,000,000: the flow switch fails a running pump with value 2, and the loop goes to FLOW_GRACE. -/
theorem test_no_flow :
    let s : State :=
      { configured with
        levels := { configured.levels with flow := true }
        clc := { configured.clc with owner := .running, pumpOutput := true, flow := .flowOk, dutyTimer := some 60000 } }
    let t := after .flowSwitchNoFlow s
    t.clc.owner = .failed ∧ t.clc.flow = .flowGrace ∧ t.clc.graceTimer = some 20000 ∧ t.stc.flow = .flowGrace ∧
      t.flu.log.map (fun e => (e.code, e.value)) = [(.pumpFailed, 2)] := by decide +kernel

/-- 09 worked figures, second row: 440 beside 487 and 490 votes 487 and raises SENSOR_DISAGREE with -47. -/
theorem test_sample :
    let s := (configured.setPeer 2 (peerEntry { peerStatus with supply := 487 })).setPeer 3
      (peerEntry { peerStatus with supply := 490 })
    let t := after (.sampleTimerExpiry 440) s
    t.clc.theta = some 487 ∧ t.stc.theta = some 487 ∧
      t.flu.log.map (fun e => (e.code, e.value)) = [(.sensorDisagree, -47)] := by decide +kernel

/-- 09 R156, R160: a failed fan 1 of bank A hands its duty to fan 2. -/
theorem test_fan_fails :
    let fans := configured.clc.fans.set 0 { output := true, healthy := true, timer := some 5000 }
    let t := after (.fanFeedbackTimerExpiry 0) { configured with clc := { configured.clc with fans := fans, nFan := 1 } }
    t.clc.fans[0] = { output := false, healthy := false, timer := none } ∧ t.clc.fans[1].output = true ∧
      t.flu.log.map (fun e => (e.code, e.value)) = [(.fanFailed, 1)] := by decide +kernel

/-- The worked log of 10 section 10.5 after its steps 1 to 3. -/
def loggedThree : State :=
  ((logged.raiseNow .peerLost 3).raiseNow .peerLost 3).raiseNow .headingSlip (-12)

/-- 10 worked log, step 3: HEADING_SLIP removes the oldest PEER_LOST, 142. -/
theorem test_log_full :
    numbers loggedThree = [140, 141] ++ (List.range 30).map (fun i => 143 + i) ∧ loggedThree.flu.counter = 173 ∧
      loggedThree.flu.overflow = false := by decide +kernel

/-- 10 worked log, steps 5 and 6: a PEER_LOST is not stored; BRAKE_FEEDBACK removes 143 and brings derate 2. -/
theorem test_log_overflow :
    let s := loggedThree.raiseNow .peerLost 3
    let t := s.raiseNow .brakeFeedback 2
    s.flu.counter = 174 ∧ s.flu.overflow = true ∧ numbers s = numbers loggedThree ∧
      numbers t = [140, 141] ++ (List.range 29).map (fun i => 144 + i) ++ [174] ∧ t.flu.exponent = 2 ∧
      t.flu.yawLock = true ∧ t.stc.limit = 950 := by decide +kernel

/-- 10 R171: station seconds saturate. -/
theorem test_seconds :
    (after .stationClockExpiry { configured with flu := { configured.flu with seconds := 4294967295 } }).flu.seconds =
      4294967295 := by decide +kernel

/-- The log of 11 section 11.7 after its step 3, MINOR 141 IN_SERVICE. -/
def draining : State :=
  { configured with
    flu := { configured.flu with
      supervisor := true
      counter := 175
      log := [entry 140 .supervisorLost false .acked, entry 141 .lineDegraded false .inService]
        ++ (List.range 28).map (fun i => entry (144 + i) .peerLost false .masked)
        ++ [entry 172 .headingSlip false .pending, entry 174 .brakeFeedback false .acked]
      repeats := { configured.flu.repeats with minor := some 10000 } } }

/-- 11 worked sequence, step 4: the new CRITICAL entry removes 140 and goes into service beside the MINOR one. -/
theorem test_draining_raise :
    let t := draining.raiseNow .brakeFeedback 1
    (numbers t).head? = some 141 ∧ (inServiceOf .critical t.flu.log).map (·.number) = some 175 ∧
      (inServiceOf .minor t.flu.log).map (·.number) = some 141 ∧ unackedCount t.flu.log = 31 := by decide +kernel

/-- 11 worked sequence, step 5: FAULT_ACK CLASS MINOR. -/
theorem test_draining_ack :
    let t := after (.faultAck 6 [1, 2, 0, 3]) (draining.raiseNow .brakeFeedback 1)
    unackedCount t.flu.log = 29 ∧ t.flu.repeats.minor = none ∧ inServiceOf .minor t.flu.log = none ∧
      t.flu.pressure = true := by decide +kernel

/-- 11 R186: a repeat expiry sends the entry again. -/
theorem test_notice_repeat :
    let t := after (.noticeRepeatExpiry .minor) draining
    t.lif.queue.map (fun f => noticeNumber f.payload) = [some 141] ∧ t.flu.repeats.minor = none := by decide +kernel

/-! ## Witnesses: states and operands that meet the hypotheses of each statement -/

/-- A running station with a full queue, a full log and a command waiting. -/
def stepping : State :=
  { running 3210 with
    lif := crowded.lif
    flu := { configured.flu with log := (List.range 32).map (fun i => entry i .peerLost false .masked) }
    pending := [.stationClockExpiry] }

theorem witness_record_held : stepping.RecordHeld ∧ State.reset.RecordHeld := by
  refine ⟨?_, rfl⟩
  show validate 1 record = none ∧ stepping.icu.assembly = none ∧ stepping.icu.reject = 0
  decide +kernel
theorem witness_invariants :
    stepping.StringOutputs ∧ stepping.SetpointHeld ∧ stepping.YawOutputs ∧ stepping.PumpOutput ∧
      stepping.QueueHeld ∧ stepping.LogHeld ∧ stepping.Calm ∧ stepping.Tabled := by
  unfold State.StringOutputs State.SetpointHeld State.YawOutputs State.PumpOutput State.QueueHeld State.LogHeld
    State.Calm State.Indicated State.Tabled
  decide +kernel
theorem witness_log_ordered : stepping.LogOrdered ∧
    ({ configured with flu := { configured.flu with
      log := [entry 4095 .flowLost false .acked, entry 0 .headingSlip false .pending], counter := 4095 } } :
        State).LogOrdered := by
  unfold State.LogOrdered State.age
  decide +kernel
theorem witness_step : ∃ t, step stepping = .next t := ⟨_, rfl⟩
theorem witness_no_full_reset :
    (∀ pins first, Instr.toothStep .a ≠ .fullReset pins first) ∧ configured.ywc.known = true ∧
      ({ configured with flu := { configured.flu with overflow := true } } : State).flu.overflow = true :=
  ⟨fun _ _ h => Instr.noConfusion h, rfl, rfl⟩
theorem witness_frames :
    statusBytes.length = Kind.status.payloadLength ∧ [8#8].length = Kind.stationReset.payloadLength := by decide
theorem witness_status_ranges :
    peerStatus.InRange ∧
      { peerStatus with
        fanStages := 7
        limit := 8191
        drives := 3
        setpoint := 8191
        reject := 63
        loss := 511
        supply := -2048
        position := 16383
        unacked := 63
        twist := -131072
        serial := 255 }.InRange := by
  unfold StatusRecord.InRange
  decide
theorem witness_payload_ranges :
    (255 < 256 ∧ (-8388608 : Int) ≤ -8388608 ∧ (8388607 : Int) < 8388608 ∧ 65535 < 65536) ∧
      Ref.InRange { proposer := 255, number := 255 } ∧ Ref.InRange { proposer := 0, number := 0 } := by
  unfold Ref.InRange
  decide
theorem witness_record_fields :
    record.Fits ∧ { record with startTwist := -65536, watermark := 63, sector2Length := 65535, flowGrace := 63 }.Fits := by
  unfold Params.Fits
  decide
theorem witness_line_idle :
    configured.lif.transmits = false ∧ configured.lif.queue = [] ∧ crowded.lif.transmits = false ∧
      crowded.lif.queue.head?.isSome = true := by decide +kernel

/-- A queue with a YAW_HALT in transmission in front of a STATUS. -/
def haltSending (attempts : Nat) : State :=
  withQueue configured [{ sending configured .yawHalt [1, 42, 5] with attempts := attempts },
    queued configured .status statusBytes]

/-- A queue with a STATUS in transmission behind a YAW_ANSWER, and a STATUS waiting. -/
def statusSending : State :=
  let s := withQueue configured [queued configured .yawAnswer [1, 42, 1, 2, 0], sending configured .status statusBytes]
  { s with lif := { s.lif with statusPlace := some statusBytes } }

theorem witness_attempts :
    (haltSending 14).lif.queue =
        [] ++ { sending configured .yawHalt [1, 42, 5] with attempts := 14 } :: [queued configured .status statusBytes] ∧
      (∀ g ∈ [queued configured .status statusBytes], g.transmitting = false) ∧ 14 < 15 := by decide +kernel
theorem witness_attempts_status :
    statusSending.lif.queue =
        [queued configured .yawAnswer [1, 42, 1, 2, 0]] ++ sending configured .status statusBytes :: [] ∧
      (∀ g ∈ [queued configured .yawAnswer [1, 42, 1, 2, 0]], g.transmitting = false ∧ g.kind ≠ .status) ∧
      statusSending.lif.statusPlace = some statusBytes ∧
      (sending configured .status statusBytes).attempts < 15 := by decide +kernel
theorem witness_sixteenth : (haltSending 15).Calm ∧ (haltSending 15).NothingHeld ∧ (haltSending 15).flu.log = [] ∧
    (haltSending 15).flu.supervisor = false ∧ (haltSending 15).lif.queue.map (·.transmitting) = [true, false] ∧
    (haltSending 15).lif.queue.map (·.attempts) = [15, 0] := by
  unfold State.Calm State.Indicated State.NothingHeld
  decide +kernel
theorem witness_sixteenth_status :
    let f := { sending configured .status statusBytes with attempts := 15 }
    let s : State := { statusSending with lif := { statusSending.lif with queue := [] ++ f :: [] } }
    f.kind = .status ∧ f.transmitting = true ∧ 15 ≤ f.attempts ∧ s.lif.statusPlace = some statusBytes ∧
      s.lif.lineIdle = false := by decide +kernel

/-- A FAULT_NOTICE in transmission for an entry IN_SERVICE. -/
def noticeSending : State :=
  { withQueue configured [sending configured .faultNotice (encodeNotice (entry 43 .peerLost false .inService))] with
    flu := { configured.flu with log := [entry 43 .peerLost false .inService] } }

theorem witness_gone_out :
    (haltSending 0).NothingHeld ∧ noticeSending.NothingHeld ∧
      noticeSending.lif.queue.map (fun f => (f.kind, f.transmitting, noticeNumber f.payload)) =
        [(.faultNotice, true, some 43)] ∧
      noticeSending.inService 43 = some (entry 43 .peerLost false .inService) ∧ configured.inService 43 = none ∧
      noticeSending.lif.lineIdle = false ∧ statusSending.lif.lineIdle = false ∧
      statusSending.lif.statusPlace.isSome = true := by
  unfold State.NothingHeld
  decide +kernel
theorem witness_status_composed :
    configured.lif.statusTimer.isSome = true ∧ configured.lif.lineIdle = false ∧
      (withQueue configured (crowded.lif.queue.filter (fun f => f.kind != .status))).lif.hasStatus = false ∧
      (withQueue configured (crowded.lif.queue.filter (fun f => f.kind != .status))).lif.queue.length = 7 := by
  decide +kernel
theorem witness_status_replaced :
    crowded.lif.hasStatus = true ∧ (∀ f ∈ crowded.lif.queue, f.kind = .status → f.transmitting = false) ∧
      (∃ f ∈ statusSending.lif.queue, f.kind = .status ∧ f.transmitting = true) ∧
      (withQueue configured (List.replicate 8 (queued configured .wind []))).lif.hasStatus = false ∧
      8 ≤ (withQueue configured (List.replicate 8 (queued configured .wind []))).lif.queue.length := by decide +kernel
theorem witness_queue_places :
    crowded.lif.queue.Pairwise (fun g h => g.kind.code ≤ h.kind.code) ∧
      (displaced .yawHalt crowded.lif.queue).isSome = true ∧
      displaced .yawHalt (List.replicate 8 (queued configured .tripNotice [1, 5])) = none ∧
      displaced .yawHalt (List.replicate 8 (sending configured .status statusBytes)) = none := by decide +kernel
theorem witness_queue_full :
    let served : State := { crowded with flu := { crowded.flu with log := [entry 43 .peerLost false .inService] } }
    crowded.lif.lineIdle = false ∧ 8 ≤ crowded.lif.queue.length ∧ crowded.NothingHeld ∧ served.NothingHeld ∧
      (displaced .yawHalt crowded.lif.queue).map (fun x => (x.1.kind, noticeNumber x.1.payload)) =
        some (.faultNotice, some 43) ∧ crowded.inService 43 = none ∧
      served.inService 43 = some (entry 43 .peerLost false .inService) ∧ served.flu.supervisor = false := by
  unfold State.NothingHeld
  decide +kernel

/-- The configured station with a receive error counter and degraded flag. -/
def counting (errors : Nat) (degraded : Bool) : State :=
  { configured with lif := { configured.lif with errors := errors, degraded := degraded } }

theorem witness_counted :
    (counting 87 false).lif.errors + 8 < 96 ∧ 96 ≤ (counting 88 false).lif.errors + 8 ∧
      (counting 88 false).lif.degraded = false ∧ (counting 88 false).Calm ∧ (counting 250 true).lif.degraded = true := by
  unfold State.Calm State.Indicated
  decide +kernel

/-- The station degraded, one good frame from the clear. -/
def clearing : State :=
  let s := after .damagedFrame (counting 90 false)
  { s with lif := { s.lif with errors := 64 } }

theorem witness_clears :
    clearing.LogOrdered ∧ clearing.lif.degraded = true ∧ clearing.lif.errors ≤ 64 ∧ clearing.Calm ∧ clearing.Tabled ∧
      inMembers .lineDegraded clearing.flu.members = true ∧ (2 : Station) ≠ clearing.own := by
  unfold State.Calm State.Indicated State.Tabled State.LogOrdered State.age
  decide +kernel
theorem witness_frame_from :
    FrameFrom (.unknownKindFrame 0x3F 2) none 2 ∧ FrameFrom (.status 3 statusBytes) (some .status) 3 :=
  ⟨⟨_, rfl⟩, ⟨_, by decide, rfl⟩⟩
theorem witness_presence :
    let lost := configured.setPeer 6 { supervisorEntry with presence := .absent }
    (configured.peer 3).presence = .neverHeard ∧ (3 : Station) ≠ configured.own ∧ configured.Calm ∧
      configured.Tabled ∧ configured.lif.degraded = false ∧
      kindSeenAfter (configured.peer 3).seen (some .status) = .nt44 ∧ (lost.peer 6).presence = .absent ∧
      kindSeenAfter (lost.peer 6).seen none ≠ .nt44 ∧ lost.prm.supervisor = 6 ∧ lost.Calm ∧ lost.Tabled := by
  unfold State.Calm State.Indicated State.Tabled
  decide +kernel
theorem witness_mismatch :
    let differs := encodeStatus { peerStatus with serial := 18 }
    configured.Hears .status 2 differs ∧ configured.Tabled ∧ configured.ptb.mismatch = false ∧
      configured.flu.log.length < 32 ∧ (after (.status 2 differs) configured).ptb.mismatch = true := by
  unfold State.Hears State.Tabled
  decide +kernel
theorem witness_hears :
    (counting 65 true).Hears .faultNotice 2 (List.replicate 16 0) ∧ configured.Hears .status 2 statusBytes ∧
      configured.Hears .tripNotice 2 (encodeTrip .overtemp .tripped) ∧
      configured.Hears .wind 6 [0x15, 0x18, 0x02, 0xEE] ∧ decodeStatus statusBytes = some peerStatus ∧
      decodeWind [0x15, 0x18, 0x02, 0xEE] = some (5400, 750) := by
  unfold State.Hears
  decide +kernel
theorem witness_turned_away :
    (2 : Station) ≠ (counting 65 true).own ∧ ((counting 65 true).peer 2).presence = .present ∧
      64 < (counting 65 true).lif.errors ∧ Kind.demand.supervisorOnly = true ∧
      (counting 65 true).configured = true ∧ (2 : Station) ≠ (counting 65 true).prm.supervisor ∧
      fresh.configured = false ∧ (6 : Station) ≠ fresh.own ∧ (fresh.peer 6).presence = .present := by decide +kernel
theorem witness_demand :
    configured.Hears .demand 6 [0x2C, 0x89, 0x13, 0x89, 1, 0] ∧ configured.Calm ∧
      decodeDemand [0x2C, 0x89, 0x13, 0x89, 1, 0] = some { power := 11401, ramp := 5001, run := true, yaw := false } ∧
      configured.Hears .demand 6 [0x2C, 0x88, 0, 0, 1, 0] ∧
      decodeDemand [0x2C, 0x88, 0, 0, 1, 0] = some { power := 11400, ramp := 0, run := true, yaw := false } := by
  unfold State.Hears State.Calm State.Indicated
  decide +kernel
theorem witness_permits :
    let no : DemandFields := { power := 5000, ramp := 100, run := false, yaw := false }
    let refused : State := { configured with ptb := { configured.ptb with demand := { fresh := true, run := false, yaw := true, power := 0, ramp := 1 } } }
    decodeDemand [0x13, 0x88, 0, 100, 0, 0] = some no ∧ (running 3210).Hears .demand 6 [0x13, 0x88, 0, 100, 0, 0] ∧
      no.run ≠ (running 3210).effectiveRun ∧ (running 3210).Calm ∧ (running 3210).Tabled ∧ precharging.Calm ∧
      precharging.Tabled ∧ refused.effectiveRun = false ∧ refused.stc.state = .off ∧
      refused.levels.dcLink = false ∧ refused.levels.modulatorFault = false ∧ refused.stc.flow = .flowOk ∧
      0 < refused.stc.limit ∧ refused.stc.latch = false ∧ refused.effectiveYaw = true := by
  unfold State.Hears State.Calm State.Indicated State.Tabled
  decide +kernel

/-- The configured station with only station 2 PRESENT, its silence count at 2. -/
def lonely : State :=
  { configured with
    ptb := { configured.ptb with
      entries := (Vector.replicate 8 PeerEntry.atReset).set 2 { peerEntry peerStatus with silence := 2 }
      windTimer := some 2000 } }

theorem witness_peer_timers :
    lonely.ptb.windTimer.isSome = true ∧ configured.ptb.silenceTimer.isSome = true ∧
      (∀ n : Station, (configured.peer n).silence < 2) ∧ lonely.ptb.silenceTimer.isSome = true ∧
      (2 : Station) ≠ lonely.own ∧ (lonely.peer 2).presence = .present ∧ (lonely.peer 2).silence = 2 ∧
      (lonely.peer 2).standing = .current ∧ (∀ m : Station, m ≠ 2 → (lonely.peer m).presence ≠ .present) := by
  decide +kernel
theorem witness_silent :
    let silent := configured.setPeer 6 { supervisorEntry with silence := 2 }
    lonely.Calm ∧ lonely.Tabled ∧ lonely.ownsViewedPump 2 = false ∧ (2 : Station) ≠ lonely.prm.supervisor ∧
      (lonely.peer 2).seen = .nt44 ∧ lonely.flu.log.length < 31 ∧ silent.Calm ∧ silent.Tabled ∧
      silent.configured = true ∧ silent.prm.supervisor = 6 ∧ (silent.peer 6).presence = .present ∧
      (silent.peer 6).silence = 2 ∧ (silent.peer 6).seen ≠ .nt44 := by
  unfold State.Calm State.Indicated State.Tabled
  decide +kernel

/-- A CONFIG_PART payload with a target, serial and part index. -/
def partBytes (target serial index : Byte) : List Byte := [target, serial, index] ++ List.replicate 8 0

theorem witness_parts :
    fresh.Hears .configPart 6 (partBytes 1 17 0) ∧ fresh.configured = false ∧
      decodePart (partBytes 1 17 0) =
        some { target := 1, serial := 17, index := 0, bytes := List.replicate 8 0 } ∧
      fresh.targeted 1 = true ∧ fresh.targeted 8 = true ∧ fresh.targeted 2 = false := by
  unfold State.Hears
  decide +kernel
theorem witness_parts_ignored :
    (∃ f, decodePart (partBytes 8 0 0) = some f ∧ f.index = 0 ∧ f.serial = 0) ∧
      (∃ f, decodePart (partBytes 8 17 6) = some f ∧ 5 < f.index) ∧
      (∃ f, decodePart (partBytes 8 17 1) = some f ∧ f.index ≠ 0 ∧ fresh.icu.assembly = none) ∧
      ∃ f a, decodePart (partBytes 8 17 4) = some f ∧ (almost fresh recordBytes).icu.assembly = some a ∧ f.index ≠ 0 ∧
        f.index < 5 ∧ f.index ≠ a.next :=
  ⟨⟨_, rfl, rfl, rfl⟩, ⟨_, rfl, by decide⟩, ⟨_, rfl, by decide, rfl⟩, ⟨_, _, rfl, rfl, by decide, by decide, by decide⟩⟩
theorem witness_part_configured :
    configured.Hears .configPart 6 (partBytes 1 17 0) ∧ configured.configured = true ∧ configured.prm.supervisor = 6 := by
  unfold State.Hears
  decide +kernel
theorem witness_part_in_turn :
    let s := { fresh with icu := { fresh.icu with assembly := some { serial := 17, next := 4, bytes := [] } } }
    ∃ f a, decodePart (partBytes 8 17 4) = some f ∧ s.icu.assembly = some a ∧ f.index ≠ 0 ∧ f.index < 5 ∧
      f.index = a.next ∧ f.serial = a.serial :=
  ⟨_, _, rfl, rfl, by decide, by decide, by decide, by decide⟩
theorem witness_record_outcome :
    (almost fresh recordBytes).Hears .configPart 6 ([8, 17, 5] ++ recordBytes.drop 40) ∧
      decodePart ([8, 17, 5] ++ recordBytes.drop 40) =
        some { target := 8, serial := 17, index := 5, bytes := recordBytes.drop 40 } ∧
      validate 1 (decodeRecord (recordBytes.take 40 ++ recordBytes.drop 40)) = none ∧
      validate 1 (decodeRecord ((recordBytes.set 39 0xC8).take 40 ++ recordBytes.drop 40)) = some 26 := by
  unfold State.Hears
  decide +kernel
theorem witness_station_reset :
    configured.Hears .stationReset 6 [1] ∧ configured.Hears .stationReset 6 [8] ∧ configured.own.val = 1 ∧
      configured.Hears .stationReset 6 [2] := by
  unfold State.Hears
  decide +kernel
theorem witness_string_starts :
    precharging.levels.dcLink = false ∧ precharging.levels.gridSync = false ∧ precharging.stc.state = .precharge ∧
      precharging.stc.enable = false ∧ configured.stc.state ≠ .precharge ∧ configured.stc.state ≠ .sync ∧
      (after (.dcLinkReady true) precharging).stc.state = .sync ∧
      (after (.dcLinkReady true) precharging).levels.gridSync = false := by decide +kernel
theorem witness_trips :
    precharging.Calm ∧ precharging.stc.state.isActive = true ∧ precharging.stc.prechargeTimer.isSome = true ∧
      (tripHistory precharging.flu.seconds precharging.stc.history).length = 3 ∧ (running 3210).Calm ∧
      (running 3210).stc.state.isActive = true ∧ (running 3210).levels.modulatorFault = false ∧
      (tripHistory (running 3210).flu.seconds (running 3210).stc.history).length = 1 ∧
      (after (.dcLinkReady true) precharging).Calm ∧
      (after (.dcLinkReady true) precharging).stc.syncTimer.isSome = true ∧
      (after (.dcLinkReady true) precharging).stc.contactorTimer.isSome = true := by
  unfold State.Calm State.Indicated
  decide +kernel
theorem witness_contactor :
    (running 3210).levels.contactorClosed = (running 3210).stc.mainCommand ∧
      (after (.dcLinkReady true) precharging).levels.contactorClosed ≠
        (after (.dcLinkReady true) precharging).stc.mainCommand := by decide +kernel

/-- The configured station with a TRIPPED string that cools down, under a latch indication and a run permit. -/
def cooling (latch permit : Bool) : State :=
  { configured with
    stc := { configured.stc with
      state := .tripped
      coolDownTimer := some 60000
      permit := permit
      latch := latch }
    flu := { configured.flu with
      stringLatch := latch
      members := if latch then [{ code := .repeatedTrips, actions := Code.actions none .repeatedTrips }] else [] } }

/-- The running station, STOPPING with its run permit gone. -/
def stopping (setpoint : Nat) : State :=
  { running setpoint with stc := { (running setpoint).stc with state := .stopping, permit := false } }

theorem witness_cool_down :
    (cooling true true).Calm ∧ (cooling true true).stc.latch = true ∧ (cooling false false).Calm ∧
      (cooling false false).stc.latch = false ∧ (cooling false false).mayStart = false ∧
      (cooling false false).stc.coolDownTimer.isSome = true ∧ (cooling false false).stc.state = .tripped ∧
      (cooling false false).stc.enable = false ∧ (cooling false false).stc.setpoint = 0 ∧
      (cooling false true).Calm ∧ (cooling false true).stc.latch = false ∧ (cooling false true).mayStart = true ∧
      (cooling false true).levels.dcLink = false ∧ (cooling false true).levels.modulatorFault = false ∧
      (cooling false true).configured = true ∧ (cooling true true).Tabled ∧ (cooling false false).Tabled ∧
      (cooling false true).Tabled := by
  unfold State.Calm State.Indicated State.Tabled
  decide +kernel

/-- 04 R74, R59: an expiry with which the string-latch arrives fails the start test, and the latch then locks the string. -/
theorem test_cool_down_latch :
    let t := after (.coolDownExpiry true) (cooling false true)
    t.stc.state = .off ∧ (after (.ownNumberFrame 0x10) t).stc.state = .locked ∧
      (after (.coolDownExpiry false) (cooling false true)).stc.state = .precharge := by decide +kernel
theorem witness_stopping :
    (stopping 51).Calm ∧ (stopping 51).stc.shareTimer.isSome = true ∧ (stopping 51).stc.state = .stopping ∧
      max 1 ((stopping 51).prm.stopRamp * (stopping 51).period / 1000) = 50 ∧ (stopping 50).mayStart = false ∧
      (stopping 50).Calm := by
  unfold State.Calm State.Indicated
  decide +kernel
theorem witness_zero_hold :
    let s := { running 0 with stc := { (running 0).stc with limit := 0, zeroHoldTimer := some 30000 } }
    s.Calm ∧ s.stc.zeroHoldTimer.isSome = true ∧ s.stc.state = .run := by
  unfold State.Calm State.Indicated
  decide +kernel
theorem witness_share_round :
    (running 3200).Calm ∧ (running 3200).stc.shareTimer.isSome = true ∧ (running 3200).stc.state = .run ∧
      (running 3200).stc.setpoint ≤ (running 3200).stc.limit ∧
      shareOf (running 3200).own.val (allocate (running 3200).effectiveDemand (running 3200).sharers) = 3800 ∧
      (running 3200).stc.limit = 3800 := by
  unfold State.Calm State.Indicated
  decide +kernel
theorem witness_rating :
    500 ≤ ({ record with ratedPower := 500 } : Params).ratedPower ∧
      (limitParts { record with ratedPower := 500 } 3 none .flowOk).least = 0 ∧
      (limitParts { record with ratedPower := 500 } 3 (some 450) .flowOk).rDiv = 62 := by decide
theorem witness_sharers : (([sharer 0 3800, sharer 1 0, sharer 5 3800]).map (·.station)).Nodup := by decide

/-- A participant of another station's move, DRIVING with a count. -/
def driven (count : Int) : State :=
  { configured with
    ywc := { configured.ywc with
      participant := .driving
      move := some { ref := { proposer := 2, number := 42 }, path := 133, clockwise := true, count := count }
      stallTimer := some 3000
      motors := motorsOn 2 true
      brakeRelease := true } }

theorem not_reached {s : State} (h : s.ywc.proposal = none) : ¬ s.Reached := fun ⟨_, h', _⟩ => by simp [h] at h'

theorem witness_steps :
    (driven 147).hasSensors = true ∧ (driven 147).ywc.known = true ∧
      (¬ ((driven 147).stepped .a).Reached) ∧ (¬ ((driven 147).stepped .a).Overrun) ∧
      ¬ ((driven 147).stepped .a).Overtwisted := by
  refine ⟨by decide +kernel, rfl, ?_, ?_, ?_⟩
  · exact not_reached rfl
  · rintro ⟨-, m, h, hc⟩
    cases h
    exact absurd hc (by decide +kernel)
  · rintro ⟨-, -, h, -⟩
    exact absurd h (by decide +kernel)
theorem witness_move_ends :
    let s := moving .driving (some { collecting with phase := .moving, committed := 0x26#8, count := 132 })
    let w : State := { driven 60 with ywc := { (driven 60).ywc with twist := 17279 } }
    s.hasSensors = true ∧ s.lif.queue.length < 8 ∧ s.lif.lineIdle = false ∧ (s.stepped .a).Reached ∧
      (s.stepped .a).ywc.proposalRef = some { proposer := 1, number := 42 } ∧ ((driven 148).stepped .a).Overrun ∧
      (¬ ((driven 148).stepped .a).Reached) ∧ (w.stepped .a).Overtwisted ∧ (¬ (w.stepped .a).Reached) ∧
      (¬ (w.stepped .a).Overrun) ∧ (w.stepped .a).ywc.moveRef = some { proposer := 2, number := 42 } := by
  refine ⟨by decide +kernel, by decide +kernel, by decide +kernel, ⟨_, rfl, rfl, by decide +kernel⟩,
    by decide +kernel, ⟨by decide +kernel, _, rfl, by decide +kernel⟩, ?_,
    ⟨by decide +kernel, by decide +kernel, by decide +kernel, _, rfl, by decide +kernel⟩, ?_, ?_, by decide +kernel⟩
  · exact not_reached rfl
  · exact not_reached rfl
  · rintro ⟨-, m, h, hc⟩
    cases h
    exact absurd hc (by decide +kernel)
theorem witness_invalid_step :
    configured.ywc.invalidSteps ≠ 3 ∧ ({ driven 60 with ywc := { (driven 60).ywc with invalidSteps := 3 } } : State).Calm ∧
      (driven 60).ywc.move.isSome = true ∧ (driven 60).hasSensors = true := by
  unfold State.Calm State.Indicated
  decide +kernel
theorem witness_marks :
    configured.levels.mark = false ∧ configured.Calm ∧ fresh.ywc.turn = none ∧ fresh.hasSensors = true ∧
      configured.ywc.turn = some { modulus := 5760, mark := 100 } ∧ configured.ywc.referenced = true ∧
      8 < circularDistance configured.ywc.position 100 5760 ∧ circularDistance 92 100 5760 = 8 ∧
      circularDistance 109 100 5760 = 9 := by
  unfold State.Calm State.Indicated
  decide +kernel

/-- The station of case A' with the yaw permit, beside an unreferenced peer with drives. -/
def proposing : State :=
  let s := (aligning 16900 window1335 140).setPeer 2 (peerEntry { peerStatus with referenced := false })
  { s with ywc := { s.ywc with permit := true, checkTimer := some 100 } }

theorem witness_check :
    proposing.ywc.checkTimer.isSome = true ∧ proposing.Calm ∧ proposing.headingMedian = none ∧
      proposing.eligible = true ∧ proposing.defers = false ∧
      proposing.proposalTest = .plan { purpose := .align, path := 133, target := 73 } ∧
      proposing.expectedSet ≠ stationBit proposing.own ∧ fresh.ywc.checkTimer.isSome = true ∧ fresh.Calm ∧
      fresh.ywc.disagree = false ∧ fresh.headingMedian = none ∧ fresh.eligible = false := by
  unfold State.Calm State.Indicated
  decide +kernel
theorem witness_vote :
    let s := configured.setPeer 2 (peerEntry { peerStatus with position := 5740 })
    let t := after .checkTimerExpiry s
    let u := t.setPeer 2 (peerEntry peerStatus)
    s.ywc.checkTimer.isSome = true ∧ s.Calm ∧ s.Tabled ∧ s.headingMedian = some 40 ∧ s.ywc.disagree = false ∧
      s.eligible = false ∧ u.Calm ∧ u.Tabled ∧ u.ywc.disagree = true ∧ u.headingMedian = some 0 ∧
      u.ywc.checkTimer.isSome = true := by
  unfold State.Calm State.Indicated State.Tabled
  decide +kernel
theorem witness_check_outcomes :
    let yawing (s : State) : State := { s with ywc := { s.ywc with permit := true, checkTimer := some 100 } }
    let defers := proposing.setPeer 0 (peerEntry { peerStatus with eligible := true, referenced := false })
    let blocked := yawing (aligning 23000 window1335 140)
    let idle := yawing (aligning 100 [] 140)
    let alone := { proposing with ptb := { proposing.ptb with entries := Vector.replicate 8 PeerEntry.atReset } }
    defers.eligible = true ∧ (defers.peerShowing 0).map (fun r => (r.drives, r.eligible)) = some (2, true) ∧
      blocked.eligible = true ∧ blocked.Calm ∧ blocked.proposalTest = .blocked 133 ∧
      blocked.headingMedian = some 0 ∧ idle.eligible = true ∧ idle.Calm ∧ idle.proposalTest = .nothing ∧
      alone.Calm ∧ alone.eligible = true ∧ alone.expectedSet = stationBit alone.own ∧
      alone.proposalTest = .plan { purpose := .align, path := 133, target := 73 } ∧ alone.defers = false := by
  unfold State.Calm State.Indicated
  decide +kernel
theorem witness_moves :
    let c : State := { configured with ywc := { configured.ywc with window := List.replicate 16 100 } }
    (∀ w t v, (aligning t w v).RecordHeld ∧ (aligning t w v).configured = true) ∧ c.RecordHeld ∧ c.configured = true ∧
      record.untwistThreshold ≤ (aligning 16900 window1335 95).ywc.twist.natAbs ∧ window1335.length = 16 ∧
      window1335.sum.tdiv 16 = 83 ∧ (List.replicate 16 (59 : Int)).sum.tdiv 16 < record.misalignment ∧
      c.ptb.wind.fresh = false ∧ alignOffset 100 5760 = 160 ∧ clampTarget c.prm.sectors 5760 100 = 256 ∧
      c.proposalTest = .plan { purpose := .align, path := 316, target := 256 } := by
  have h : validate 1 { record with sectorCount := 0 } = none := by decide +kernel
  have h' : validate 1 record = none := by decide +kernel
  exact ⟨fun _ _ _ => ⟨⟨h, rfl, rfl⟩, rfl⟩, ⟨h', rfl, rfl⟩, by decide +kernel⟩
theorem witness_sectors : record.Forbids 5632 ∧ record.Forbids 127 ∧ record.Forbids 255 ∧ (¬ record.Forbids 256) ∧
    ¬ record.Forbids 5631 := by
  unfold Params.Forbids
  decide +kernel
theorem witness_holdoff :
    let s (stall : Bool) : State := { configured with ywc := { configured.ywc with holdoffTimer := some 30000, stall := stall } }
    (s true).ywc.holdoffTimer.isSome = true ∧ (s true).Calm ∧ (s true).ywc.stall = true ∧ (s false).ywc.stall = false := by
  unfold State.Calm State.Indicated
  decide +kernel
theorem witness_propose :
    configured.Hears .yawPropose 2 (encodePropose 255 380 73 .align) ∧ configured.ywc.participant = .idle ∧
      configured.ywc.proposal = none ∧ configured.lif.queue.length < 8 ∧ configured.ywc.lock = false ∧
      configured.levels.brakeApplied = true ∧ (configured.ywc.twist + 380).natAbs = configured.prm.twistLimit ∧
      fresh.Hears .yawPropose 2 (encodePropose 0 (-1) 0 .untwist) ∧ fresh.configured = false := by
  unfold State.Hears
  decide +kernel

/-- One state for each row of the refusal table, the twist one count past its limit in the last. -/
theorem witness_refusals :
    let straps := { configured.icu.straps with drives := 0 }
    let noDrives : State := { configured with icu := { configured.icu with straps := straps } }
    let locked : State := { configured with ywc := { configured.ywc with lock := true } }
    let released : State := { configured with levels := Levels.low }
    let payload := encodePropose 42 381 73 .align
    noDrives.Hears .yawPropose 2 payload ∧ noDrives.icu.straps.drives = 0 ∧ locked.Hears .yawPropose 2 payload ∧
      locked.icu.straps.drives = 2 ∧ locked.ywc.lock = true ∧ released.Hears .yawPropose 2 payload ∧
      released.ywc.lock = false ∧ released.levels.brakeApplied = false ∧ configured.Hears .yawPropose 2 payload ∧
      configured.ywc.known = true ∧ configured.prm.twistLimit < (configured.ywc.twist + 381).natAbs := by
  unfold State.Hears
  decide +kernel

/-- A participant of station 2's move in a state, its brakes applied or not. -/
def sharing (p : Participant) (applied : Bool) : State :=
  { configured with
    levels := { configured.levels with brakeApplied := applied }
    ywc := ({ configured.ywc with
      move := some { ref := { proposer := 2, number := 42 }, path := 133, clockwise := true, count := 0 } } : Ywc).enter p 2 }

theorem witness_competing :
    let payload := encodePropose 19 133 73 .align
    let from0 (s : State) : State := s.setPeer 0 (peerEntry peerStatus)
    let a := sharing .answered true
    let own (p : Participant) := from0 (moving p (some collecting))
    a.Hears .yawPropose 2 payload ∧ a.Hears .yawPropose 6 payload ∧ a.ywc.proposal = none ∧
      a.ywc.participant = .answered ∧ a.ywc.moveRef = some { proposer := 2, number := 42 } ∧
      (sharing .driving false).Hears .yawPropose 6 payload ∧ (own .answered).Hears .yawPropose 0 payload ∧
      (own .answered).ywc.proposal = some collecting ∧ (own .answered).own = 1 ∧
      (own .releasing).Hears .yawPropose 0 payload ∧ (own .braking).Hears .yawPropose 0 payload ∧
      (own .answered).Hears .yawPropose 2 payload ∧ (own .answered).lif.queue.length < 8 ∧
      collecting.phase ≠ .moving := by
  unfold State.Hears
  decide +kernel

/-- The proposer of the worked move, COLLECTING with only its own answer. -/
def opened : Proposal := { collecting with answers := (Vector.replicate 8 none).set 1 (some (.ready 2)) }

theorem witness_answers :
    let r : Proposal := { collecting with phase := .committed, committed := 0x26#8, released := 0x02#8 }
    let s := moving .answered (some opened)
    s.Hears .yawAnswer 2 (encodeAnswer { proposer := 1, number := 42 } .ready 2 .noReason) ∧
      s.ywc.proposal = some opened ∧
      answeredInFull { opened with answers := opened.answers.set 2 (some (.ready 2)) } = false ∧
      answeredInFull { opened with answers := opened.answers.set 2 (some (.refuse .busy)) } = false ∧
      (moving .released (some r)).Hears .yawAnswer 2
        (encodeAnswer { proposer := 1, number := 42 } .released 2 .noReason) ∧
      inSet r.committed 2 = true ∧ (r.released ||| stationBit 2) ≠ r.committed := by
  unfold State.Hears
  decide +kernel
theorem witness_answers_complete :
    let r : Proposal := { collecting with phase := .committed, committed := 0x26#8, released := 0x22#8 }
    let s := moving .answered (some collecting)
    let t := moving .released (some r)
    s.Hears .yawAnswer 5 (encodeAnswer { proposer := 1, number := 42 } .ready 2 .noReason) ∧
      answeredInFull { collecting with answers := collecting.answers.set 5 (some (.ready 2)) } = true ∧
      t.Hears .yawAnswer 2 (encodeAnswer { proposer := 1, number := 42 } .released 2 .noReason) ∧
      t.ywc.proposal = some r ∧ inSet r.committed 2 = true ∧ r.released ||| stationBit 2 = r.committed ∧
      t.lif.queue.length < 8 ∧ t.ywc.participant = .released ∧ s.ywc.participant ≠ .released ∧
      t.ywc.move.isSome = true ∧ t.ywc.twist.natAbs < t.prm.twistLimit := by
  unfold State.Hears
  decide +kernel
theorem witness_decision :
    let s := moving .answered (some collecting)
    s.ywc.answerTimer.isSome = true ∧ s.ywc.proposal = some collecting ∧ s.levels.brakeApplied = true ∧
      s.lif.queue.length < 8 ∧ s.lif.lineIdle = false ∧ readyDrives collecting.answers.toList = 4 ∧
      readyDrives (collecting.answers.set 5 (some (.ready 1))).toList = s.prm.minDrives ∧
      inSet (readySet collecting.answers) s.own = true ∧ inSet (readySet opened.answers) 2 = false := by decide +kernel
theorem witness_commit :
    let s := moving .answered none
    s.Hears .yawCommit 2 (encodeCommit { proposer := 1, number := 42 } 0x26#8) ∧ s.ywc.participant = .answered ∧
      s.ywc.moveRef = some { proposer := 1, number := 42 } ∧ inSet 0x26#8 s.own = true ∧ inSet 0x24#8 s.own = false ∧
      s.levels.brakeApplied = true ∧ configured.ywc.participant ≠ .answered := by
  unfold State.Hears
  decide +kernel

theorem witness_brakes :
    (sharing .releasing true).ywc.participant = .releasing ∧ (sharing .releasing true).levels.brakeApplied = true ∧
      (sharing .releasing true).ywc.move.map (·.ref.proposer) = some 2 ∧ (sharing .releasing true).own.val = 1 ∧
      (sharing .releasing true).ywc.brakeTimer.isSome = true ∧ (sharing .releasing true).Calm ∧
      (sharing .braking false).ywc.participant = .braking ∧ (sharing .braking false).levels.brakeApplied = false ∧
      (sharing .braking false).ywc.brakingTimer.isSome = true ∧ (sharing .braking false).Calm ∧
      (sharing .driving false).ywc.stallTimer.isSome = true ∧ (sharing .driving false).ywc.participant = .driving ∧
      (sharing .driving false).Calm ∧ (sharing .driving false).ywc.proposal = none := by
  unfold State.Calm State.Indicated
  decide +kernel
theorem witness_own_release :
    let r (set : StationSet) : Proposal := { collecting with phase := .committed, committed := 0x26#8, released := set }
    let s (set : StationSet) (w : Int) : State :=
      let t := moving .releasing (some (r set))
      { t with levels := { t.levels with brakeApplied := true }, ywc := { t.ywc with twist := w } }
    (s 0 16900).levels.brakeApplied = true ∧ (s 0 16900).ywc.participant = .releasing ∧
      (s 0 16900).ywc.move.map (·.ref) = some collecting.ref ∧ collecting.ref.proposer = (s 0 16900).own.val ∧
      (s 0 16900).ywc.proposal = some (r 0) ∧ inSet 0x26#8 (s 0 16900).own = true ∧
      (0#8 ||| stationBit (s 0 16900).own) ≠ 0x26#8 ∧ (0x24#8 ||| stationBit (s 0 16900).own) = 0x26#8 ∧
      (s 0x24#8 16900).lif.queue.length < 7 ∧ (s 0x24#8 16900).lif.lineIdle = false ∧
      (s 0x24#8 17280).ywc.known = true ∧ (s 0x24#8 17280).prm.twistLimit = 17280 ∧
      (s 0x24#8 17280).ywc.move.map (·.clockwise) = some true ∧ ¬ inSet 0x24#8 (s 0 16900).own = true := by decide +kernel

/-- 07 R120, R121: the proposer's own release completes the released set, and the station drives. -/
theorem test_own_release :
    let r : Proposal := { collecting with phase := .committed, committed := 0x26#8, released := 0x24#8 }
    let s := moving .releasing (some r)
    let t := after .brakeFeedbackReleased { s with levels := { s.levels with brakeApplied := true } }
    t.ywc.participant = .driving ∧ t.ywc.proposal.map (·.phase) = some .moving ∧ kinds t = [.yawDrive] := by decide +kernel
theorem witness_waits :
    (sharing .answered true).ywc.commitWait.isSome = true ∧ (sharing .released false).ywc.driveWait.isSome = true ∧
      (sharing .released false).levels.brakeApplied = false ∧ (sharing .stopping false).ywc.settleTimer.isSome = true ∧
      ({ moving .released (some { collecting with phase := .committed }) with
        ywc := { (moving .released (some collecting)).ywc with releaseTimer := some 4000 } } : State).ywc.proposal =
          some collecting := by decide +kernel
theorem witness_drive :
    (sharing .released false).Hears .yawDrive 2 (encodeDrive { proposer := 2, number := 42 }) ∧
      (sharing .released false).ywc.participant = .released ∧
      (sharing .released false).ywc.moveRef = some { proposer := 2, number := 42 } ∧
      (sharing .released false).ywc.twist.natAbs < (sharing .released false).prm.twistLimit ∧
      (sharing .idle true).ywc.participant ≠ .released := by
  unfold State.Hears
  decide +kernel
theorem witness_drive_winds :
    let s : State := { sharing .released false with ywc := { (sharing .released false).ywc with twist := 17280 } }
    s.Hears .yawDrive 2 (encodeDrive { proposer := 2, number := 42 }) ∧ s.ywc.participant = .released ∧
      s.ywc.known = true ∧ s.prm.twistLimit ≤ s.ywc.twist.natAbs ∧ s.ywc.move.map (·.clockwise) = some true ∧
      0 ≤ s.ywc.twist ∧ s.lif.queue.length < 8 := by
  unfold State.Hears
  decide +kernel
theorem witness_halt :
    (sharing .driving false).Hears .yawHalt 2 (encodeHalt { proposer := 2, number := 42 } .reached) ∧
      (sharing .driving false).ywc.participant ∈ [Participant.releasing, .released, .driving] ∧
      (sharing .driving false).ywc.proposalRef ≠ some { proposer := 2, number := 42 } ∧
      (sharing .driving false).ywc.moveRef ≠ some { proposer := 2, number := 43 } := by
  unfold State.Hears
  decide +kernel
theorem witness_halt_rows :
    let ref : Ref := { proposer := 1, number := 42 }
    let own (p : Participant) := moving p (some collecting)
    (own .answered).Hears .yawHalt 2 (encodeHalt ref .twist) ∧ (own .answered).ywc.participant = .answered ∧
      (own .answered).ywc.proposalRef = some ref ∧ (own .idle).ywc.proposalRef = some ref ∧
      (own .idle).ywc.participant = .idle ∧ (own .idle).Hears .yawHalt 2 (encodeHalt ref .stall) ∧
      (sharing .stopping false).Hears .yawHalt 2 (encodeHalt { proposer := 2, number := 42 } .fault) ∧
      (sharing .stopping false).ywc.participant = .stopping ∧ (sharing .braking false).ywc.participant = .braking ∧
      (sharing .braking false).ywc.moveRef = some { proposer := 2, number := 42 } := by
  unfold State.Hears
  decide +kernel

/-- Station 1 without a pump in phase UNCONFIGURED, its view of pump A from a station. -/
def viewing (owner : Station) : State :=
  { fresh with
    icu := { fresh.icu with straps := { fresh.icu.straps with pumpRole := .noRole } }
    clc := { Clc.atReset .noRole with viewA := { owner := some owner, reported := .shown .running, handover := false } } }

theorem witness_pump_reported :
    (viewing 6).Hears .pumpState 2 (encodePump .a .handingOff 0) ∧ (viewing 6).Calm ∧
      (viewing 6).icu.straps.pumpRole = .noRole ∧ (viewing 6).configured = false ∧ (2 : Station).val < (6 : Station).val ∧
      (viewing 2).Hears .pumpState 6 (encodePump .a .running 65535) ∧ ((viewing 2).peer 2).presence = .present := by
  unfold State.Hears State.Calm State.Indicated
  decide +kernel
theorem witness_pump_flow :
    let s (p : Params) (f : FlowState) : State :=
      { viewing 2 with
        icu := { (viewing 2).icu with phase := .configured, params := some p }
        clc := { (viewing 2).clc with flow := f, lostFlag := f == .flowLost } }
    (s record .flowOk).Hears .pumpState 2 (encodePump .a .standby 0) ∧ (s record .flowOk).Calm ∧
      (s record .flowOk).configured = true ∧ (s record .flowOk).anyRunning = true ∧
      (s record .flowLost).Hears .pumpState 2 (encodePump .b .running 1) ∧ (s record .flowLost).Calm ∧
      (s record .flowLost).clc.lostFlag = true := by
  unfold State.Hears State.Calm State.Indicated
  decide +kernel
theorem witness_pump_exchange :
    let lower := handing.setPeer 0 (peerEntry peerStatus)
    handing.ownPump = some .a ∧ handing.Calm ∧ handing.clc.conflict = false ∧ handing.clc.owner = .handingOff ∧
      handing.Hears .pumpState 2 (encodePump .a .running 0) ∧ handing.own < 2 ∧
      lower.Hears .pumpState 0 (encodePump .a .running 0) ∧ (0 : Station) < lower.own ∧
      handing.Hears .pumpState 2 (encodePump .b .failed 0) ∧ handing.Hears .pumpState 6 (encodePump .b .running 0) := by
  unfold State.Hears State.Calm State.Indicated
  decide +kernel
theorem witness_handover :
    let waiting : State := { pumpB with icu := { fresh.icu with straps := pumpB.icu.straps } }
    pumpB.ownPump = some .b ∧ pumpB.Hears .pumpState 2 (encodePump .a .handingOff 0) ∧ pumpB.Calm ∧
      pumpB.clc.owner = .standby ∧ pumpB.configured = true ∧ pumpB.clc.latch = false ∧ pumpB.levels.flow = false ∧
      waiting.configured = false ∧ waiting.Hears .pumpState 2 (encodePump .a .handingOff 0) ∧ waiting.Calm := by
  unfold State.Hears State.Calm State.Indicated
  decide +kernel
theorem witness_pump_starts :
    let b : State := { pumpB with clc := { Clc.atReset .b with startHold := some 15000 } }
    let a : State := { configured with clc := { configured.clc with owner := .starting, pumpOutput := true } }
    b.Calm ∧ b.icu.straps.pumpRole = .b ∧ b.clc.startHold.isSome = true ∧ b.mayStartPump = true ∧
      b.levels.flow = false ∧ b.countsRunning .a = false ∧ a.Calm ∧ a.icu.straps.pumpRole ≠ .b ∧
      a.clc.owner = .starting ∧ handing.Calm ∧ handing.clc.handoffTimer.isSome = true := by
  unfold State.Calm State.Indicated
  decide +kernel

/-- Station 1 running pump A with a duty count, pump B in a reported state from station 2. -/
def pumping (duty : Nat) (other : PumpOwner) : State :=
  { configured with
    levels := { configured.levels with flow := true }
    clc := { configured.clc with
      owner := .running
      pumpOutput := true
      duty := duty
      dutyTimer := some 60000
      viewB := { owner := some 2, reported := .shown other, handover := false } } }

/-- Pump B's owner in a state, its view of pump A from station 2. -/
def standingB (own a : PumpOwner) : State :=
  { pumpB with
    clc := { pumpB.clc with
      owner := own
      pumpOutput := own.runsPump
      viewA := { owner := some 2, reported := .shown a, handover := false } } }

theorem witness_pump_view_a :
    configured.Hears .pumpState 2 (encodePump .b .standby 0) ∧ configured.ownPump = some .a ∧ configured.Calm ∧
      configured.clc.owner = .standby ∧ configured.levels.flow = false ∧ configured.clc.latch = false ∧
      configured.configured = true ∧ (configured.clc.view .b).owner = none ∧
      ({ pumping 5 .standby with levels := configured.levels } : State).clc.owner = .running := by
  unfold State.Hears State.Calm State.Indicated
  decide +kernel
theorem witness_pump_view_b :
    let s := standingB .standby .running
    let r := standingB .running .failed
    s.Hears .pumpState 2 (encodePump .a .failed 0) ∧ s.Hears .pumpState 2 (encodePump .a .standby 65535) ∧
      s.ownPump = some .b ∧ s.Calm ∧ s.clc.owner = .standby ∧ (s.clc.view .a).owner = some 2 ∧
      r.Hears .pumpState 2 (encodePump .a .running 0) ∧ r.Calm ∧ r.clc.owner = .running := by
  unfold State.Hears State.Calm State.Indicated
  decide +kernel
theorem witness_pump_configured :
    let a := almost fresh recordBytes
    let b (o : PumpOwner) : State :=
      { a with
        icu := { a.icu with straps := { a.icu.straps with pumpRole := .b } }
        clc := (standingB .standby o).clc }
    a.icu.straps.pumpRole = .a ∧ a.anyRunning = false ∧ a.Calm ∧ a.clc.owner = .standby ∧ a.clc.latch = false ∧
      a.levels.flow = false ∧ a.Hears .configPart 6 ([8, 17, 5] ++ recordBytes.drop 40) ∧
      (b .failed).Hears .configPart 6 ([8, 17, 5] ++ recordBytes.drop 40) ∧ (b .failed).Calm ∧
      (b .failed).reported .a = .shown .failed ∧ (b .running).anyRunning = true ∧ (b .standby).anyRunning = false ∧
      (b .standby).reported .a ≠ .shown .failed := by
  unfold State.Hears State.Calm State.Indicated
  decide +kernel
theorem witness_pump_yields :
    let b : State := { pumpB with clc := { pumpB.clc with owner := .starting, pumpOutput := true } }
    let h : State := { pumpB with clc := { pumpB.clc with owner := .handingOff, pumpOutput := true, handoffTimer := some 1 } }
    b.Calm ∧ b.icu.straps.pumpRole = .b ∧ b.clc.incoming = false ∧ b.countsRunning .a = true ∧
      b.reported .a = .shown .running ∧ b.levels.flow = false ∧ b.clc.owner = .starting ∧ h.Calm ∧
      h.clc.handoffTimer.isSome = true ∧ h.countsRunning .a = true := by
  unfold State.Calm State.Indicated
  decide +kernel

theorem witness_pump_runs :
    (pumping 2 .standby).clc.dutyTimer.isSome = true ∧ 1 < (pumping 2 .standby).clc.duty ∧
      (pumping 1 .failed).clc.duty = 1 ∧ (pumping 1 .failed).otherReady = false ∧
      (pumping 1 .standby).otherReady = true ∧ (pumping 1 .standby).Calm ∧
      (pumping 1 .standby).clc.reportTimer.isSome = true ∧ (pumping 1 .standby).ownPump = some .a ∧
      (pumping 1 .standby).lif.queue.length < 8 := by
  unfold State.Calm State.Indicated
  decide +kernel
theorem witness_flow_failures :
    (pumping 2 .standby).Calm ∧ (pumping 2 .standby).clc.owner ≠ .failed ∧ (pumping 2 .standby).levels.flow = true ∧
      ({ configured with clc := { configured.clc with owner := .starting, confirmTimer := some 10000 } } :
        State).clc.confirmTimer.isSome = true ∧
      ({ running 3210 with clc := { configured.clc with flow := .flowGrace, graceTimer := some 20000 } } : State).Calm ∧
      (running 3210).stc.setpoint ≤ (running 3210).stc.limit ∧ (running 3210).configured = true := by
  unfold State.Calm State.Indicated
  decide +kernel
theorem witness_samples :
    configured.Calm ∧ configured.clc.sampleTimer.isSome = true ∧ (-400 : Int) ≤ (0xE70#12).toInt ∧
      (0x5DC#12).toInt = 1500 ∧ ¬ (-400 : Int) ≤ (0xE6F#12).toInt ∧
      upperMedian (1500 :: configured.peerReadings) = some 1500 := by
  unfold State.Calm State.Indicated
  decide +kernel
theorem witness_rivals :
    let rival (n : Station) := configured.setPeer n (peerEntry { peerStatus with fanRole := .a })
    configured.icu.straps.fanRole = .a ∧ configured.clc.fanConflict = false ∧ (rival 0).Calm ∧ (rival 3).Calm ∧
      ((rival 0).peerShowing 0).map (·.fanRole) = some .a ∧ ((rival 3).peerShowing 3).map (·.fanRole) = some .a ∧
      (0 : Station) < (rival 0).own ∧ (rival 3).own < 3 ∧
      (∀ n, (configured.peerShowing n).map (·.fanRole) ≠ some .a) ∧
      (after (.sampleTimerExpiry 440) { configured with clc := { configured.clc with nTemp := 1 } }).clc.nFan ≠
        configured.clc.nFan := by
  unfold State.Calm State.Indicated
  decide +kernel

/-- The configured station with fan 3 on and its feedback timer running. -/
def fanned : State :=
  { configured with
    clc := { configured.clc with
      fanStepTimer := some 60000
      fans := configured.clc.fans.set 2 { output := true, healthy := true, timer := some 5000 } } }

theorem witness_fans :
    fanned.clc.fanStepTimer.isSome = true ∧ fanned.levels.fans[(2 : Fin 3)] = !true ∧ fanned.Calm ∧
      fanned.clc.fans[(2 : Fin 3)].timer.isSome = true := by
  unfold State.Calm State.Indicated
  decide +kernel
theorem witness_seconds : configured.flu.clockTimer.isSome = true ∧ configured.flu.seconds < 4294967295 := by decide +kernel
theorem witness_selection :
    let log := draining.flu.log.map (fun e => if e.number = 141 then { e with report := .acked } else e)
    let s : State := { draining with flu := { draining.flu with log := log } }
    let f := queued draining .faultNotice (encodeNotice (entry 141 .lineDegraded false .inService))
    draining.flu.supervisor = true ∧ selected draining.flu.log = none ∧
      selected log = some (entry 172 .headingSlip false .pending) ∧ s.flu.supervisor = true ∧
      s.lif.queue.length < 8 ∧ s.lif.lineIdle = false ∧ 8 ≤ ({ s with lif := crowded.lif } : State).lif.queue.length ∧
      f.kind = .faultNotice ∧ noticeNumber f.payload = some 141 ∧
      draining.inService 141 = some (entry 141 .lineDegraded false .inService) ∧ s.inService 141 = none ∧
      configured.flu.supervisor = false := by decide +kernel
theorem witness_announcement_served :
    draining.Hears .faultAck 6 [1, 2, 0, 3] ∧ decodeAck [1, 2, 0, 3] = some (1, .ofClass .minor) ∧
      draining.targeted 1 = true ∧
      (∃ e ∈ draining.flu.log, decide (e.cls = .minor) = true ∧ e.report = .inService) := by
  unfold State.Hears
  decide +kernel
theorem witness_announcement :
    (draining.flu.repeats.timer .minor).isSome = true ∧
      inServiceOf .minor draining.flu.log = some (entry 141 .lineDegraded false .inService) ∧
      draining.lif.queue.length < 8 ∧ logged.Hears .faultAck 6 [1, 1, 0, 140] ∧
      decodeAck [1, 1, 0, 140] = some (1, .one 140) ∧ (∀ e ∈ logged.flu.log, e.report ≠ .inService) ∧
      logged.targeted 1 = true ∧ logged.targeted 8 = true ∧ logged.targeted 2 = false := by
  unfold State.Hears
  decide +kernel
theorem witness_raises :
    latestOf .lineDegraded logged.flu.log = some (entry 141 .lineDegraded true .pending) ∧
      (entry 141 .lineDegraded true .pending).report ≠ .acked ∧ logged.flu.log.length < 32 ∧
      logged.flu.supervisor = false ∧ logged.flu.log.head? = some (entry 140 .supervisorLost true .pending) ∧
      logged.flu.counter = 170 ∧ latestOf .headingSlip logged.flu.log = none := by decide +kernel
theorem witness_raises_again :
    let s : State := { logged with flu := { logged.flu with counter := 140 } }
    latestOf .supervisorLost [entry 140 .supervisorLost true .acked] = some (entry 140 .supervisorLost true .acked) ∧
      latestOf .peerLost logged.flu.log = some (entry 169 .peerLost false .masked) ∧
      s.flu.log = entry 140 .supervisorLost true .pending :: workedLog.tail ∧ workedLog.tail.length < 32 ∧
      s.flu.counter = 140 ∧ s.flu.supervisor = false := by decide +kernel
theorem witness_place_refused :
    let e := loggedThree.newEntry .peerLost 3
    let r := storeIn (loggedThree.newEntry .brakeFeedback 2) loggedThree.flu.log
    loggedThree.flu.log.length = 32 ∧ loggedThree.flu.supervisor = false ∧
      loggedThree.flu.log.head?.map (·.number) = some 140 ∧ loggedThree.flu.counter = 173 ∧
      storeIn e loggedThree.flu.log = (none, loggedThree.flu.log, false) ∧
      r = (some (entry 143 .peerLost false .masked), r.2.1, true) := by decide +kernel
theorem witness_place_made :
    loggedThree.flu.log.length = 32 ∧
      (storeIn (entry 173 .peerLost false .masked) loggedThree.flu.log).2.2 = false ∧
      (storeIn (entry 174 .brakeFeedback true .pending) loggedThree.flu.log).1.map (·.number) = some 143 ∧
      (storeIn (entry 176 .peerLost false .masked) draining.flu.log).1.map (·.number) = some 140 := by decide +kernel
theorem witness_condition_set :
    Code.isCondition .brakeFeedback = true ∧ Code.isCondition .headingSlip = false ∧ Code.isLatched .brakeFeedback = true ∧
      Code.isLatched .sensorSupply = false ∧
      inMembers .sensorSupply (configured.takeRaise .sensorSupply 0 none).flu.members = true := by decide +kernel

end Sys2Proof.Tests
end

section
/-! SUPPORT. What a WIND leaves behind: the misalignment window after a wind indication, the state after a WIND handed to
the PTB, and the WIND that is heard from a PRESENT source. -/

namespace Sys2Proof.Machine

/-- A wind indication changes at most the misalignment window, and that only at a station with drives (06 R101). -/
theorem State.ywcWind_eq (s : State) (angle : Int) :
    s.ywcWind angle =
      { s with ywc := { s.ywc with
        window := if s.hasSensors then pushAngle s.ywc.window angle else s.ywc.window } } := by
  unfold State.ywcWind
  cases s.hasSensors with
  | true => rfl
  | false => rfl

/-- A WIND handed to the PTB sets the wind record and its age timer and is otherwise its indication to the YWC. The test for
drives reads the straps, which the new record leaves as they are. -/
theorem State.takeWind_eq (s : State) (angle : Int) (speed : Nat) :
    s.takeWind angle speed =
      { s with
        ptb := { s.ptb with
          wind := { angle := windAngle angle, speed := min speed 600, fresh := true }
          windTimer := some 2000 }
        ywc := { s.ywc with
          window := if s.hasSensors then pushAngle s.ywc.window (windAngle angle) else s.ywc.window } } :=
  State.ywcWind_eq _ _

/-- A WIND that is heard reaches the PTB in the state after its count and its presence refresh (01 R16, R18). -/
theorem exec_wind_heard (s : State) (source : Station) (payload : List Byte) (angle : Int) (speed : Nat)
    (hh : s.Hears .wind source payload) (hd : decodeWind payload = some (angle, speed)) :
    exec (.wind source payload) s = .next ((s.heard (some .wind) source).takeWind angle speed) := by
  have he : exec (.wind source payload) s = execWind source payload s := rfl
  rw [he, execWind, State.receive_heard s .wind source payload _ hh, hd]

/-- Settles O22: the state after a WIND handed to the PTB, and the handing over of one that is heard. -/
theorem windTaken : Obligations.WindTaken := by
  unfold Obligations.WindTaken
  constructor
  · intro angle speed s
    rw [State.takeWind_eq, Nat.min_def]
    rfl
  · intro source payload angle speed s hh hd
    exact exec_wind_heard s source payload angle speed hh hd

end Sys2Proof.Machine
end

section
/-! SUPPORT. The divided rating R_div (05 R80): what stores the three parts of the limit and what leaves them as they stand, and
the arithmetic of the rating divided by the kept derate exponent. -/

namespace Sys2Proof.Machine

/-! ### The kept parts of the limit: the string's own operations leave them as they stand -/

/-- The parts of the limit are among what the frame of the STC keeps. -/
theorem State.parts_of_string {s t : State} (h : t.string = s.string) : t.stc.parts = s.stc.parts :=
  (congrArg Stc.parts h :)

theorem State.parts_ite (c : Prop) [Decidable c] (s t : State) :
    (if c then s else t).stc.parts = if c then s.stc.parts else t.stc.parts :=
  apply_ite (fun x : State => x.stc.parts) c s t

@[simp] theorem State.setString_parts (s : State) (st : StringState) :
    (s.setString st).stc.parts = s.stc.parts := rfl
@[simp] theorem State.setSetpoint_parts (s : State) (v : Nat) : (s.setSetpoint v).stc.parts = s.stc.parts := rfl
@[simp] theorem State.sendLink_parts (s : State) : s.sendLink.stc.parts = s.stc.parts := rfl
@[simp] theorem State.enterRun_parts (s : State) : s.enterRun.stc.parts = s.stc.parts := rfl

@[simp] theorem State.drive_parts (s : State) (st : StringState) (v : Nat) :
    (s.drive st v).stc.parts = s.stc.parts := by
  simp only [State.drive, State.parts_ite, State.sendLink_parts, State.setSetpoint_parts, State.setString_parts,
    ite_self]

@[simp] theorem State.cutSetpoint_parts (s : State) : s.cutSetpoint.stc.parts = s.stc.parts := by
  simp only [State.cutSetpoint, State.parts_ite, State.sendLink_parts, State.setSetpoint_parts, ite_self]

@[simp] theorem State.enterSync_parts (s : State) : s.enterSync.stc.parts = s.stc.parts := by
  simp only [State.enterSync, State.parts_ite, State.enterRun_parts, State.drive_parts, ite_self]

@[simp] theorem State.requestTrip_parts (s : State) (cause : TripCause) :
    (s.requestTrip cause).stc.parts = s.stc.parts := by
  have hr := State.parts_of_string (s.requestUrgent_string .tripNotice (encodeTrip cause s.stc.state))
  unfold State.requestTrip
  dsimp only
  split
  · exact hr
  · exact hr

@[simp] theorem State.raiseCause_parts (s : State) (raised : Option (Code × Int)) :
    (s.raiseCause raised).stc.parts = s.stc.parts := by
  cases raised <;> rfl

/-- A trip hands its raises to the FLU, which takes them up later: no derate indication comes back within it. -/
@[simp] theorem State.trip_parts (s : State) (cause : TripCause) (raised : Option (Code × Int)) :
    (s.trip cause raised).stc.parts = s.stc.parts := by
  simp only [State.trip, State.parts_ite, State.raise_stc, State.raiseCause_parts, State.requestTrip_parts,
    State.sendLink_parts, State.setSetpoint_parts, State.setString_parts, ite_self]

@[simp] theorem State.modulatorTrip_parts (s : State) : s.modulatorTrip.stc.parts = s.stc.parts :=
  s.trip_parts _ _

@[simp] theorem State.enterPrecharge_parts (s : State) : s.enterPrecharge.stc.parts = s.stc.parts := by
  unfold State.enterPrecharge
  dsimp only
  rw [State.parts_ite, State.modulatorTrip_parts, ite_self, State.parts_ite, State.enterSync_parts, ite_self]
  rfl

@[simp] theorem State.startTest_parts (s : State) : s.startTest.stc.parts = s.stc.parts := by
  simp only [State.startTest, State.parts_ite, State.enterPrecharge_parts, ite_self]

/-- Only OFF and RUN respond to a new limit (04 R58, R64). -/
@[simp] theorem State.respondToLimit_parts (s : State) : s.respondToLimit.stc.parts = s.stc.parts := by
  unfold State.respondToLimit
  split
  case h_1 => exact s.startTest_parts
  all_goals rfl

/-- Forming the limit in phase CONFIGURED stores the parts of the kept inputs; neither the cut nor the string's response
touches them again (05 R79). -/
theorem State.formLimit_parts (s : State) (hc : s.configured = true) :
    s.formLimit.stc.parts = some (limitParts s.prm s.stc.exponent s.stc.theta s.stc.flow) := by
  simp only [State.formLimit, if_pos hc, State.parts_ite, State.respondToLimit_parts, State.cutSetpoint_parts, ite_self]

/-! ### The divided rating -/

/-- Without a derate R_div is the rating (05 R80). -/
theorem rDiv_zero (rated : Nat) : rDiv rated 0 = rated := Nat.div_one rated

/-- R_div is least at the smallest rating with the largest exponent, where it is 62 kW (05 R80). -/
theorem le_rDiv {rated e : Nat} (hr : 500 ≤ rated) (he : e ≤ 3) : 62 ≤ rDiv rated e :=
  calc 62 = 500 / 2 ^ 3 := rfl
    _ ≤ rated / 2 ^ 3 := Nat.div_le_div_right hr
    _ ≤ rated / 2 ^ e := Nat.div_le_div_left (Nat.pow_le_pow_right Nat.zero_lt_two he) (Nat.two_pow_pos e)

/-- A limit of 0 comes from one of its three parts (05 R79). -/
theorem LimitParts.least_eq_zero (l : LimitParts) : l.least = 0 ↔ l.rDiv = 0 ∨ l.dTherm = 0 ∨ l.dFlow = 0 := by
  unfold LimitParts.least
  rw [Nat.min_eq_zero_iff, Nat.min_eq_zero_iff]

/-- Settles O32: the parts stored when the limit is formed, the rows of the table, and the bound at the smallest rating, which
leaves a limit of 0 to the temperature or the flow. -/
theorem dividedRating : Obligations.DividedRating := by
  unfold Obligations.DividedRating
  refine ⟨State.formLimit_parts, fun p theta flow => ⟨rDiv_zero p.ratedPower, rfl, rfl, rfl, fun hr e he => ?_⟩⟩
  have hd : 62 ≤ (limitParts p e theta flow).rDiv := le_rDiv hr he
  refine ⟨hd, fun hl => ?_⟩
  obtain hz | hz := (LimitParts.least_eq_zero _).mp hl
  · omega
  · exact hz

end Sys2Proof.Machine
end

section
/-! SUPPORT. The station clock (10 R171): its seconds and its timer pass unchanged through everything the FLU does with a request,
through the arrival of a frame and through a line reset. Only a clock expiry and a full reset set them. -/

namespace Sys2Proof.Machine

/-- The station seconds and the clock timer that counts them (10 R171). -/
def State.clock (s : State) : Nat × Timer := (s.flu.seconds, s.flu.clockTimer)

/-- The clock is among the FLU's standing parts, so every frame lemma of those is one of the clock. -/
theorem State.clock_of_standing {s t : State} (h : t.standing = s.standing) : t.clock = s.clock :=
  (congrArg (fun f : FluStanding => (f.seconds, f.clockTimer)) h :)

theorem State.clock_ite (c : Prop) [Decidable c] (s t : State) :
    (if c then s else t).clock = if c then s.clock else t.clock := apply_ite State.clock c s t

/-! ### The taking of requests (10 R166) -/

/-- Of the standing parts, the indications alone are formed again (10 R168, R169). -/
@[simp] theorem State.indicate_clock (s : State) : s.indicate.clock = s.clock :=
  (congrArg (fun f : FluStanding => (f.seconds, f.clockTimer)) s.indicate_standing :)

@[simp] theorem State.makeEntry_clock (s : State) (code : Code) (v : Int) : (s.makeEntry code v).clock = s.clock := by
  simp only [State.makeEntry, State.clock_ite, State.clock_of_standing (State.select_standing _), ite_self,
    State.clock_of_standing (State.testPressure_standing _), State.clock_of_standing (State.removedIf_standing _ _)]
  rfl

@[simp] theorem State.logCondition_clock (s : State) (code : Code) (v : Int) : (s.logCondition code v).clock = s.clock := by
  unfold State.logCondition
  cases latestOf code s.flu.log with
  | none => exact s.makeEntry_clock code v
  | some e =>
    simp only [State.clock_ite, State.makeEntry_clock, State.clock_of_standing (State.setLog_standing _ _), ite_self]

@[simp] theorem State.logEvent_clock (s : State) (code : Code) (v : Int) : (s.logEvent code v).clock = s.clock := by
  unfold State.logEvent
  cases latestOf code s.flu.log with
  | none => exact s.makeEntry_clock code v
  | some e =>
    simp only [State.clock_ite, State.makeEntry_clock, State.clock_of_standing (State.setLog_standing _ _), ite_self]

@[simp] theorem State.stcTripRequest_clock (s : State) : s.stcTripRequest.clock = s.clock :=
  State.clock_of_standing s.stcTripRequest_standing

/-- A change of the condition set with its indications leaves the clock. -/
@[simp] theorem State.indicate_members_clock (s : State) (ms : List Member) :
    (State.indicate { s with flu := { s.flu with members := ms } }).clock = s.clock := State.indicate_clock _

theorem State.takeRaise_clock (s : State) (code : Code) (v : Int) (o : Option Origin) :
    (s.takeRaise code v o).clock = s.clock := by
  simp only [State.takeRaise, State.clock_ite, State.logCondition_clock, State.logEvent_clock, State.stcTripRequest_clock,
    State.indicate_members_clock, ite_self]

theorem State.takeClear_clock (s : State) (code : Code) : (s.takeClear code).clock = s.clock := by
  simp only [State.takeClear, State.clock_ite, State.clock_of_standing (State.setLog_standing _ _),
    State.indicate_members_clock, ite_self]

theorem State.serve_clock (s : State) (r : Request) : (s.serve r).clock = s.clock := by
  cases r with
  | raised code v o => exact s.takeRaise_clock code v o
  | cleared code => exact s.takeClear_clock code

theorem State.settleWithin_clock (n : Nat) (s : State) : (s.settleWithin n).clock = s.clock := by
  induction n generalizing s with
  | zero => rfl
  | succ n ih =>
    unfold State.settleWithin
    cases s.flu.inbox with
    | nil => rfl
    | cons r rest => exact (ih _).trans (State.serve_clock _ r)

@[simp] theorem State.settle_clock (s : State) : s.settle.clock = s.clock := s.settleWithin_clock 32

@[simp] theorem State.raiseNow_clock (s : State) (code : Code) (v : Int) (o : Option Origin) :
    (s.raiseNow code v o).clock = s.clock := State.settle_clock _

@[simp] theorem State.clearNow_clock (s : State) (code : Code) : (s.clearNow code).clock = s.clock := State.settle_clock _

/-! ### The arrival of a frame (01 R15 to R20) -/

@[simp] theorem State.damaged_clock (s : State) : s.damaged.clock = s.clock := by
  simp only [State.damaged, State.clock_ite, State.raiseNow_clock]
  exact ite_self _

@[simp] theorem State.countGood_clock (s : State) : s.countGood.clock = s.clock := by
  simp only [State.countGood, State.clock_ite, State.clearNow_clock]
  exact ite_self _

@[simp] theorem State.duplicate_clock (s : State) (kindCode : Nat) : (s.duplicate kindCode).clock = s.clock :=
  (State.raiseNow_clock _ _ _ _).trans s.countGood_clock

@[simp] theorem State.mismatchTest_clock (s : State) : s.mismatchTest.clock = s.clock := by
  have hset (v : Bool) : (s.setMismatch v).clock = s.clock := State.clock_of_standing (s.setMismatch_standing v)
  unfold State.mismatchTest
  split <;> simp only [State.clock_ite, State.raiseNow_clock, State.clearNow_clock, hset, ite_self]

@[simp] theorem State.mismatchAfter_clock (s : State) (n : Station) : (s.mismatchAfter n).clock = s.clock := by
  simp only [State.mismatchAfter, State.clock_ite, State.mismatchTest_clock, ite_self]

@[simp] theorem State.indicatePresence_clock (s : State) (n : Station) : (s.indicatePresence n).clock = s.clock := by
  simp only [State.indicatePresence, State.clock_ite, State.settle_clock, ite_self,
    State.clock_of_standing (State.supervisorIndication_standing _ _), State.clock_of_standing s.viewChanged_standing]

@[simp] theorem State.refresh_clock (s : State) (n : Station) (kind : Option Kind) : (s.refresh n kind).clock = s.clock := by
  simp only [State.refresh, State.clock_ite, State.mismatchAfter_clock, State.indicatePresence_clock, ite_self,
    State.clock_of_standing (State.setPeer_standing _ _ _)]

/-- The clock passes through the arrival of a frame whose owner leaves it. -/
theorem State.receive_clock (s : State) (kind : Kind) (source : Station) (payload : List Byte) (deliver : State → State)
    (hd : ∀ t : State, (deliver t).clock = t.clock) : (s.receive kind source payload deliver).clock = s.clock := by
  simp only [State.receive, State.clock_ite, State.duplicate_clock, State.damaged_clock, hd, State.refresh_clock,
    State.countGood_clock, ite_self]

/-! ### The resets (02 R35, R36) -/

@[simp] theorem State.reportAtReset_clock (s : State) : s.reportAtReset.clock = s.clock :=
  State.clock_of_standing s.requestPump_standing

/-- A full reset starts the clock at second 0. -/
theorem State.fullReset_clock (s : State) (pins : BitVec 10) (first : Levels) :
    (s.fullReset pins first).clock = (0, some 1000) := State.reportAtReset_clock _

/-- The clock is among what the FLU takes through a line reset. -/
theorem State.lineReset_clock (s : State) : s.lineReset.clock = s.clock := State.reportAtReset_clock _

/-- A STATION_RESET, whether it is damaged, turned away, for another station or taken, leaves the clock. -/
theorem exec_stationReset_clock (source : Station) (payload : List Byte) (s : State) :
    ∃ t, exec (.stationReset source payload) s = .next t ∧ t.clock = s.clock := by
  refine ⟨_, rfl, State.receive_clock s _ source payload _ fun t => ?_⟩
  cases decodeReset payload with
  | none => rfl
  | some target => simp only [State.clock_ite, State.lineReset_clock, ite_self]

/-! ### The clock expiry (10 R171) -/

/-- An expiry of the running clock timer starts it again and adds a second below the largest count. -/
theorem exec_stationClockExpiry_running (s : State) (h : s.flu.clockTimer.isSome = true) :
    exec .stationClockExpiry s = .next
      { s with flu := { s.flu with clockTimer := some 1000, seconds := min 4294967295 (s.flu.seconds + 1) } } := by
  have he : exec .stationClockExpiry s = execStationClockExpiry s := rfl
  rw [he, execStationClockExpiry, if_pos h]

/-- Counting on with a largest count is the sum's minimum with it. -/
theorem min_succ_eq_saturating (m n : Nat) : min m (n + 1) = if n < m then n + 1 else m := by
  split <;> omega

/-- Settles O55: the clock at the end of a full reset, at its own expiry and through a line reset. -/
theorem stationSeconds : Obligations.StationSeconds := by
  unfold Obligations.StationSeconds
  refine ⟨fun pins first s => ?fullReset, fun s h => ?expiry, fun source payload s => ?lineReset⟩
  case fullReset =>
    exact ⟨_, rfl, Prod.mk.inj (s.fullReset_clock pins first)⟩
  case expiry =>
    rw [exec_stationClockExpiry_running s h, min_succ_eq_saturating]
  case lineReset =>
    obtain ⟨t, he, hc⟩ := exec_stationReset_clock source payload s
    exact ⟨t, he, Prod.mk.inj hc⟩

end Sys2Proof.Machine
end

section
/-! SUPPORT. What every work of the blocks keeps, whatever it is: the straps, the standing of the record, the queue of commands, the
station clock, a known twist, a set overflow flag, and that the outputs follow their states. -/

namespace Sys2Proof.Machine

/-! ### What the invariants read -/

theorem State.StringOutputs.of_eq {s t : State} (h : s.StringOutputs) (hs : t.stc.state = s.stc.state)
    (hp : t.stc.prechargeCommand = s.stc.prechargeCommand) (hm : t.stc.mainCommand = s.stc.mainCommand)
    (he : t.stc.enable = s.stc.enable) : t.StringOutputs := by
  unfold State.StringOutputs at h ⊢
  rw [hs, hp, hm, he]
  exact h

theorem State.SetpointHeld.of_eq {s t : State} (h : s.SetpointHeld) (hs : t.stc.state = s.stc.state)
    (hv : t.stc.setpoint = s.stc.setpoint) (hl : t.stc.limit = s.stc.limit) : t.SetpointHeld := by
  unfold State.SetpointHeld at h ⊢
  rw [hs, hv, hl]
  exact h

/-- Work of the STC that keeps its outputs those of its state, and the setpoint its limit. -/
structure State.StringWork (s t : State) : Prop where
  outputs : s.StringOutputs → t.StringOutputs
  setpoint : s.SetpointHeld → t.SetpointHeld

theorem State.StringWork.refl (s : State) : s.StringWork s := ⟨id, id⟩

theorem State.StringWork.trans {s t u : State} (h : s.StringWork t) (k : t.StringWork u) : s.StringWork u :=
  ⟨k.outputs ∘ h.outputs, k.setpoint ∘ h.setpoint⟩

theorem State.StringWork.of_string {s t : State} (h : t.string = s.string) : s.StringWork t where
  outputs k := k.of_eq (congrArg Stc.state h :) (congrArg Stc.prechargeCommand h :) (congrArg Stc.mainCommand h :)
    (congrArg Stc.enable h :)
  setpoint k := k.of_eq (congrArg Stc.state h :) (congrArg Stc.setpoint h :) (congrArg Stc.limit h :)

/-- What the string's invariants read of the STC. -/
structure Driven where
  state : StringState
  prechargeCommand : Bool
  mainCommand : Bool
  enable : Bool
  setpoint : Nat
  limit : Nat

/-- The string's state with its commands, its setpoint and its limit. -/
def State.driven (s : State) : Driven :=
  ⟨s.stc.state, s.stc.prechargeCommand, s.stc.mainCommand, s.stc.enable, s.stc.setpoint, s.stc.limit⟩

/-- A change of the STC beside its state, commands, setpoint and limit. -/
theorem State.StringWork.of_driven {s t : State} (h : t.driven = s.driven) : s.StringWork t where
  outputs k := k.of_eq (congrArg Driven.state h :) (congrArg Driven.prechargeCommand h :)
    (congrArg Driven.mainCommand h :) (congrArg Driven.enable h :)
  setpoint k := k.of_eq (congrArg Driven.state h :) (congrArg Driven.setpoint h :) (congrArg Driven.limit h :)

/-- Work that follows other work. -/
theorem State.StringWork.after {s s' t : State} (k : s'.StringWork t) (h : s.StringWork s') : s.StringWork t := h.trans k

/-- A change of the STC that leaves its outputs those of its state, and the setpoint 0 or as it stands. -/
theorem State.StringWork.mk_zero {s t : State} (h : t.StringOutputs) (hv : t.stc.setpoint = 0) : s.StringWork t where
  outputs _ := h
  setpoint _ := ⟨by rw [hv]; exact Nat.zero_le _, .inr (.inr hv)⟩

theorem State.StringWork.ite {s t u : State} (c : Prop) [Decidable c] (ht : c → s.StringWork t) (hu : ¬ c → s.StringWork u) :
    s.StringWork (if c then t else u) := by
  split
  · exact ht ‹_›
  · exact hu ‹_›

/-! ### The string's operations -/

theorem State.drive_outputs (s : State) (st : StringState) (v : Nat) : (s.drive st v).StringOutputs := by
  unfold State.drive
  dsimp only
  split
  · exact ⟨rfl, rfl, rfl⟩
  · exact ⟨rfl, rfl, rfl⟩

@[simp] theorem State.drive_setpoint (s : State) (st : StringState) (v : Nat) : (s.drive st v).stc.setpoint = v := by
  unfold State.drive
  dsimp only
  split <;> rfl

@[simp] theorem State.drive_limit (s : State) (st : StringState) (v : Nat) : (s.drive st v).stc.limit = s.stc.limit := by
  unfold State.drive
  dsimp only
  split <;> rfl

/-- A move of the string with the setpoint at 0. -/
theorem State.drive_zero_work (s s' : State) (st : StringState) : s.StringWork (s'.drive st 0) :=
  .mk_zero (s'.drive_outputs st 0) (s'.drive_setpoint st 0)

/-- A stop with the setpoint as it stands. -/
theorem State.drive_stopping_work (s : State) : s.StringWork (s.drive .stopping s.stc.setpoint) where
  outputs _ := s.drive_outputs _ _
  setpoint h := ⟨by rw [State.drive_setpoint, State.drive_limit]; exact h.1, .inr (.inl (s.drive_state _ _))⟩

theorem State.enterRun_work (s : State) : s.StringWork s.enterRun where
  outputs _ := ⟨rfl, rfl, rfl⟩
  setpoint h := ⟨h.1, .inl rfl⟩

/-- The string in SYNC, before the entry test of 04 R62. -/
def State.syncing (s : State) : State :=
  { s.drive .sync 0 with stc := { (s.drive .sync 0).stc with prechargeTimer := none, syncTimer := some syncPeriod } }

theorem State.enterSync_eq (s : State) :
    s.enterSync = if s.syncing.levels.gridSync then s.syncing.enterRun else s.syncing := rfl

theorem State.enterSync_work (s : State) : s.StringWork s.enterSync := by
  have h : s.StringWork s.syncing := (s.drive_zero_work s .sync).trans (.of_driven rfl)
  rw [State.enterSync_eq]
  exact .ite _ (fun _ => h.trans (State.enterRun_work _)) (fun _ => h)

@[simp] theorem State.requestTrip_string (s : State) (c : TripCause) : (s.requestTrip c).string = s.string := by
  have hr : (s.requestUrgent .tripNotice (encodeTrip c s.stc.state)).1.string = s.string := s.requestUrgent_string _ _
  unfold State.requestTrip
  dsimp only
  split
  · exact hr
  · exact hr

@[simp] theorem State.raiseCause_string (s : State) (c : Option (Code × Int)) : (s.raiseCause c).string = s.string := by
  cases c <;> rfl

/-- What a trip requests and raises, once the string is open, leaves it open. -/
theorem State.tripRequests_work (s x : State) (cause : TripCause) (raised : Option (Code × Int)) (c : Prop) [Decidable c]
    (v : Int) (h : x.StringOutputs) (hv : x.stc.setpoint = 0) :
    s.StringWork (if c then ((x.requestTrip cause).raiseCause raised).raise .repeatedTrips v
      else (x.requestTrip cause).raiseCause raised) := by
  have hx : s.StringWork x := .mk_zero h hv
  refine .ite _ (fun _ => hx.trans (.of_string ?_)) (fun _ => hx.trans (.of_string ?_))
  all_goals simp only [State.raise_string, State.raiseCause_string, State.requestTrip_string]

theorem State.trip_work (s : State) (cause : TripCause) (raised : Option (Code × Int)) :
    s.StringWork (s.trip cause raised) := by
  unfold State.trip
  exact .ite _ (fun _ => State.tripRequests_work _ _ _ _ _ _ ⟨rfl, rfl, rfl⟩ rfl) (fun _ => .refl s)

theorem State.modulatorTrip_work (s : State) : s.StringWork s.modulatorTrip := s.trip_work _ _

/-- The string in PRECHARGE, before its entry tests (04 R60, R70). -/
def State.precharging (s : State) : State :=
  { s.setString .precharge with stc := { (s.setString .precharge).stc with
    prechargeTimer := some s.prm.prechargeTime } }

theorem State.enterPrecharge_eq (s : State) :
    s.enterPrecharge =
      let u := if s.precharging.levels.dcLink then s.precharging.enterSync else s.precharging
      if u.levels.modulatorFault then u.modulatorTrip else u := rfl

/-- Entry to PRECHARGE from a state whose setpoint is 0. -/
theorem State.enterPrecharge_work (s : State) (h : s.SetpointHeld → s.stc.setpoint = 0) : s.StringWork s.enterPrecharge := by
  have h1 : s.StringWork s.precharging := ⟨fun _ => ⟨rfl, rfl, rfl⟩, fun k => ⟨k.1, .inr (.inr (h k))⟩⟩
  have h2 : s.StringWork (if s.precharging.levels.dcLink then s.precharging.enterSync else s.precharging) :=
    .ite _ (fun _ => h1.trans (State.enterSync_work _)) (fun _ => h1)
  rw [State.enterPrecharge_eq]
  exact .ite _ (fun _ => h2.trans (State.modulatorTrip_work _)) (fun _ => h2)

theorem State.startTest_work (s : State) : s.StringWork s.startTest := by
  unfold State.startTest
  refine .ite _ (fun h => s.enterPrecharge_work fun k => ?_) (fun _ => .refl s)
  obtain ⟨hoff, _⟩ := h
  obtain ⟨_, hz⟩ := k
  simpa [hoff] using hz

theorem State.enterOff_work (s : State) : s.StringWork s.enterOff :=
  (s.drive_zero_work s .off).trans (State.startTest_work _)

theorem State.respondToLimit_work (s : State) : s.StringWork s.respondToLimit := by
  unfold State.respondToLimit
  split
  · exact s.startTest_work
  · exact .of_driven rfl
  all_goals exact .refl s

/-- A new limit with the cut that follows it (05 R79, R83). -/
theorem State.cutSetpoint_work (s : State) (parts : Option LimitParts) (l : Nat) :
    s.StringWork (State.cutSetpoint { s with stc := { s.stc with parts := parts, limit := l } }) := by
  unfold State.cutSetpoint
  refine .ite _ (fun hc => ⟨fun k => k, fun k => ⟨Nat.le_refl _, ?_⟩⟩) (fun hc => ⟨fun k => k, fun k => ⟨?_, k.2⟩⟩)
  · obtain ⟨_, hr | hr | hz⟩ := k
    · exact .inl hr
    · exact .inr (.inl hr)
    · exact absurd hc (by simp [hz])
  · exact Nat.not_lt.mp hc

theorem State.formLimit_work (s : State) : s.StringWork s.formLimit := by
  unfold State.formLimit
  dsimp only
  refine .ite _ (fun _ => .ite _ (fun h => ?_) (fun _ => ?_)) (fun _ => .refl s)
  · exact .of_driven (by simp only [State.driven, h])
  · exact (s.cutSetpoint_work _ _).trans (State.respondToLimit_work _)

theorem State.stcDerate_work (s : State) (e : Nat) : s.StringWork (s.stcDerate e) :=
  (State.formLimit_work _).after (.of_driven rfl)

theorem State.stcFlow_work (s : State) (f : FlowState) : s.StringWork (s.stcFlow f) :=
  (State.startTest_work _).after ((State.formLimit_work _).after (.of_driven rfl))

theorem State.tempTest_work (s : State) (theta : Option Int) : s.StringWork (s.tempTest theta) := by
  unfold State.tempTest
  split
  · exact .refl s
  · rename_i v
    refine .ite _ (fun _ => .ite _ (fun _ => ?_) (fun _ => .ite _ (fun _ => ?_) (fun _ => .refl s))) (fun _ => .refl s)
    · exact .ite _ (fun _ => s.trip_work _ _) (fun _ => (s.trip_work .overtemp none).trans (.of_driven rfl))
    · exact .of_driven rfl

theorem State.stcTheta_work (s : State) (theta : Option Int) : s.StringWork (s.stcTheta theta) :=
  (State.tempTest_work _ _).after ((State.formLimit_work _).after (.of_driven rfl))

theorem State.stcPermit_work (s : State) (permit : Bool) : s.StringWork (s.stcPermit permit) := by
  unfold State.stcPermit
  dsimp only
  split
  · exact (State.startTest_work _).after (.of_driven rfl)
  · exact (State.enterOff_work _).after (.of_driven rfl)
  · exact s.drive_zero_work _ _
  · exact (State.drive_stopping_work _).after (.of_driven rfl)
  · exact .of_driven rfl

theorem State.stcLatch_work (s : State) (on : Bool) : s.StringWork (s.stcLatch on) := by
  unfold State.stcLatch State.stcLatchOn
  dsimp only
  have keeps (b : Bool) : s.StringWork { s with stc := { s.stc with latch := b } } := .of_driven rfl
  refine .ite _ (fun _ => .ite _ (fun _ => ?_) (fun _ => .ite _ (fun _ => ?_) (fun _ => keeps _))) (fun _ => keeps _)
  · exact (keeps _).trans (State.trip_work _ _ _)
  · exact s.drive_zero_work _ _

/-! ### The share round -/

theorem ramped_le_limit (setpoint target step limit : Nat) : ramped setpoint target step limit ≤ limit :=
  Nat.min_le_right _ _

/-- A setpoint within the limit, set in RUN or STOPPING. -/
theorem State.setSetpoint_work (s : State) (v : Nat) (hv : s.SetpointHeld → v ≤ s.stc.limit)
    (hs : s.stc.state = .run ∨ s.stc.state = .stopping ∨ v = 0) : s.StringWork (s.setSetpoint v) :=
  ⟨fun k => k.of_eq rfl rfl rfl rfl, fun k => ⟨hv k, hs⟩⟩

theorem State.sendLink_work (s : State) : s.StringWork s.sendLink := .of_driven rfl

theorem State.shareInRun_work (s : State) (h : s.stc.state = .run) : s.StringWork s.shareInRun := by
  unfold State.shareInRun
  dsimp only
  generalize hn : ramped _ _ _ _ = next
  have hl : next ≤ s.stc.limit := hn ▸ ramped_le_limit _ _ _ _
  have hw (target : Nat) : s.StringWork (State.setSetpoint { s with stc := { s.stc with target := target } } next) :=
    (State.setSetpoint_work { s with stc := { s.stc with target := target } } next (fun _ => hl) (.inl h)).after
      (.of_driven rfl)
  exact .ite _ (fun _ => hw _) (fun _ => (hw _).trans (State.sendLink_work _))

theorem State.shareInStopping_work (s : State) (h : s.stc.state = .stopping) : s.StringWork s.shareInStopping := by
  unfold State.shareInStopping
  dsimp only
  refine .ite _ (fun _ => s.enterOff_work) (fun _ => ?_)
  have hw : s.StringWork (s.setSetpoint (s.stc.setpoint - rampStep s.prm.stopRamp s.period)).sendLink :=
    (s.setSetpoint_work _ (fun k => Nat.le_trans (Nat.sub_le _ _) k.1) (.inr (.inl h))).trans (State.sendLink_work _)
  exact .ite _ (fun _ => hw.trans (State.enterOff_work _)) (fun _ => hw)

theorem State.shareRound_work (s : State) : s.StringWork s.shareRound := by
  unfold State.shareRound
  split
  · exact s.shareInRun_work ‹_›
  · exact s.shareInStopping_work ‹_›
  all_goals exact .of_driven rfl

/-! ### The commands of the string -/

end Sys2Proof.Machine
end

section
/-! SUPPORT. Work of the YWC and of the CLC that keeps their outputs those of the participant state and of the owner state. -/

namespace Sys2Proof.Machine

/-! ### The yaw -/

/-- What the yaw outputs' invariant reads, and whether the twist is known. -/
structure Steered where
  known : Bool
  participant : Participant
  brakeRelease : Bool
  motors : Motors
  direction : Option Bool
  drives : Nat

/-- The participant with its outputs, the direction of its move and the drive count. -/
def State.steered (s : State) : Steered :=
  ⟨s.ywc.known, s.ywc.participant, s.ywc.brakeRelease, s.ywc.motors, s.ywc.move.map (·.clockwise), s.icu.straps.drives⟩

/-- Work that keeps the yaw outputs those of the participant state (07 R111), and a known twist known (06 R99). -/
structure State.YawWork (s t : State) : Prop where
  known : s.ywc.known = true → t.ywc.known = true
  outputs : s.YawOutputs → t.YawOutputs

theorem State.YawWork.refl (s : State) : s.YawWork s := ⟨id, id⟩

theorem State.YawWork.trans {s t u : State} (h : s.YawWork t) (k : t.YawWork u) : s.YawWork u :=
  ⟨k.known ∘ h.known, k.outputs ∘ h.outputs⟩

theorem State.YawWork.after {s s' t : State} (k : s'.YawWork t) (h : s.YawWork s') : s.YawWork t := h.trans k

theorem State.YawWork.ite {s t u : State} (c : Prop) [Decidable c] (ht : c → s.YawWork t) (hu : ¬ c → s.YawWork u) :
    s.YawWork (if c then t else u) := by
  split
  · exact ht ‹_›
  · exact hu ‹_›

theorem State.YawWork.of_steered {s t : State} (h : t.steered = s.steered) : s.YawWork t where
  known k := (congrArg Steered.known h : t.ywc.known = s.ywc.known).trans k
  outputs k := by
    have hp : t.ywc.participant = s.ywc.participant := (congrArg Steered.participant h :)
    have hb : t.ywc.brakeRelease = s.ywc.brakeRelease := (congrArg Steered.brakeRelease h :)
    have hm : t.ywc.motors = s.ywc.motors := (congrArg Steered.motors h :)
    have hd : t.ywc.move.map (·.clockwise) = s.ywc.move.map (·.clockwise) := (congrArg Steered.direction h :)
    have hn : t.icu.straps.drives = s.icu.straps.drives := (congrArg Steered.drives h :)
    have hmap (y : State) : y.ywc.move.map (fun m => motorsOn y.icu.straps.drives m.clockwise) =
        (y.ywc.move.map (·.clockwise)).map (motorsOn y.icu.straps.drives) := by cases y.ywc.move <;> rfl
    unfold State.YawOutputs at k ⊢
    rw [hmap] at k ⊢
    rw [hp, hb, hm, hd, hn]
    exact k

theorem State.YawWork.of_frames {s t : State} (hy : t.yaw = s.yaw) (ho : t.outer = s.outer) : s.YawWork t := by
  refine .of_steered ?_
  have h (y : State) : y.steered = ⟨y.yaw.known, y.yaw.participant, y.yaw.brakeRelease, y.yaw.motors,
    y.yaw.move.map (·.clockwise), y.icu.straps.drives⟩ := rfl
  rw [h, h, hy, State.outer_icu ho]

/-- No motor is driven both ways. -/
theorem motorsOn_one_way (drives : Nat) (clockwise : Bool) :
    ((motorsOn drives clockwise).cw1 && (motorsOn drives clockwise).ccw1) = false ∧
      ((motorsOn drives clockwise).cw2 && (motorsOn drives clockwise).ccw2) = false := by
  cases clockwise <;> simp [motorsOn]

/-- A participant state entered has its outputs, in DRIVING those of the move that is held. -/
theorem State.participate_outputs (s : State) (p : Participant) (w : Bool) (h : p = .driving → s.ywc.move.isSome = true) :
    (s.participate p w).YawOutputs := by
  by_cases hd : p = .driving
  · subst hd
    obtain ⟨m, hm⟩ := Option.isSome_iff_exists.mp (h rfl)
    have hmotors : (s.participate .driving w).ywc.motors = motorsOn s.icu.straps.drives m.clockwise := by
      simp [State.participate, Ywc.enter, hm]
    have hmove : (s.participate .driving w).ywc.move = some m := hm
    refine ⟨rfl, fun k => absurd rfl k, fun _ => ?_, ?_⟩
    · rw [hmove, hmotors]
      rfl
    · rw [hmotors]
      exact motorsOn_one_way _ _
  · have hmotors : (s.participate p w).ywc.motors = motorsOff := by simp [State.participate, Ywc.enter, hd]
    exact ⟨rfl, fun _ => hmotors, fun k => absurd k hd, by rw [hmotors]; exact ⟨rfl, rfl⟩⟩

theorem State.participate_work (s : State) (p : Participant) (w : Bool) (h : p = .driving → s.ywc.move.isSome = true) :
    s.YawWork (s.participate p w) := ⟨id, fun _ => s.participate_outputs p w h⟩

theorem State.enterIdle_work (s : State) : s.YawWork s.enterIdle := s.participate_work .idle true (by simp)

theorem State.enterBraking_work (s : State) : s.YawWork s.enterBraking := by
  have h : s.YawWork (s.participate .braking) := s.participate_work .braking true (by simp)
  exact .ite _ (fun _ => h.trans (State.enterIdle_work _)) (fun _ => h)

theorem State.pathClockwise_work (s : State) (path : Int) : s.YawWork (s.pathClockwise path).2 := by
  unfold State.pathClockwise
  repeat' split
  all_goals exact .of_steered rfl

theorem State.requestYaw_work (s : State) (k : Kind) (r : Ref) (p : List Byte) : s.YawWork (s.requestYaw k r p) :=
  .of_frames (s.requestYaw_yaw k r p) (s.requestYaw_outer k r p)

theorem State.requestAnswer_work (s : State) (r : Ref) (a : Answer) (e : Refusing) : s.YawWork (s.requestAnswer r a e) :=
  s.requestYaw_work _ _ _

theorem State.markSeen_work (s : State) : s.YawWork s.markSeen := by
  unfold State.markSeen
  repeat' split
  all_goals exact .of_steered rfl

theorem State.positionVote_work (s : State) : s.YawWork s.positionVote := by
  unfold State.positionVote
  repeat' split
  all_goals exact .of_steered rfl

theorem State.haltParticipant_work (s : State) : s.YawWork s.haltParticipant := by
  unfold State.haltParticipant
  split
  · exact s.enterIdle_work
  all_goals first | exact s.participate_work .stopping true (by simp) | exact .refl s

theorem State.takeHalt_work (s : State) (r : Ref) : s.YawWork (s.takeHalt r) := by
  unfold State.takeHalt
  have h : s.YawWork s.haltParticipant := s.haltParticipant_work
  exact .ite _ (fun _ => .ite _ (fun _ => h.trans (.of_steered rfl)) (fun _ => h)) (fun _ => .refl s)

theorem State.ownHalt_work (s : State) (r : Ref) (e : HaltReason) : s.YawWork (s.ownHalt r e) :=
  (s.requestYaw_work _ _ _).trans (State.takeHalt_work _ _)

theorem State.haltMove_work (s : State) (e : HaltReason) : s.YawWork (s.haltMove e) := by
  unfold State.haltMove
  split
  · exact s.ownHalt_work _ _
  · exact .refl s

theorem State.haltProposal_work (s : State) (e : HaltReason) : s.YawWork (s.haltProposal e) := by
  unfold State.haltProposal
  split
  · exact s.ownHalt_work _ _
  · exact .refl s

/-- The move of a YAW_DRIVE taken, before its twist test: M at 0, the invalid steps too (07 R122; 06 R96). -/
def State.driveTaken (s : State) (m : Move) : State :=
  { s with ywc := { s.ywc with driveWait := none, move := some { m with count := 0 }, invalidSteps := 0 } }

theorem State.takeDrive_eq (s : State) (m : Move) (h : s.ywc.move = some m) :
    s.takeDrive =
      if s.ywc.known = true ∧ s.prm.twistLimit ≤ s.ywc.twist.natAbs ∧ increasesTwist s.ywc.twist m.clockwise = true then
        (s.driveTaken m).haltMove .twist
      else (s.driveTaken m).participate .driving := by
  unfold State.takeDrive
  rw [h]
  rfl

theorem State.takeDrive_none (s : State) (h : s.ywc.move = none) : s.takeDrive = s := by
  unfold State.takeDrive
  rw [h]

theorem State.takeDrive_work (s : State) : s.YawWork s.takeDrive := by
  cases h : s.ywc.move with
  | none => rw [s.takeDrive_none h]; exact .refl s
  | some m =>
    have hd : s.YawWork (s.driveTaken m) := .of_steered (by simp [State.steered, State.driveTaken, h])
    rw [s.takeDrive_eq m h]
    exact .ite _ (fun _ => hd.trans (State.haltMove_work _ _))
      (fun _ => hd.trans (State.participate_work _ _ _ (fun _ => rfl)))

theorem State.startMotion_work (s : State) (r : Proposal) : s.YawWork (s.startMotion r) := by
  unfold State.startMotion
  have h (x : State) (hx : s.YawWork x) : s.YawWork (x.requestYaw .yawDrive r.ref (encodeDrive r.ref)) :=
    hx.trans (x.requestYaw_work _ _ _)
  exact .ite _ (fun _ => (State.takeDrive_work _).after (h _ (.of_steered rfl))) (fun _ => h _ (.of_steered rfl))

theorem State.joinReleased_work (s : State) (n : Station) : s.YawWork (s.joinReleased n) := by
  unfold State.joinReleased
  split
  · exact .ite _ (fun _ => .ite _ (fun _ => (State.startMotion_work _ _).after (.of_steered rfl))
      (fun _ => .of_steered rfl)) (fun _ => .refl s)
  · exact .refl s

theorem State.brakesReleased_work (s : State) : s.YawWork s.brakesReleased := by
  unfold State.brakesReleased
  split
  · have h : s.YawWork (s.participate .released) := s.participate_work .released true (by simp)
    exact .ite _ (fun _ => h.trans (State.joinReleased_work _ _)) (fun _ => h.trans (State.requestAnswer_work _ _ _ _))
  · exact .refl s

theorem State.enterReleasing_work (s : State) : s.YawWork s.enterReleasing := by
  have h : s.YawWork (s.participate .releasing) := s.participate_work .releasing true (by simp)
  exact .ite _ (fun _ => h) (fun _ => h.trans (State.brakesReleased_work _))

/-- The answer timer stopped, as the decision stops it. -/
def State.answerOff (s : State) : State := { s with ywc := { s.ywc with answerTimer := none } }

/-- YAW_COMMIT requested and the record COMMITTED to the stations that answered READY (07 R118), with the window emptied
(06 R101). -/
def State.commits (s : State) (r : Proposal) : State :=
  let t := s.requestYaw .yawCommit r.ref (encodeCommit r.ref (readySet r.answers))
  (State.setProposal { t with ywc := { t.ywc with releaseTimer := some 4000 } }
    (some { r with phase := .committed, committed := readySet r.answers })).emptyWindow

theorem State.takeDecision_eq (s : State) (r : Proposal) :
    s.takeDecision r =
      if s.prm.minDrives ≤ readyDrives r.answers.toList then
        if inSet (readySet r.answers) s.own then (s.answerOff.commits r).enterReleasing
        else (s.answerOff.commits r).enterIdle
      else s.answerOff.haltProposal .abandoned := rfl

theorem State.commits_work (s : State) (r : Proposal) : s.YawWork (s.commits r) :=
  (s.requestYaw_work .yawCommit r.ref _).trans (.of_steered rfl)

theorem State.takeDecision_work (s : State) (r : Proposal) : s.YawWork (s.takeDecision r) := by
  have h0 : s.YawWork s.answerOff := .of_steered rfl
  have h : s.YawWork (s.answerOff.commits r) := h0.trans (State.commits_work _ _)
  rw [State.takeDecision_eq]
  exact .ite _ (fun _ => .ite _ (fun _ => h.trans (State.enterReleasing_work _))
    (fun _ => h.trans (State.enterIdle_work _))) (fun _ => h0.trans (State.haltProposal_work _ _))

theorem State.enterAnswer_work (s : State) (r : Proposal) (n : Station) (a : Reply) : s.YawWork (s.enterAnswer r n a) :=
  .ite _ (fun _ => (State.takeDecision_work _ _).after (.of_steered rfl)) (fun _ => .of_steered rfl)

/-- A move taken up with a state that is not DRIVING: the outputs are those of that state, whatever stood before. -/
theorem State.YawWork.entered {s x : State} (p : Participant) (w : Bool) (hp : p ≠ .driving)
    (hk : s.ywc.known = true → x.ywc.known = true) : s.YawWork (x.participate p w) :=
  ⟨hk, fun _ => x.participate_outputs p w (fun h => absurd h hp)⟩

theorem State.propose_work (s : State) (p : Plan) : s.YawWork (s.propose p) := by
  unfold State.propose
  dsimp only
  refine (State.enterAnswer_work _ _ _ _).after (.entered _ _ (by simp) (fun hk => ?_))
  exact (State.requestYaw_work _ _ _ _).known ((s.pathClockwise_work p.path).known hk)

theorem State.answerIdle_work (s : State) (ref : Ref) (path : Int) : s.YawWork (s.answerIdle ref path) := by
  unfold State.answerIdle
  split
  · exact s.requestAnswer_work _ _ _
  · dsimp only
    refine .entered _ _ (by simp) (fun hk => ?_)
    exact (State.requestAnswer_work _ _ _ _).known ((s.pathClockwise_work path).known hk)

theorem State.answerWithout_work (s : State) (ref : Ref) (path : Int) : s.YawWork (s.answerWithout ref path) := by
  unfold State.answerWithout
  have hi : s.YawWork (s.enterIdle.answerIdle ref path) := s.enterIdle_work.trans (State.answerIdle_work _ _ _)
  split
  · exact s.answerIdle_work _ _
  · split
    · exact .ite _ (fun _ => hi) (fun _ => s.requestAnswer_work _ _ _)
    · exact hi
  all_goals exact s.requestAnswer_work _ _ _

theorem State.withdrawAndAnswer_work (s : State) (ref : Ref) (path : Int) : s.YawWork (s.withdrawAndAnswer ref path) := by
  have hc : s.YawWork s.clearProposal := .of_steered rfl
  have hi : s.YawWork (s.clearProposal.enterIdle.answerIdle ref path) :=
    hc.trans ((State.enterIdle_work _).trans (State.answerIdle_work _ _ _))
  have hb : s.YawWork (s.clearProposal.enterBraking.requestAnswer ref .refuse .busy) :=
    hc.trans ((State.enterBraking_work _).trans (State.requestAnswer_work _ _ _ _))
  unfold State.withdrawAndAnswer
  dsimp only
  split
  · exact hi
  · exact hi
  · exact hb
  · exact hb
  all_goals exact hc.trans (State.requestAnswer_work _ _ _ _)

theorem State.answerProposal_work (s : State) (ref : Ref) (path : Int) : s.YawWork (s.answerProposal ref path) := by
  unfold State.answerProposal
  split
  · exact s.answerWithout_work _ _
  · exact .ite _ (fun _ => s.withdrawAndAnswer_work _ _) (fun _ => s.requestAnswer_work _ _ _)

theorem State.countRecord_work (s : State) (cw : Bool) : s.YawWork (s.countRecord cw) := by
  unfold State.countRecord
  repeat' split
  all_goals exact .of_steered rfl

theorem State.countMove_work (s : State) (cw : Bool) : s.YawWork (s.countMove cw) := by
  unfold State.countMove
  split
  · rename_i hm
    exact .of_steered (by simp [State.steered, hm])
  · exact .refl s

theorem State.motionTests_work (s : State) : s.YawWork s.motionTests :=
  .ite _ (fun _ => s.haltProposal_work _) (fun _ => .ite _ (fun _ => s.haltMove_work _)
    (fun _ => .ite _ (fun _ => s.haltMove_work _) (fun _ => .refl s)))

theorem State.motionStep_work (s : State) (cw : Bool) : s.YawWork (s.motionStep cw) :=
  ((s.countMove_work cw).trans (State.countRecord_work _ _)).trans (State.motionTests_work _)

theorem State.ywcLock_work (s : State) (on : Bool) : s.YawWork (s.ywcLock on) := by
  have h : s.YawWork { s with ywc := { s.ywc with lock := on } } := .of_steered rfl
  unfold State.ywcLock
  dsimp only
  refine .ite _ (fun _ => .ite _ (fun _ => h.trans (State.haltProposal_work _ _)) (fun _ => ?_)) (fun _ => h)
  split
  case h_4 => exact h.trans (State.enterIdle_work _)
  all_goals first | exact h | exact h.trans (State.haltMove_work _ _)

theorem State.ywcPermit_work (s : State) (permit : Bool) : s.YawWork (s.ywcPermit permit) := by
  have h : s.YawWork { s with ywc := { s.ywc with permit := permit } } := .of_steered rfl
  exact .ite _ (fun _ => h) (fun _ => h.trans (State.haltProposal_work _ _))

theorem State.takeTurn_work (s : State) : s.YawWork s.takeTurn :=
  .ite _ (fun _ => .refl s) (fun _ => .of_steered rfl)

theorem State.takeTwist_work (s : State) : s.YawWork s.takeTwist := by
  refine .ite _ (fun _ => .refl s) (fun h => ⟨fun _ => rfl, fun k => ?_⟩)
  exact k

theorem State.ywcConfigured_work (s : State) : s.YawWork s.ywcConfigured :=
  .ite _ (fun _ => (State.takeTwist_work _).after ((State.takeTurn_work _).after (.of_steered rfl))) (fun _ => .refl s)

/-! ### The pump -/

/-- Work that keeps the pump output that of the owner state (08 R133). -/
def State.PumpWork (s t : State) : Prop := s.PumpOutput → t.PumpOutput

theorem State.PumpWork.refl (s : State) : s.PumpWork s := id

theorem State.PumpWork.trans {s t u : State} (h : s.PumpWork t) (k : t.PumpWork u) : s.PumpWork u := k ∘ h

theorem State.PumpWork.after {s s' t : State} (k : s'.PumpWork t) (h : s.PumpWork s') : s.PumpWork t := h.trans k

theorem State.PumpWork.ite {s t u : State} (c : Prop) [Decidable c] (ht : c → s.PumpWork t) (hu : ¬ c → s.PumpWork u) :
    s.PumpWork (if c then t else u) := by
  split
  · exact ht ‹_›
  · exact hu ‹_›

theorem State.PumpWork.of_eq {s t : State} (ho : t.clc.owner = s.clc.owner) (hp : t.clc.pumpOutput = s.clc.pumpOutput) :
    s.PumpWork t := fun h => by
  unfold State.PumpOutput at h ⊢
  rw [ho, hp, h]

theorem State.PumpWork.of_coolant {s t : State} (h : t.coolant = s.coolant) : s.PumpWork t :=
  .of_eq (congrArg Clc.owner h :) (congrArg Clc.pumpOutput h :)

theorem State.requestPump_work (s : State) : s.PumpWork s.requestPump := by
  unfold State.requestPump
  split
  · have h (k : Kind) (p : List Byte) : s.PumpWork (s.request k p).1 := .of_coolant (s.request_coolant k p)
    exact (h _ _).trans (.of_eq rfl rfl)
  · exact .refl s

theorem State.changeOwner_work (s s' : State) (o : PumpOwner) : s.PumpWork (s'.changeOwner o) := fun _ =>
  (s'.setOwner o).requestPump_work rfl

theorem State.enterRunning_work (s : State) : s.PumpWork s.enterRunning := State.changeOwner_work _ _ _

theorem State.enterStarting_work (s : State) : s.PumpWork s.enterStarting :=
  .ite _ (fun _ => (State.changeOwner_work s s .starting).trans (State.enterRunning_work _))
    (fun _ => State.changeOwner_work _ _ _)

theorem State.holdStart_work (s : State) : s.PumpWork s.holdStart :=
  .ite _ (fun _ => .ite _ (fun _ => .refl s) (fun _ => .of_eq rfl rfl)) (fun _ => .of_eq rfl rfl)

theorem State.startTests_work (s : State) : s.PumpWork s.startTests := by
  unfold State.startTests
  split
  · exact .refl s
  · exact .ite _ (fun _ => s.enterStarting_work) (fun _ => .refl s)
  · exact .ite _ (fun _ => s.enterStarting_work) (fun _ => s.holdStart_work)

theorem State.bothRunningTest_work (s : State) : s.PumpWork s.bothRunningTest :=
  .ite _ (fun _ => s.changeOwner_work s _) (fun _ => .refl s)

theorem State.outgoingTest_work (s : State) : s.PumpWork s.outgoingTest := by
  unfold State.outgoingTest
  split
  · exact .ite _ (fun _ => s.changeOwner_work s _) (fun _ => .ite _ (fun _ => s.enterRunning_work) (fun _ => .refl s))
  · exact .refl s

theorem State.failPump_work (s : State) (cause : Int) : s.PumpWork (s.failPump cause) :=
  .ite _ (fun _ => .refl s) (fun _ => (s.changeOwner_work s .failed).trans (.of_eq rfl rfl))

theorem State.setView_work (s : State) (p : Pump) (v : PumpView) : s.PumpWork (s.setView p v) := by
  cases p <;> exact .of_eq rfl rfl

theorem State.takeView_work (s : State) (f : PumpFields) (n : Station) : s.PumpWork (s.takeView f n) :=
  have h := s.setView_work f.pump { owner := some n, reported := .shown f.owner, handover := f.handover }
  .ite _ (fun _ => h.trans (.of_eq rfl rfl)) (fun _ => h)

theorem State.handoverRequest_work (s : State) (f : PumpFields) : s.PumpWork (s.handoverRequest f) :=
  .ite _ (fun _ => .ite _ (fun _ => s.enterStarting_work.trans (.of_eq rfl rfl)) (fun _ => s.enterStarting_work))
    (fun _ => .refl s)

/-! ### The vote and the fans, which leave the pump alone -/

theorem State.disagreeTest_work (s : State) (v : Vote) : s.PumpWork (s.disagreeTest v) := by
  unfold State.disagreeTest
  repeat' split
  all_goals exact .of_eq rfl rfl

theorem State.supplyTest_work (s : State) (v : Vote) (n : Nat) : s.PumpWork (s.supplyTest v n) := by
  unfold State.supplyTest
  repeat' split
  all_goals exact .of_eq rfl rfl

theorem State.switchFan_work (s : State) (i : Fin 3) (on : Bool) : s.PumpWork (s.switchFan i on) :=
  .ite _ (fun _ => .refl s) (fun _ => .of_eq rfl rfl)

theorem State.switchFans_work (s : State) (a b c : Bool) :
    s.PumpWork (((s.switchFan 0 a).switchFan 1 b).switchFan 2 c) :=
  ((s.switchFan_work 0 a).trans (State.switchFan_work _ 1 b)).trans (State.switchFan_work _ 2 c)

theorem State.applyDuty_work (s : State) : s.PumpWork s.applyDuty :=
  .ite _ (fun _ => .refl s) (fun _ => s.switchFans_work _ _ _)

theorem State.setStages_work (s : State) (n : Nat) : s.PumpWork (s.setStages n) :=
  .ite _ (fun _ => .refl s) (fun _ => (State.applyDuty_work _).after (.of_eq rfl rfl))

theorem State.raiseStages_work (s : State) : s.PumpWork s.raiseStages :=
  .ite _ (fun _ => s.setStages_work _) (fun _ => .refl s)

theorem State.stepStages_work (s : State) : s.PumpWork s.stepStages :=
  .ite _ (fun _ => s.setStages_work _) (fun _ => .ite _ (fun _ => s.setStages_work _) (fun _ => .refl s))

theorem State.setCover_work (s : State) : s.PumpWork s.setCover :=
  .ite _ (fun _ => .ite _ (fun _ => .refl s) (fun _ => (State.applyDuty_work _).after (.of_eq rfl rfl)))
    (fun _ => .refl s)

/-- A rival met with a clear flag: the flag set and ROLE_CONFLICT handed to the FLU (09 R162). -/
def State.rivalFound (s : State) (n : Station) : State :=
  State.raise { s with clc := { s.clc with fanConflict := true } } .roleConflict n.val (some .fanBank)

theorem State.rivalTest_eq (s : State) (n : Station) (h : s.rival = some n) :
    s.rivalTest =
      if s.clc.fanConflict then s
      else if n.val < s.own.val then
        { (s.rivalFound n).fansOff with clc := { (s.rivalFound n).fansOff.clc with heldOff := true } }
      else s.rivalFound n := by
  unfold State.rivalTest
  rw [h]
  rfl

theorem State.rivalTest_none (s : State) (h : s.rival = none) : s.rivalTest = s := by
  unfold State.rivalTest
  rw [h]

theorem State.rivalTest_work (s : State) : s.PumpWork s.rivalTest := by
  cases h : s.rival with
  | none => rw [s.rivalTest_none h]; exact .refl s
  | some n =>
    have hf : s.PumpWork (s.rivalFound n) := .of_eq rfl rfl
    have ho : s.PumpWork (s.rivalFound n).fansOff := hf.trans (State.switchFans_work _ _ _ _)
    rw [s.rivalTest_eq n h]
    exact .ite _ (fun _ => .refl s) (fun _ => .ite _ (fun _ => ho.trans (.of_eq rfl rfl)) (fun _ => hf))

end Sys2Proof.Machine
end

section
/-! SUPPORT. What the taking of requests and the work of every block keep: the relations `Carries` and `Keeps`, one lemma for each shared
operation. -/

namespace Sys2Proof.Machine

/-! ### The relations -/

/-- Work that keeps the straps, the standing of the record, the queue of commands, the station clock, a set overflow flag and a known
twist, the outputs those of their states, the indications those of the condition set, and the table's actions. -/
structure State.Carries (s t : State) : Prop where
  straps : t.icu.straps = s.icu.straps
  record : s.RecordHeld → t.RecordHeld
  pending : t.pending = s.pending
  clock : t.clock = s.clock
  overflow : s.flu.overflow = true → t.flu.overflow = true
  string : s.StringWork t
  yaw : s.YawWork t
  pump : s.PumpWork t
  indicated : s.Indicated → t.Indicated
  tabled : s.Tabled → t.Tabled

theorem State.Carries.refl (s : State) : s.Carries s where
  straps := rfl
  record := id
  pending := rfl
  clock := rfl
  overflow := id
  string := .refl s
  yaw := .refl s
  pump := .refl s
  indicated := id
  tabled := id

theorem State.Carries.trans {s t u : State} (h : s.Carries t) (k : t.Carries u) : s.Carries u where
  straps := k.straps.trans h.straps
  record := k.record ∘ h.record
  pending := k.pending.trans h.pending
  clock := k.clock.trans h.clock
  overflow := k.overflow ∘ h.overflow
  string := h.string.trans k.string
  yaw := h.yaw.trans k.yaw
  pump := h.pump.trans k.pump
  indicated := k.indicated ∘ h.indicated
  tabled := k.tabled ∘ h.tabled

theorem State.Carries.after {s s' t : State} (k : s'.Carries t) (h : s.Carries s') : s.Carries t := h.trans k

theorem State.Carries.ite {s t u : State} (c : Prop) [Decidable c] (ht : c → s.Carries t) (hu : ¬ c → s.Carries u) :
    s.Carries (if c then t else u) := by
  split
  · exact ht ‹_›
  · exact hu ‹_›

theorem State.RecordHeld.of_icu {s t : State} (h : s.RecordHeld) (hi : t.icu = s.icu) : t.RecordHeld := by
  have ho : t.own = s.own := congrArg (fun i : Icu => i.straps.station) hi
  unfold State.RecordHeld at h ⊢
  rw [hi, ho]
  exact h

theorem State.Tabled.of_members {s t : State} (h : s.Tabled) (hm : t.flu.members = s.flu.members) : t.Tabled := by
  unfold State.Tabled at h ⊢
  rw [hm]
  exact h

theorem State.overflow_of_standing {s t : State} (h : t.standing = s.standing) : t.flu.overflow = s.flu.overflow :=
  (congrArg FluStanding.overflow h :)

/-- Work that leaves the FLU's standing parts and what the readers of its indications keep. -/
theorem State.Carries.of_frames {s t : State} (hi : t.icu = s.icu) (hp : t.pending = s.pending)
    (hs : t.standing = s.standing) (hr : t.readers = s.readers) (hstr : s.StringWork t) (hyaw : s.YawWork t)
    (hpump : s.PumpWork t) : s.Carries t where
  straps := by rw [hi]
  record h := h.of_icu hi
  pending := hp
  clock := State.clock_of_standing hs
  overflow h := (State.overflow_of_standing hs).trans h
  string := hstr
  yaw := hyaw
  pump := hpump
  indicated h := h.of_frames hs hr
  tabled h := h.of_members (State.members_of_standing hs)

/-- All that work of the LIF's queue and of the announcement leaves. -/
def State.besidesLine (s : State) : Outer × FluStanding × Readers × Stc × Ywc × Clc :=
  (s.outer, s.standing, s.readers, s.string, s.yaw, s.coolant)

/-- All that the STC's own work leaves. -/
def State.besidesString (s : State) : Outer × FluStanding × Readers × Ywc × Clc :=
  (s.outer, s.standing, s.readers, s.yaw, s.coolant)

/-- All that the YWC's own work leaves. -/
def State.besidesYaw (s : State) : Outer × FluStanding × Readers × Stc × Clc :=
  (s.outer, s.standing, s.readers, s.string, s.coolant)

/-- All that the CLC's own work leaves. -/
def State.besidesPump (s : State) : Outer × FluStanding × Readers × Stc × Ywc :=
  (s.outer, s.standing, s.readers, s.string, s.yaw)

theorem State.Carries.of_line {s t : State} (h : t.besidesLine = s.besidesLine) : s.Carries t := by
  simp only [State.besidesLine, Prod.mk.injEq] at h
  obtain ⟨ho, hs, hr, hstr, hy, hc⟩ := h
  exact .of_frames (State.outer_icu ho) (State.outer_pending ho) hs hr (.of_string hstr) (.of_frames hy ho) (.of_coolant hc)

theorem State.Carries.of_string {s t : State} (h : t.besidesString = s.besidesString) (k : s.StringWork t) :
    s.Carries t := by
  simp only [State.besidesString, Prod.mk.injEq] at h
  obtain ⟨ho, hs, hr, hy, hc⟩ := h
  exact .of_frames (State.outer_icu ho) (State.outer_pending ho) hs hr k (.of_frames hy ho) (.of_coolant hc)

theorem State.Carries.of_yaw {s t : State} (h : t.besidesYaw = s.besidesYaw) (k : s.YawWork t) : s.Carries t := by
  simp only [State.besidesYaw, Prod.mk.injEq] at h
  obtain ⟨ho, hs, hr, hstr, hc⟩ := h
  exact .of_frames (State.outer_icu ho) (State.outer_pending ho) hs hr (.of_string hstr) k (.of_coolant hc)

theorem State.Carries.of_pump {s t : State} (h : t.besidesPump = s.besidesPump) (k : s.PumpWork t) : s.Carries t := by
  simp only [State.besidesPump, Prod.mk.injEq] at h
  obtain ⟨ho, hs, hr, hstr, hy⟩ := h
  exact .of_frames (State.outer_icu ho) (State.outer_pending ho) hs hr (.of_string hstr) (.of_frames hy ho) k

/-- A change of the line, the peer table, the plant levels, the samplers or the draws. -/
theorem State.carries_update (s : State) (l : Lif) (p : Ptb) (v : Levels) (d : Differing) (n : Nat) :
    s.Carries ⟨s.icu, l, p, s.stc, s.ywc, s.clc, s.flu, v, d, n, s.pending⟩ :=
  .of_frames rfl rfl rfl rfl (.of_driven rfl) (.of_steered rfl) (.of_eq rfl rfl)

/-- A change of the STC beside what its invariants and the FLU's indications read. -/
theorem State.carries_stc (s : State) (c : Stc) (h : State.driven { s with stc := c } = s.driven)
    (he : c.exponent = s.stc.exponent) (hl : c.latch = s.stc.latch) : s.Carries { s with stc := c } :=
  .of_frames rfl rfl rfl (by simp only [State.readers, he, hl]) (.of_driven h) (.of_steered rfl) (.of_eq rfl rfl)

/-- A change of the YWC beside what its invariant and the FLU's indications read. -/
theorem State.carries_ywc (s : State) (y : Ywc) (h : State.steered { s with ywc := y } = s.steered)
    (hl : y.lock = s.ywc.lock) : s.Carries { s with ywc := y } :=
  .of_frames rfl rfl rfl (by simp only [State.readers, hl]) (.of_driven rfl) (.of_steered h) (.of_eq rfl rfl)

/-- A change of the CLC beside what its invariant and the FLU's indications read. -/
theorem State.carries_clc (s : State) (c : Clc) (ho : c.owner = s.clc.owner) (hp : c.pumpOutput = s.clc.pumpOutput)
    (hl : c.latch = s.clc.latch) : s.Carries { s with clc := c } :=
  .of_frames rfl rfl rfl (by simp only [State.readers, hl]) (.of_driven rfl) (.of_steered rfl) (.of_eq ho hp)

/-! ### The condition set -/

/-- Whether a member has the actions that the table gives its code (10 R165, R167). -/
def Member.Tabled (m : Member) : Prop :=
  m.code.isCondition = true ∧
    if m.code = .roleConflict then
      m.actions = { Actions.none with pumpLatch := m.actions.pumpLatch, fanBankOff := m.actions.fanBankOff }
    else m.actions = m.code.actions none

theorem Code.actions_origin (c : Code) (o : Option Origin) (h : c ≠ .roleConflict) : c.actions o = c.actions none := by
  cases c <;> first | rfl | exact absurd rfl h

theorem Actions.join_self (a : Actions) : a.join a = a := by simp [Actions.join]

theorem Member.tabled_new (c : Code) (o : Option Origin) (hc : c.isCondition = true) :
    Member.Tabled ⟨c, c.actions o⟩ := by
  refine ⟨hc, ?_⟩
  by_cases h : c = .roleConflict
  · subst h
    rfl
  · rw [if_neg h]
    exact c.actions_origin o h

theorem Member.Tabled.join {m : Member} (h : m.Tabled) (o : Option Origin) :
    Member.Tabled { m with actions := m.actions.join (m.code.actions o) } := by
  obtain ⟨hc, ha⟩ := h
  refine ⟨hc, ?_⟩
  by_cases h : m.code = .roleConflict
  · rw [if_pos h] at ha ⊢
    simp only [h, Code.actions]
    rw [ha]
    rfl
  · rw [if_neg h] at ha ⊢
    simp only [m.code.actions_origin o h, ha, Actions.join_self]

theorem joinSet_tabled (c : Code) (o : Option Origin) (ms : List Member) (hc : c.isCondition = true)
    (h : ∀ m ∈ ms, m.Tabled) : ∀ m ∈ joinSet c (c.actions o) ms, m.Tabled := by
  induction ms with
  | nil =>
    intro m hm
    rw [joinSet, List.mem_singleton] at hm
    subst hm
    exact Member.tabled_new c o hc
  | cons x rest ih =>
    have hx := h x List.mem_cons_self
    have hrest : ∀ m ∈ rest, m.Tabled := fun m hm => h m (List.mem_cons_of_mem _ hm)
    intro m hm
    unfold joinSet at hm
    split at hm
    · rename_i he
      rcases List.mem_cons.mp hm with rfl | hm
      · exact he ▸ hx.join o
      · exact hrest m hm
    · rcases List.mem_cons.mp hm with rfl | hm
      · exact hx
      · exact ih hrest m hm

/-! ### One request -/

theorem State.indicate_work (s : State) : s.StringWork s.indicate ∧ s.YawWork s.indicate ∧ s.PumpWork s.indicate := by
  unfold State.indicate
  dsimp only
  generalize hx : ({ s with flu := { s.flu with
    exponent := exponentOf s.flu.members
    stringLatch := s.flu.members.any (fun m => m.actions.stringLatch)
    yawLock := s.flu.members.any (fun m => m.actions.yawLock)
    pumpLatch := s.flu.members.any (fun m => m.actions.pumpLatch) } } : State) = x
  have h0 : s.StringWork x ∧ s.YawWork x ∧ s.PumpWork x := by
    subst hx
    exact ⟨.of_driven rfl, .of_steered rfl, .of_eq rfl rfl⟩
  have go {y : State} (h : s.StringWork y ∧ s.YawWork y ∧ s.PumpWork y) (c : Prop) [Decidable c] (f : State → State)
      (hf : y.StringWork (f y) ∧ y.YawWork (f y) ∧ y.PumpWork (f y)) :
      s.StringWork (if c then y else f y) ∧ s.YawWork (if c then y else f y) ∧ s.PumpWork (if c then y else f y) := by
    split
    · exact h
    · exact ⟨h.1.trans hf.1, h.2.1.trans hf.2.1, h.2.2.trans hf.2.2⟩
  refine go (go (go (go h0 _ (fun y => y.stcDerate _) ?_) _ (fun y => y.stcLatch _) ?_) _ (fun y => y.ywcLock _) ?_) _
    (fun y => y.clcLatch _) ?_
  · exact ⟨State.stcDerate_work _ _, .of_frames (by simp) (by simp), .of_coolant (by simp)⟩
  · exact ⟨State.stcLatch_work _ _, .of_frames (by simp) (by simp), .of_coolant (by simp)⟩
  · exact ⟨.of_string (by simp), State.ywcLock_work _ _, .of_coolant (by simp)⟩
  · exact ⟨.of_string (by simp), .of_frames (by simp) (by simp), .of_eq rfl rfl⟩

theorem State.overflow_ite (c : Prop) [Decidable c] (s t : State) :
    (if c then s else t).flu.overflow = if c then s.flu.overflow else t.flu.overflow :=
  apply_ite (fun x : State => x.flu.overflow) c s t

@[simp] theorem State.indicate_overflow (s : State) : s.indicate.flu.overflow = s.flu.overflow :=
  (congrArg FluStanding.overflow s.indicate_standing :)

theorem State.makeEntry_overflow (s : State) (code : Code) (v : Int) (h : s.flu.overflow = true) :
    (s.makeEntry code v).flu.overflow = true := by
  simp only [State.makeEntry, State.overflow_ite, State.overflow_of_standing (State.select_standing _),
    State.overflow_of_standing (State.testPressure_standing _), State.overflow_of_standing (State.removedIf_standing _ _),
    h, Bool.true_or, ite_self]

theorem State.setLog_overflow (s : State) (l : List Entry) : (s.setLog l).flu.overflow = s.flu.overflow := rfl

theorem State.logCondition_overflow (s : State) (code : Code) (v : Int) (h : s.flu.overflow = true) :
    (s.logCondition code v).flu.overflow = true := by
  unfold State.logCondition
  split
  · split
    · exact State.makeEntry_overflow _ _ _ h
    · exact h
  · exact State.makeEntry_overflow _ _ _ h

theorem State.logEvent_overflow (s : State) (code : Code) (v : Int) (h : s.flu.overflow = true) :
    (s.logEvent code v).flu.overflow = true := by
  unfold State.logEvent
  split
  · split
    · exact h
    · exact State.makeEntry_overflow _ _ _ h
  · exact State.makeEntry_overflow _ _ _ h

/-- New members of the condition set and their indications are work of every block (10 R168, R169). -/
theorem State.indicate_members_work (s : State) (ms : List Member) :
    s.StringWork (State.indicate { s with flu := { s.flu with members := ms } }) ∧
      s.YawWork (State.indicate { s with flu := { s.flu with members := ms } }) ∧
      s.PumpWork (State.indicate { s with flu := { s.flu with members := ms } }) := by
  obtain ⟨hs, hy, hp⟩ := State.indicate_work { s with flu := { s.flu with members := ms } }
  exact ⟨hs.after (.of_driven rfl), hy.after (.of_steered rfl), hp.after (.of_eq rfl rfl)⟩

/-- The work of a raise on the condition set, before its trip request and its log (10 R170). -/
def State.joined (s : State) (code : Code) (o : Option Origin) : State :=
  if code.isCondition then
    State.indicate { s with flu := { s.flu with members := joinSet code (code.actions o) s.flu.members } }
  else s

/-- The work of a raise before its log: the condition set, then the trip request (10 R170). -/
def State.acted (s : State) (code : Code) (o : Option Origin) : State :=
  if (code.actions o).trip then (s.joined code o).stcTripRequest else s.joined code o

theorem State.takeRaise_eq (s : State) (code : Code) (v : Int) (o : Option Origin) :
    s.takeRaise code v o =
      if code.isCondition then (s.acted code o).logCondition code (clampInt (-32768) 32767 v)
      else (s.acted code o).logEvent code (clampInt (-32768) 32767 v) := rfl

theorem State.joined_work (s : State) (code : Code) (o : Option Origin) :
    s.StringWork (s.joined code o) ∧ s.YawWork (s.joined code o) ∧ s.PumpWork (s.joined code o) := by
  unfold State.joined
  split
  · exact s.indicate_members_work _
  · exact ⟨.refl s, .refl s, .refl s⟩

theorem State.acted_work (s : State) (code : Code) (o : Option Origin) :
    s.StringWork (s.acted code o) ∧ s.YawWork (s.acted code o) ∧ s.PumpWork (s.acted code o) := by
  obtain ⟨hs, hy, hp⟩ := s.joined_work code o
  unfold State.acted
  split
  · exact ⟨hs.trans (State.trip_work _ _ _), hy.trans (.of_frames (by simp) (by simp)),
      hp.trans (.of_coolant (by simp))⟩
  · exact ⟨hs, hy, hp⟩

theorem State.acted_overflow (s : State) (code : Code) (o : Option Origin) :
    (s.acted code o).flu.overflow = s.flu.overflow := by
  simp only [State.acted, State.joined, State.overflow_ite, State.overflow_of_standing (State.stcTripRequest_standing _),
    State.indicate_overflow, ite_self]

theorem State.takeRaise_carries (s : State) (code : Code) (v : Int) (o : Option Origin) :
    s.Carries (s.takeRaise code v o) := by
  have ho : (s.takeRaise code v o).outer = s.outer := s.takeRaise_outer _ _ _
  obtain ⟨hs, hy, hp⟩ := s.acted_work code o
  refine
    { straps := by rw [State.outer_icu ho]
      record := fun h => h.of_icu (State.outer_icu ho)
      pending := State.outer_pending ho
      clock := s.takeRaise_clock code v o
      overflow := fun h => ?_
      string := ?_
      yaw := ?_
      pump := ?_
      indicated := s.takeRaise_indicated code v o
      tabled := fun h => ?_ }
  · have ha := (s.acted_overflow code o).trans h
    rw [State.takeRaise_eq]
    split
    · exact State.logCondition_overflow _ _ _ ha
    · exact State.logEvent_overflow _ _ _ ha
  · rw [State.takeRaise_eq]
    exact .ite _ (fun _ => hs.trans (.of_string (by simp))) (fun _ => hs.trans (.of_string (by simp)))
  · rw [State.takeRaise_eq]
    exact .ite _ (fun _ => hy.trans (.of_frames (by simp) (by simp))) (fun _ => hy.trans (.of_frames (by simp) (by simp)))
  · rw [State.takeRaise_eq]
    exact .ite _ (fun _ => hp.trans (.of_coolant (by simp))) (fun _ => hp.trans (.of_coolant (by simp)))
  · unfold State.Tabled
    rw [State.takeRaise_members]
    split
    · exact joinSet_tabled code o _ ‹_› h
    · exact h

theorem State.takeClear_carries (s : State) (code : Code) : s.Carries (s.takeClear code) := by
  have ho : (s.takeClear code).outer = s.outer := s.takeClear_outer _
  obtain ⟨hs, hy, hp⟩ := s.indicate_members_work (s.flu.members.filter (fun m => m.code != code))
  refine
    { straps := by rw [State.outer_icu ho]
      record := fun h => h.of_icu (State.outer_icu ho)
      pending := State.outer_pending ho
      clock := s.takeClear_clock code
      overflow := fun h => ?_
      string := .ite _ (fun _ => .refl s) (fun _ => hs.trans (.of_driven rfl))
      yaw := .ite _ (fun _ => .refl s) (fun _ => hy.trans (.of_steered rfl))
      pump := .ite _ (fun _ => .refl s) (fun _ => hp.trans (.of_eq rfl rfl))
      indicated := s.takeClear_indicated code
      tabled := fun h => ?_ }
  · simp only [State.takeClear, State.overflow_ite, State.setLog_overflow, State.indicate_overflow, h, ite_self]
  · unfold State.Tabled
    rw [State.takeClear_members]
    split
    · exact h
    · exact fun m hm => h m (List.mem_filter.mp hm |>.1)

theorem State.serve_carries (s : State) (r : Request) : s.Carries (s.serve r) := by
  cases r with
  | raised code v o => exact s.takeRaise_carries code v o
  | cleared code => exact s.takeClear_carries code

/-- A change of the FLU beside its standing parts. -/
theorem State.carries_inbox (s : State) (b : List Request) : s.Carries { s with flu := { s.flu with inbox := b } } :=
  .of_frames rfl rfl rfl rfl (.of_driven rfl) (.of_steered rfl) (.of_eq rfl rfl)

theorem State.settleWithin_carries (n : Nat) (s : State) : s.Carries (s.settleWithin n) := by
  induction n generalizing s with
  | zero => exact .refl s
  | succ n ih =>
    unfold State.settleWithin
    split
    · exact .refl s
    · exact (s.carries_inbox _).trans ((State.serve_carries _ _).trans (ih _))

theorem State.settle_carries (s : State) : s.Carries s.settle := s.settleWithin_carries 32

/-! ### Work that leaves no request behind -/

/-- Work that hands the FLU at most so many requests. -/
def State.Adds (s t : State) (k : Nat) : Prop := t.requests.length ≤ s.requests.length + k

theorem State.Adds.of_eq {s t : State} (h : t.requests = s.requests) (k : Nat) : s.Adds t k := by
  unfold State.Adds
  rw [h]
  exact Nat.le_add_right _ _

theorem State.Adds.trans {s t u : State} {k m : Nat} (h : s.Adds t k) (h' : t.Adds u m) : s.Adds u (k + m) := by
  unfold State.Adds at *
  omega

theorem State.Adds.mono {s t : State} {k m : Nat} (h : s.Adds t k) (hm : k ≤ m) : s.Adds t m := by
  unfold State.Adds at *
  omega

theorem State.Adds.ite {s t u : State} {k : Nat} (c : Prop) [Decidable c] (ht : s.Adds t k) (hu : s.Adds u k) :
    s.Adds (if c then t else u) k := by
  split <;> assumption

theorem StringState.spare_le (st : StringState) : st.spare ≤ 3 := by cases st <;> simp [StringState.spare]

theorem State.Onward.adds {s t : State} (h : s.Onward t) : s.Adds t 3 := by
  obtain ⟨l, hl, _, hn⟩ := h
  have := s.stc.state.spare_le
  unfold State.Adds
  rw [hl, List.length_append]
  omega

theorem State.raise_adds (s : State) (c : Code) (v : Int) (o : Option Origin) : s.Adds (s.raise c v o) 1 := by
  unfold State.Adds State.requests
  exact Nat.le_of_eq (by rw [State.raise_inbox, List.length_append, List.length_singleton])

theorem State.clear_adds (s : State) (c : Code) : s.Adds (s.clear c) 1 := by
  unfold State.Adds State.requests
  exact Nat.le_of_eq (by rw [State.clear_inbox, List.length_append, List.length_singleton])

/-- Work that carries on and, where no request waits, leaves none. -/
structure State.Keeps (s t : State) : Prop extends State.Carries s t where
  idle : s.requests = [] → t.requests = []

theorem State.Keeps.refl (s : State) : s.Keeps s := ⟨.refl s, id⟩

theorem State.Keeps.trans {s t u : State} (h : s.Keeps t) (k : t.Keeps u) : s.Keeps u :=
  ⟨h.toCarries.trans k.toCarries, k.idle ∘ h.idle⟩

theorem State.Keeps.after {s s' t : State} (k : s'.Keeps t) (h : s.Keeps s') : s.Keeps t := h.trans k

theorem State.Keeps.ite {s t u : State} (c : Prop) [Decidable c] (ht : c → s.Keeps t) (hu : ¬ c → s.Keeps u) :
    s.Keeps (if c then t else u) := by
  split
  · exact ht ‹_›
  · exact hu ‹_›

theorem State.Carries.keeps {s t : State} (h : s.Carries t) (hr : t.requests = s.requests) : s.Keeps t :=
  ⟨h, fun k => hr.trans k⟩

/-- Work that hands the FLU few requests, with the taking of them (10 R166). -/
theorem State.Carries.settled {s t : State} (h : s.Carries t) {k : Nat} (ha : s.Adds t k) (hk : k ≤ 29) :
    s.Keeps t.settle := by
  refine ⟨h.trans t.settle_carries, fun hi => t.settle_empty ?_⟩
  have := t.stc.state.spare_le
  unfold State.Adds at ha
  rw [hi, List.length_nil] at ha
  unfold State.load
  omega

theorem State.raise_carries (s : State) (c : Code) (v : Int) (o : Option Origin) : s.Carries (s.raise c v o) :=
  s.carries_inbox _

theorem State.clear_carries (s : State) (c : Code) : s.Carries (s.clear c) := s.carries_inbox _

theorem State.raiseNow_keeps (s : State) (c : Code) (v : Int) (o : Option Origin) : s.Keeps (s.raiseNow c v o) :=
  (s.raise_carries c v o).settled (s.raise_adds c v o) (by decide)

theorem State.clearNow_keeps (s : State) (c : Code) : s.Keeps (s.clearNow c) :=
  (s.clear_carries c).settled (s.clear_adds c) (by decide)

/-- Work of the LIF's queue and of the announcement, which hands the FLU nothing. -/
theorem State.Keeps.of_line {s t : State} (h : t.besidesLine = s.besidesLine) (hr : t.requests = s.requests) :
    s.Keeps t := (State.Carries.of_line h).keeps hr

theorem State.Keeps.of_yaw {s t : State} (h : t.besidesYaw = s.besidesYaw) (k : s.YawWork t)
    (hr : t.requests = s.requests) : s.Keeps t := (State.Carries.of_yaw h k).keeps hr

theorem State.Keeps.of_pump {s t : State} (h : t.besidesPump = s.besidesPump) (k : s.PumpWork t)
    (hr : t.requests = s.requests) : s.Keeps t := (State.Carries.of_pump h k).keeps hr

theorem State.Keeps.of_string {s t : State} (h : t.besidesString = s.besidesString) (k : s.StringWork t)
    (hr : t.requests = s.requests) : s.Keeps t := (State.Carries.of_string h k).keeps hr

/-- A change of the line, the peer table, the plant levels, the samplers or the draws. -/
theorem State.keeps_update (s : State) (l : Lif) (p : Ptb) (v : Levels) (d : Differing) (n : Nat) :
    s.Keeps ⟨s.icu, l, p, s.stc, s.ywc, s.clc, s.flu, v, d, n, s.pending⟩ := (s.carries_update l p v d n).keeps rfl

end Sys2Proof.Machine
end

section
/-! SUPPORT. What each command but the full reset keeps: the walk through the commands that the invariants share. -/

namespace Sys2Proof.Machine

/-! ### The yaw controller -/

theorem State.enterIdle_keeps (s : State) : s.Keeps s.enterIdle :=
  .of_yaw (by simp [State.besidesYaw]) s.enterIdle_work (by simp)

theorem State.enterBraking_keeps (s : State) : s.Keeps s.enterBraking :=
  .of_yaw (by simp [State.besidesYaw]) s.enterBraking_work (by simp)

theorem State.haltMove_keeps (s : State) (e : HaltReason) : s.Keeps (s.haltMove e) :=
  .of_yaw (by simp [State.besidesYaw]) (s.haltMove_work e) (by simp)

theorem State.haltProposal_keeps (s : State) (e : HaltReason) : s.Keeps (s.haltProposal e) :=
  .of_yaw (by simp [State.besidesYaw]) (s.haltProposal_work e) (by simp)

theorem State.takeHalt_keeps (s : State) (r : Ref) : s.Keeps (s.takeHalt r) :=
  .of_yaw (by simp [State.besidesYaw]) (s.takeHalt_work r) (by simp)

theorem State.takeDrive_keeps (s : State) : s.Keeps s.takeDrive :=
  .of_yaw (by simp [State.besidesYaw]) s.takeDrive_work (by simp)

theorem State.joinReleased_keeps (s : State) (n : Station) : s.Keeps (s.joinReleased n) :=
  .of_yaw (by simp [State.besidesYaw]) (s.joinReleased_work n) (by simp)

theorem State.brakesReleased_keeps (s : State) : s.Keeps s.brakesReleased :=
  .of_yaw (by simp [State.besidesYaw]) s.brakesReleased_work (by simp)

theorem State.enterReleasing_keeps (s : State) : s.Keeps s.enterReleasing :=
  .of_yaw (by simp [State.besidesYaw]) s.enterReleasing_work (by simp)

theorem State.takeDecision_keeps (s : State) (r : Proposal) : s.Keeps (s.takeDecision r) :=
  .of_yaw (by simp [State.besidesYaw]) (s.takeDecision_work r) (by simp)

theorem State.enterAnswer_keeps (s : State) (r : Proposal) (n : Station) (a : Reply) : s.Keeps (s.enterAnswer r n a) :=
  .of_yaw (by simp [State.besidesYaw]) (s.enterAnswer_work r n a) (by simp)

theorem State.propose_keeps (s : State) (p : Plan) : s.Keeps (s.propose p) :=
  .of_yaw (by simp [State.besidesYaw]) (s.propose_work p) (by simp)

theorem State.answerProposal_keeps (s : State) (ref : Ref) (path : Int) : s.Keeps (s.answerProposal ref path) :=
  .of_yaw (by simp [State.besidesYaw]) (s.answerProposal_work ref path) (by simp)

theorem State.motionStep_keeps (s : State) (cw : Bool) : s.Keeps (s.motionStep cw) :=
  .of_yaw (by simp [State.besidesYaw]) (s.motionStep_work cw) (by simp)

theorem State.takeTurn_besides (s : State) : s.takeTurn.besidesYaw = s.besidesYaw := by
  unfold State.takeTurn
  dsimp only
  split <;> rfl

theorem State.takeTwist_besides (s : State) : s.takeTwist.besidesYaw = s.besidesYaw := by
  unfold State.takeTwist
  split <;> rfl

theorem State.ywcConfigured_besides (s : State) : s.ywcConfigured.besidesYaw = s.besidesYaw := by
  unfold State.ywcConfigured
  split
  · exact (State.takeTwist_besides _).trans (State.takeTurn_besides _)
  · rfl

theorem State.ywcConfigured_carries (s : State) : s.Carries s.ywcConfigured :=
  .of_yaw s.ywcConfigured_besides s.ywcConfigured_work

theorem State.startHoldoff_keeps (s : State) : s.Keeps s.startHoldoff :=
  .of_yaw (by simp [State.besidesYaw]) (.of_steered rfl) rfl

theorem State.emptyWindow_keeps (s : State) : s.Keeps s.emptyWindow :=
  .of_yaw (by simp [State.besidesYaw]) (.of_steered rfl) rfl

/-- A change of the YWC beside what its invariant and the FLU's indications read. -/
theorem State.keeps_ywc (s : State) (y : Ywc) (h : State.steered { s with ywc := y } = s.steered)
    (hl : y.lock = s.ywc.lock) : s.Keeps { s with ywc := y } := (s.carries_ywc y h hl).keeps rfl

/-- A change of the plant levels and of the YWC beside what its invariant and the FLU's indications read. -/
theorem State.keeps_levels_ywc (s : State) (l : Levels) (y : Ywc) (h : State.steered { s with ywc := y } = s.steered)
    (hl : y.lock = s.ywc.lock) : s.Keeps { s with levels := l, ywc := y } :=
  (State.keeps_ywc { s with levels := l } y h hl).after (s.keeps_update _ _ _ _ _)

theorem State.ywcWind_keeps (s : State) (angle : Int) : s.Keeps (s.ywcWind angle) :=
  .ite _ (fun _ => s.keeps_ywc _ rfl rfl) (fun _ => .refl s)

theorem State.takeCommit_keeps (s : State) (r : Ref) (c : StationSet) : s.Keeps (s.takeCommit r c) :=
  s.emptyWindow_keeps.trans (.ite _ (fun _ => .ite _ (fun _ => s.emptyWindow.enterReleasing_keeps)
    (fun _ => s.emptyWindow.enterIdle_keeps)) (fun _ => .refl _))

theorem State.takeAnswer_keeps (s : State) (n : Station) (f : AnswerFields) : s.Keeps (s.takeAnswer n f) := by
  unfold State.takeAnswer
  split
  · exact .refl s
  · refine .ite _ (fun _ => ?_) (fun _ => .refl s)
    split
    · exact s.enterAnswer_keeps _ _ _
    · exact s.enterAnswer_keeps _ _ _
    · exact s.joinReleased_keeps n
    · exact .refl s

theorem State.positionVote_adds (s : State) : s.Adds s.positionVote 1 := by
  unfold State.positionVote
  split
  · split
    · split
      · exact .of_eq rfl 1
      · exact State.raise_adds (s.setDisagree true) _ _ _
    · split
      · exact State.clear_adds (s.setDisagree false) _
      · exact .of_eq rfl 1
  · split
    · exact State.clear_adds (s.setDisagree false) _
    · exact .of_eq rfl 1

theorem State.positionVote_keeps (s : State) : s.Keeps s.positionVote.settle :=
  (State.Carries.of_yaw (by simp [State.besidesYaw]) s.positionVote_work).settled s.positionVote_adds (by decide)

theorem State.markSeen_adds (s : State) : s.Adds s.markSeen 1 := by
  unfold State.markSeen
  split
  · exact .of_eq rfl 1
  · split
    · split
      · exact .of_eq rfl 1
      · exact State.raise_adds { s with ywc := _ } _ _ _
    · exact .of_eq rfl 1

theorem State.markSeen_keeps (s : State) : s.Keeps s.markSeen.settle :=
  (State.Carries.of_yaw (by simp [State.besidesYaw]) s.markSeen_work).settled s.markSeen_adds (by decide)

theorem State.encoderFails_keeps (s : State) : s.Keeps s.encoderFails :=
  (State.raiseNow_keeps _ _ _ _).after (.ite _ (fun _ => s.haltMove_keeps _) (fun _ => .refl s))

theorem State.stalls_keeps (s : State) : s.Keeps s.stalls := by
  unfold State.stalls
  have h := s.haltMove_keeps .stall
  generalize s.haltMove .stall = t at h ⊢
  exact (State.startHoldoff_keeps _).after ((State.raiseNow_keeps _ _ _ _).after ((t.keeps_ywc { t.ywc with stall := true } rfl rfl).after h))

theorem State.testAndPropose_keeps (s : State) : s.Keeps s.testAndPropose := by
  refine .ite _ (fun _ => ?_) (fun _ => .refl s)
  split
  · exact .refl s
  · exact s.propose_keeps _
  · exact (State.startHoldoff_keeps _).after (s.raiseNow_keeps _ _ _)

/-! ### The string controller -/

/-- A change of the STC beside what its invariants and the FLU's indications read. -/
theorem State.keeps_stc (s : State) (c : Stc) (h : State.driven { s with stc := c } = s.driven)
    (he : c.exponent = s.stc.exponent) (hl : c.latch = s.stc.latch) : s.Keeps { s with stc := c } :=
  (s.carries_stc c h he hl).keeps rfl

/-- A change of the plant levels and of the STC beside what its invariants and the FLU's indications read. -/
theorem State.keeps_levels_stc (s : State) (l : Levels) (c : Stc) (h : State.driven { s with stc := c } = s.driven)
    (he : c.exponent = s.stc.exponent) (hl : c.latch = s.stc.latch) : s.Keeps { s with levels := l, stc := c } :=
  (State.keeps_stc { s with levels := l } c h he hl).after (s.keeps_update _ _ _ _ _)

theorem State.drive_carries (s : State) (st : StringState) (v : Nat) (h : s.StringWork (s.drive st v)) :
    s.Carries (s.drive st v) := .of_string (by simp [State.besidesString]) h

theorem State.raiseCause_adds (s : State) (c : Option (Code × Int)) : s.Adds (s.raiseCause c) 1 := by
  unfold State.raiseCause
  split
  · exact s.raise_adds _ _ _
  · exact .of_eq rfl 1

theorem State.trip_adds (s : State) (cause : TripCause) (raised : Option (Code × Int)) : s.Adds (s.trip cause raised) 2 := by
  unfold State.trip
  split
  · dsimp only
    generalize hx : State.requestTrip _ cause = x
    have hr : s.Adds x 0 := .of_eq (by rw [← hx]; simp) 0
    have hc : s.Adds (x.raiseCause raised) 1 := hr.trans (x.raiseCause_adds raised)
    exact .ite _ (hc.trans (State.raise_adds _ _ _ _)) (hc.mono (by decide))
  · exact .of_eq rfl 2

theorem State.trip_carries (s : State) (cause : TripCause) (raised : Option (Code × Int)) : s.Carries (s.trip cause raised) :=
  .of_string (by simp [State.besidesString]) (s.trip_work cause raised)

theorem State.trip_keeps (s : State) (cause : TripCause) (raised : Option (Code × Int)) :
    s.Keeps (s.trip cause raised).settle := (s.trip_carries cause raised).settled (s.trip_adds cause raised) (by decide)

theorem State.enterRun_keeps (s : State) : s.Keeps s.enterRun :=
  .of_string (by simp [State.besidesString]) s.enterRun_work (by simp)

theorem State.enterSync_keeps (s : State) : s.Keeps s.enterSync :=
  .of_string (by simp [State.besidesString]) s.enterSync_work (by simp)

theorem State.enterOff_carries (s : State) : s.Carries s.enterOff :=
  .of_string (by simp [State.besidesString]) s.enterOff_work

theorem State.enterOff_adds (s : State) : s.Adds s.enterOff 3 :=
  (State.Adds.of_eq (by simp) 0).trans (State.startTest_onward _).adds

theorem State.stcPermit_adds (s : State) (permit : Bool) : s.Adds (s.stcPermit permit) 3 := by
  unfold State.stcPermit
  dsimp only
  split
  · exact (State.startTest_onward _).adds
  · exact State.enterOff_adds _
  all_goals exact .of_eq (by simp) 3

theorem State.stcPermit_keeps (s : State) (permit : Bool) : s.Keeps (s.stcPermit permit).settle :=
  (State.Carries.of_string (by simp [State.besidesString]) (s.stcPermit_work permit)).settled (s.stcPermit_adds permit)
    (by decide)

theorem State.stcConfigured_adds (s : State) : s.Adds s.stcConfigured 6 := by
  unfold State.stcConfigured
  have hf : s.Adds (State.formLimit { s with stc := { s.stc with shareTimer := some s.period } }) 3 :=
    (State.formLimit_onward { s with stc := { s.stc with shareTimer := some s.period } }).adds
  exact .ite _ (hf.trans (.of_eq (by simp) 3)) (hf.trans (State.startTest_onward _).adds)

theorem State.drive_zero_carries (s : State) (st : StringState) : s.Carries (s.drive st 0) :=
  s.drive_carries st 0 (s.drive_zero_work s st)

theorem State.startTest_carries (s : State) : s.Carries s.startTest :=
  .of_string (by simp [State.besidesString]) s.startTest_work

theorem State.formLimit_carries (s : State) : s.Carries s.formLimit :=
  .of_string (by simp [State.besidesString]) s.formLimit_work

theorem State.stcConfigured_carries (s : State) : s.Carries s.stcConfigured :=
  (State.Carries.ite _ (fun _ => State.drive_zero_carries _ _) (fun _ => State.startTest_carries _)).after
    ((State.formLimit_carries _).after (s.carries_stc _ rfl rfl rfl))

theorem State.stcConfigured_keeps (s : State) : s.Keeps s.stcConfigured.settle :=
  s.stcConfigured_carries.settled s.stcConfigured_adds (by decide)

theorem State.shareInStopping_adds (s : State) : s.Adds s.shareInStopping 3 := by
  unfold State.shareInStopping
  refine .ite _ s.enterOff_adds (.ite _ ?_ (.of_eq rfl 3))
  exact State.enterOff_adds (State.sendLink _)

theorem State.shareRound_adds (s : State) : s.Adds s.shareRound 3 := by
  unfold State.shareRound
  split
  · exact .of_eq s.shareInRun_requests 3
  · exact s.shareInStopping_adds
  all_goals exact .of_eq rfl 3

theorem State.shareRound_keeps (s : State) : s.Keeps s.shareRound.settle :=
  (State.Carries.of_string (by simp [State.besidesString]) s.shareRound_work).settled s.shareRound_adds (by decide)

theorem State.stcTheta_carries (s : State) (theta : Option Int) : s.Carries (s.stcTheta theta) :=
  .of_string (by simp [State.besidesString]) (s.stcTheta_work theta)

theorem State.tempTest_adds (s : State) (theta : Option Int) : s.Adds (s.tempTest theta) 3 := by
  unfold State.tempTest
  split
  · exact .of_eq rfl 3
  · refine .ite _ (.ite _ ?_ (.ite _ ?_ (.of_eq rfl 3))) (.of_eq rfl 3)
    · have ht := s.trip_adds .overtemp none
      exact .ite _ (ht.mono (by decide)) (ht.trans (State.raise_adds { State.trip s .overtemp none with stc := _ } _ _ _))
    · exact (State.clear_adds { s with stc := _ } _).mono (by decide)

theorem State.stcTheta_adds (s : State) (theta : Option Int) : s.Adds (s.stcTheta theta) 6 :=
  State.Adds.trans (k := 3) (State.formLimit_onward { s with stc := { s.stc with theta := theta } }).adds
    (State.tempTest_adds _ theta)

theorem State.contactorFound_adds (s : State) : s.Adds s.contactorFound 2 := by
  unfold State.contactorFound
  refine .ite _ ?_ (.ite _ (.of_eq rfl 2) ?_)
  · exact State.trip_adds { s with stc := { s.stc with contactorFault := true } } _ _
  · exact (State.raise_adds { s with stc := { s.stc with contactorFault := true } } _ _ _).mono (by decide)

theorem State.contactorFound_carries (s : State) : s.Carries s.contactorFound :=
  .ite _ (fun _ => (State.trip_carries _ _ _).after (s.carries_stc _ rfl rfl rfl)) (fun _ => .ite _ (fun _ => .refl s)
    (fun _ => (State.raise_carries _ _ _ _).after (s.carries_stc _ rfl rfl rfl)))

theorem State.contactorFound_keeps (s : State) : s.Keeps s.contactorFound.settle :=
  s.contactorFound_carries.settled s.contactorFound_adds (by decide)

theorem State.leaveTripped_adds (s : State) (latchArrives : Bool) : s.Adds (s.leaveTripped latchArrives) 3 := by
  unfold State.leaveTripped
  refine .ite _ (.of_eq (by simp) 3) (.ite _ (.of_eq (by simp) 3) ?_)
  exact State.enterOff_adds (State.noteHolders _)

theorem State.leaveTripped_carries (s : State) (latchArrives : Bool) : s.Carries (s.leaveTripped latchArrives) :=
  (State.Carries.ite _ (fun _ => State.drive_zero_carries _ _) (fun _ => .ite _ (fun _ => State.drive_zero_carries _ _)
    (fun _ => State.enterOff_carries _))).after ((State.carries_update _ _ _ _ _ _).after (s.carries_stc _ rfl rfl rfl))

theorem State.leaveTripped_keeps (s : State) (latchArrives : Bool) : s.Keeps (s.leaveTripped latchArrives).settle :=
  (s.leaveTripped_carries latchArrives).settled (s.leaveTripped_adds latchArrives) (by decide)

end Sys2Proof.Machine
end

section
/-! SUPPORT. What each command keeps, continued: the coolant controller, the line, the fault unit and the peer table. -/

namespace Sys2Proof.Machine

/-! ### The coolant controller -/

/-- A change of the CLC beside what its invariant and the FLU's indications read. -/
theorem State.keeps_clc (s : State) (c : Clc) (ho : c.owner = s.clc.owner) (hp : c.pumpOutput = s.clc.pumpOutput)
    (hl : c.latch = s.clc.latch) : s.Keeps { s with clc := c } := (s.carries_clc c ho hp hl).keeps rfl

/-- A change of the plant levels and of the CLC beside what its invariant and the FLU's indications read. -/
theorem State.keeps_levels_clc (s : State) (l : Levels) (c : Clc) (ho : c.owner = s.clc.owner)
    (hp : c.pumpOutput = s.clc.pumpOutput) (hl : c.latch = s.clc.latch) : s.Keeps { s with levels := l, clc := c } :=
  (State.keeps_clc { s with levels := l } c ho hp hl).after (s.keeps_update _ _ _ _ _)

theorem State.setFlow_carries (s : State) (f : FlowState) : s.Carries (s.setFlow f) :=
  (State.Carries.of_string (by simp [State.besidesString]) (State.stcFlow_work _ f)).after (s.carries_clc _ rfl rfl rfl)

theorem State.setFlow_adds (s : State) (f : FlowState) : s.Adds (s.setFlow f) 3 :=
  (State.stcFlow_onward { s with clc := { s.clc with flow := f } } f).adds

theorem State.flowTest_carries (s : State) : s.Carries s.flowTest := by
  unfold State.flowTest
  refine .ite _ (fun _ => ?_) (fun _ => .refl s)
  split
  · exact (State.setFlow_carries _ _).after (s.carries_clc _ rfl rfl rfl)
  · exact (State.setFlow_carries _ _).after (s.carries_clc _ rfl rfl rfl)
  · have h := s.setFlow_carries .flowOk
    refine .ite _ (fun _ => ?_) (fun _ => h)
    exact (State.clear_carries _ _).after
      ((State.carries_clc _ { (s.setFlow .flowOk).clc with lostFlag := false } rfl rfl rfl).after h)
  · exact .refl s

theorem State.flowTest_adds (s : State) : s.Adds s.flowTest 4 := by
  unfold State.flowTest
  refine .ite _ ?_ (.of_eq rfl 4)
  split
  · exact (State.setFlow_adds { s with clc := _ } _).mono (by decide)
  · exact (State.setFlow_adds { s with clc := _ } _).mono (by decide)
  · have h := s.setFlow_adds .flowOk
    exact .ite _ (h.trans (State.clear_adds { s.setFlow .flowOk with clc := _ } _)) (h.mono (by decide))
  · exact .of_eq rfl 4

theorem State.startTests_keeps (s : State) : s.Keeps s.startTests :=
  .of_pump (by simp [State.besidesPump]) s.startTests_work (by simp)

theorem State.bothRunningTest_keeps (s : State) : s.Keeps s.bothRunningTest :=
  .of_pump (by simp [State.besidesPump]) s.bothRunningTest_work (by simp)

theorem State.outgoingTest_keeps (s : State) : s.Keeps s.outgoingTest :=
  .of_pump (by simp [State.besidesPump]) s.outgoingTest_work (by simp)

/-- The tests of a loop view change carry on and hand the FLU at most what one flow test hands it. -/
theorem State.viewTests_carries (n : Nat) (s : State) :
    s.Carries (State.viewTests n s) ∧ s.Adds (State.viewTests n s) 4 := by
  induction n generalizing s with
  | zero => exact ⟨.refl s, .of_eq rfl 4⟩
  | succ n ih =>
    have ha := s.startTests_keeps
    have hb := s.startTests.bothRunningTest_keeps
    have hc := s.startTests.bothRunningTest.outgoingTest_keeps
    have hra : s.startTests.requests = s.requests := by simp
    have hrb : s.startTests.bothRunningTest.requests = s.requests := by simp
    have hrc : s.startTests.bothRunningTest.outgoingTest.requests = s.requests := by simp
    have on {x t : State} (hx : s.Carries x) (hr : x.requests = s.requests) (h : x.Carries t ∧ x.Adds t 4) :
        s.Carries t ∧ s.Adds t 4 := ⟨hx.trans h.1, (State.Adds.of_eq hr 0).trans h.2⟩
    unfold State.viewTests
    dsimp only
    split
    · exact on ha.toCarries hra (ih _)
    · split
      · exact on (ha.trans hb).toCarries hrb (ih _)
      · split
        · exact on ((ha.trans hb).trans hc).toCarries hrc (ih _)
        · exact on ((ha.trans hb).trans hc).toCarries hrc ⟨State.flowTest_carries _, State.flowTest_adds _⟩

theorem State.lookAgain_keeps (s : State) : s.Keeps s.lookAgain :=
  (State.viewTests_carries 8 s).1.settled (State.viewTests_carries 8 s).2 (by decide)

theorem State.failPump_adds (s : State) (cause : Int) : s.Adds (s.failPump cause) 1 := by
  unfold State.failPump
  exact .ite _ (.of_eq rfl 1) ((State.Adds.of_eq (by simp) 0).trans (State.raise_adds _ _ _ _))

theorem State.pumpFails_keeps (s : State) (cause : Int) : s.Keeps (s.pumpFails cause) :=
  ((State.Carries.of_pump (by simp [State.besidesPump]) (s.failPump_work cause)).settled (s.failPump_adds cause)
    (by decide)).trans (State.lookAgain_keeps _)

theorem State.pumpConflict_keeps (s : State) (n : Station) : s.Keeps (s.pumpConflict n) := by
  refine .ite _ (fun _ => .refl s) (fun _ => ?_)
  have h := (State.raiseNow_keeps { s with clc := { s.clc with conflict := true } } .roleConflict n.val (some .pump)).after
    (s.keeps_clc { s.clc with conflict := true } rfl rfl rfl)
  exact .ite _ (fun _ => h.trans (State.pumpFails_keeps _ 3)) (fun _ => h)

theorem State.takeView_keeps (s : State) (f : PumpFields) (n : Station) : s.Keeps (s.takeView f n) :=
  .of_pump (by simp [State.besidesPump]) (s.takeView_work f n) (by simp)

theorem State.handoverRequest_keeps (s : State) (f : PumpFields) : s.Keeps (s.handoverRequest f) :=
  .of_pump (by simp [State.besidesPump]) (s.handoverRequest_work f) (by simp)

theorem State.takePump_keeps (s : State) (f : PumpFields) (n : Station) : s.Keeps (s.takePump f n) :=
  .ite _ (fun _ => s.pumpConflict_keeps n) (fun _ => .ite _ (fun _ => ((s.takeView_keeps f n).trans
    (State.handoverRequest_keeps _ f)).trans (State.lookAgain_keeps _)) (fun _ => .refl s))

theorem State.requestPump_keeps (s : State) : s.Keeps s.requestPump :=
  .of_pump (by simp [State.besidesPump]) s.requestPump_work (by simp)

theorem State.enterStarting_keeps (s : State) : s.Keeps s.enterStarting :=
  .of_pump (by simp [State.besidesPump]) s.enterStarting_work (by simp)

theorem State.enterRunning_keeps (s : State) : s.Keeps s.enterRunning :=
  .of_pump (by simp [State.besidesPump]) s.enterRunning_work (by simp)

theorem State.changeOwner_keeps (s : State) (o : PumpOwner) : s.Keeps (s.changeOwner o) :=
  .of_pump (by simp [State.besidesPump]) (s.changeOwner_work s o) (by simp)

theorem State.dutyEnds_keeps (s : State) : s.Keeps s.dutyEnds :=
  .ite _ (fun _ => (s.changeOwner_keeps .handingOff).trans (State.lookAgain_keeps _)) (fun _ => s.keeps_clc _ rfl rfl rfl)

theorem State.flowLost_keeps (s : State) : s.Keeps s.flowLost := by
  unfold State.flowLost
  have h := (State.setFlow_carries { s with clc := { s.clc with graceTimer := none } } .flowLost).after
    (s.carries_clc _ rfl rfl rfl)
  have ha : s.Adds (State.setFlow { s with clc := { s.clc with graceTimer := none } } .flowLost) 3 := State.setFlow_adds _ _
  generalize State.setFlow { s with clc := { s.clc with graceTimer := none } } .flowLost = t at h ha ⊢
  have hc : s.Carries { t with clc := { t.clc with lostFlag := true } } := 
    (t.carries_clc { t.clc with lostFlag := true } rfl rfl rfl).after h
  exact (hc.trans (State.raise_carries _ .flowLost t.pumpsFailed none)).settled
    (State.Adds.trans (t := { t with clc := { t.clc with lostFlag := true } }) ha (State.raise_adds _ _ _ _)) (by decide)

theorem State.disagreeTest_keeps (s : State) (v : Vote) : s.Keeps (s.disagreeTest v).settle := by
  refine (State.Carries.of_pump (by simp [State.besidesPump]) (s.disagreeTest_work v)).settled (k := 1) ?_ (by decide)
  unfold State.disagreeTest
  split
  · exact .ite _ (.of_eq rfl 1) (State.raise_adds { s with clc := _ } _ _ _)
  all_goals exact .ite _ (State.clear_adds { s with clc := _ } _) (.of_eq rfl 1)

theorem State.supplyTest_keeps (s : State) (v : Vote) (n : Nat) : s.Keeps (s.supplyTest v n).settle := by
  refine (State.Carries.of_pump (by simp [State.besidesPump]) (s.supplyTest_work v n)).settled (k := 1) ?_ (by decide)
  unfold State.supplyTest
  split
  any_goals exact .ite _ (.of_eq rfl 1) (State.raise_adds { s with clc := _ } _ _ _)
  all_goals exact .ite _ (State.clear_adds { s with clc := _ } _) (.of_eq rfl 1)

theorem State.voteRound_keeps (s : State) : s.Keeps s.voteRound := by
  unfold State.voteRound
  dsimp only
  generalize voteOf s.clc.raw s.clc.rawValid s.peerReadings = v
  have h := ((State.stcTheta_carries { s with clc := { s.clc with theta := v.theta } } v.theta).after
    (s.carries_clc _ rfl rfl rfl)).settled (k := 6)
    (State.stcTheta_adds { s with clc := { s.clc with theta := v.theta } } v.theta) (by decide)
  exact (h.trans (State.disagreeTest_keeps _ v)).trans (State.supplyTest_keeps _ v _)

theorem State.heatRound_keeps (s : State) : s.Keeps s.heatRound :=
  .ite _ (fun _ => (State.Keeps.of_pump (by simp [State.besidesPump]) (State.raiseStages_work _) (by simp)).after
    (s.keeps_clc _ rfl rfl rfl)) (fun _ => .refl s)

theorem State.setCover_keeps (s : State) : s.Keeps s.setCover :=
  .of_pump (by simp [State.besidesPump]) s.setCover_work (by simp)

theorem State.rivalTest_adds (s : State) : s.Adds s.rivalTest 1 := by
  cases hr : s.rival with
  | none => rw [s.rivalTest_none hr]; exact .of_eq rfl 1
  | some n =>
    rw [s.rivalTest_eq n hr]
    have h : s.Adds (s.rivalFound n) 1 := State.raise_adds { s with clc := _ } _ _ _
    refine .ite _ (.of_eq rfl 1) (.ite _ (h.trans (m := 0) (.of_eq ?_ 0)) h)
    exact (s.rivalFound n).fansOff_requests

theorem State.rivalTest_keeps (s : State) : s.Keeps s.rivalTest.settle :=
  (State.Carries.of_pump (by simp [State.besidesPump]) s.rivalTest_work).settled s.rivalTest_adds (by decide)

theorem State.stepStages_keeps (s : State) : s.Keeps s.stepStages :=
  .of_pump (by simp [State.besidesPump]) s.stepStages_work (by simp)

theorem State.applyDuty_keeps (s : State) : s.Keeps s.applyDuty :=
  .of_pump (by simp [State.besidesPump]) s.applyDuty_work (by simp)

/-! ### The line and the announcement -/

theorem State.discardNotice_keeps (s : State) (f : QueuedFrame) : s.Keeps (s.discardNotice f) :=
  .of_line (by simp [State.besidesLine]) (by simp)

theorem State.completionNotice_keeps (s : State) (f : QueuedFrame) : s.Keeps (s.completionNotice f) :=
  .of_line (by simp [State.besidesLine]) (by simp)

theorem State.placeFree_keeps (s : State) : s.Keeps s.placeFree :=
  .of_line (by simp [State.besidesLine]) (by simp)

theorem State.requestNotice_keeps (s : State) (e : Entry) : s.Keeps (s.requestNotice e) :=
  .of_line (by simp [State.besidesLine]) (by simp)

theorem State.acknowledge_keeps (s : State) (order : AckOrder) : s.Keeps (s.acknowledge order) :=
  .of_line (by simp [State.besidesLine]) (by simp)

theorem State.stopRepeat_keeps (s : State) (c : FaultClass) : s.Keeps (s.stopRepeat c) :=
  .of_line (by simp [State.besidesLine]) (by simp)

theorem State.supervisorIndication_keeps (s : State) (present : Bool) : s.Keeps (s.supervisorIndication present) :=
  .of_line (by simp [State.besidesLine]) (by simp)

theorem State.testPressure_keeps (s : State) : s.Keeps s.testPressure :=
  .of_line (by simp [State.besidesLine]) (by simp)

/-- A change of the line. -/
theorem State.keeps_lif (s : State) (l : Lif) : s.Keeps { s with lif := l } := s.keeps_update _ _ _ _ _

theorem State.reportDiscard_keeps (s : State) (f : QueuedFrame) : s.Keeps (s.reportDiscard f) :=
  (s.discardNotice_keeps f).trans (State.raiseNow_keeps _ _ _ _)

theorem State.discardSent_keeps (s : State) (f : QueuedFrame) : s.Keeps (s.discardSent f) := by
  have hr (t : State) : t.Keeps (t.reportDiscard f).placeFree := (t.reportDiscard_keeps f).trans (State.placeFree_keeps _)
  have hp (t : State) : t.Keeps (t.placeFree.reportDiscard f) := t.placeFree_keeps.trans (State.reportDiscard_keeps _ f)
  exact .ite _ (fun _ => (hr _).after (s.keeps_lif _)) (fun _ => .ite _ (fun _ => (hp _).after (s.keeps_update _ _ _ _ _))
    (fun _ => (hr _).after (s.keeps_update _ _ _ _ _)))

theorem State.refreshStatus_keeps (s : State) (f : QueuedFrame) : s.Keeps (s.refreshStatus f) := by
  unfold State.refreshStatus
  split
  · exact s.keeps_lif _
  · exact .refl s

theorem State.handleStatus_keeps (s : State) (p : List Byte) : s.Keeps (s.handleStatus p) :=
  .ite _ (fun _ => .ite _ (fun _ => s.keeps_lif _) (fun _ => s.keeps_lif _))
    (fun _ => .ite _ (fun _ => s.keeps_lif _) (fun _ => s.keeps_lif _))

theorem State.damaged_keeps (s : State) : s.Keeps s.damaged :=
  .ite _ (fun _ => (State.raiseNow_keeps _ _ _ _).after (s.keeps_lif _)) (fun _ => s.keeps_lif _)

theorem State.countGood_keeps (s : State) : s.Keeps s.countGood :=
  .ite _ (fun _ => (State.clearNow_keeps _ _).after (s.keeps_lif _)) (fun _ => s.keeps_lif _)

theorem State.duplicate_keeps (s : State) (k : Nat) : s.Keeps (s.duplicate k) :=
  s.countGood_keeps.trans (State.raiseNow_keeps _ _ _ _)

/-! ### The peer table -/

/-- A change of the peer table. -/
theorem State.keeps_ptb (s : State) (p : Ptb) : s.Keeps { s with ptb := p } := s.keeps_update _ _ _ _ _

theorem State.mismatchTest_keeps (s : State) : s.Keeps s.mismatchTest := by
  unfold State.mismatchTest
  have hc : s.Keeps (if s.ptb.mismatch then (s.setMismatch false).clearNow .configMismatch else s) :=
    .ite _ (fun _ => (State.clearNow_keeps _ _).after (s.keeps_ptb _)) (fun _ => .refl s)
  split
  · exact .ite _ (fun _ => .refl s) (fun _ => (State.raiseNow_keeps _ _ _ _).after (s.keeps_ptb _))
  · exact hc

theorem State.mismatchAfter_keeps (s : State) (n : Station) : s.Keeps (s.mismatchAfter n) :=
  .ite _ (fun _ => s.mismatchTest_keeps) (fun _ => .refl s)

theorem State.indicatePresence_keeps (s : State) (n : Station) : s.Keeps (s.indicatePresence n) := by
  unfold State.indicatePresence
  have h : s.Keeps (if s.ownsViewedPump n then s.viewChanged.settle else s) :=
    .ite _ (fun _ => s.lookAgain_keeps) (fun _ => .refl s)
  exact .ite _ (fun _ => h.trans (State.supervisorIndication_keeps _ _)) (fun _ => h)

theorem State.refresh_keeps (s : State) (n : Station) (kind : Option Kind) : s.Keeps (s.refresh n kind) := by
  unfold State.refresh
  have h := s.keeps_ptb { s.ptb with entries := s.ptb.entries.set n { s.peer n with
    silence := 0, presence := .present, seen := kindSeenAfter (s.peer n).seen kind } }
  exact .ite _ (fun _ => h) (fun _ => (h.trans (State.indicatePresence_keeps _ n)).trans (State.mismatchAfter_keeps _ n))

theorem State.ywcPermit_keeps (s : State) (permit : Bool) : s.Keeps (s.ywcPermit permit) :=
  .of_yaw (by simp [State.besidesYaw]) (s.ywcPermit_work permit) (by simp)

theorem State.ywcPermit_settle_keeps (s : State) (permit : Bool) : s.Keeps (s.ywcPermit permit).settle :=
  (s.ywcPermit_keeps permit).toCarries.settled (k := 0) (.of_eq (by simp) 0) (by decide)

theorem State.givePermits_keeps (s : State) (run yaw : Bool) : s.Keeps (s.givePermits run yaw) := by
  unfold State.givePermits
  have h : s.Keeps (if s.effectiveRun = run then s else (s.stcPermit s.effectiveRun).settle) :=
    .ite _ (fun _ => .refl s) (fun _ => s.stcPermit_keeps _)
  exact .ite _ (fun _ => h) (fun _ => h.trans (State.ywcPermit_settle_keeps _ _))

theorem State.demandStale_keeps (s : State) (n : Station) : s.Keeps (s.demandStale n) :=
  (State.givePermits_keeps _ _ _).after ((State.raiseNow_keeps _ _ _ _).after (s.keeps_ptb _))

theorem State.goAbsent_keeps (s : State) (n : Station) : s.Keeps (s.goAbsent n) := by
  unfold State.goAbsent
  dsimp only
  have h := s.keeps_ptb { s.ptb with entries := s.ptb.entries.set n { s.peer n with
    presence := .absent, standing := if (s.peer n).standing = .current then .old else (s.peer n).standing } }
  change s.Keeps (s.setPeer n _) at h
  generalize s.setPeer n _ = t at h ⊢
  have h2 : s.Keeps (if (s.peer n).seen = .nt44 then t.raiseNow .peerLost n.val else t) :=
    .ite _ (fun _ => h.trans (t.raiseNow_keeps _ _ _)) (fun _ => h)
  generalize (if (s.peer n).seen = .nt44 then t.raiseNow .peerLost n.val else t) = u at h2 ⊢
  have h3 : s.Keeps (if u.supervisor = some n then u.demandStale n else u) :=
    .ite _ (fun _ => h2.trans (u.demandStale_keeps n)) (fun _ => h2)
  exact (h3.trans (State.indicatePresence_keeps _ n)).trans (State.mismatchAfter_keeps _ n)

theorem State.silenceAt_keeps (s : State) (n : Station) : s.Keeps (s.silenceAt n) := by
  unfold State.silenceAt
  refine .ite _ (fun _ => ?_) (fun _ => .refl s)
  have h := s.keeps_ptb { s.ptb with entries := s.ptb.entries.set n { s.peer n with
    silence := min 7 ((s.peer n).silence + 1) } }
  exact .ite _ (fun _ => h.trans (State.goAbsent_keeps _ n)) (fun _ => h)

theorem State.silence_keeps (ns : List Station) (s : State) : s.Keeps (ns.foldl State.silenceAt s) := by
  induction ns generalizing s with
  | nil => exact .refl s
  | cons n rest ih => exact (s.silenceAt_keeps n).trans (ih _)

theorem State.takeStatus_keeps (s : State) (n : Station) (r : StatusRecord) : s.Keeps (s.takeStatus n r) :=
  (State.mismatchTest_keeps _).after (s.keeps_ptb _)

theorem State.takeDemand_keeps (s : State) (f : DemandFields) : s.Keeps (s.takeDemand f) := by
  unfold State.takeDemand
  dsimp only
  have h := s.keeps_ptb { s.ptb with demand :=
    { power := min f.power s.prm.maxPower, ramp := max 1 (min f.ramp 5000), run := f.run, yaw := f.yaw, fresh := true } }
  refine (State.givePermits_keeps _ _ _).after ?_
  exact .ite _ (fun _ => h.trans (State.clearNow_keeps _ _)) (fun _ => h)

theorem State.takeWind_keeps (s : State) (angle : Int) (speed : Nat) : s.Keeps (s.takeWind angle speed) :=
  (State.ywcWind_keeps _ _).after (s.keeps_ptb _)

theorem State.ptbConfigured_keeps (s : State) : s.Keeps s.ptbConfigured := by
  unfold State.ptbConfigured
  dsimp only
  have h := s.keeps_ptb { s.ptb with silenceTimer := some s.period }
  generalize ({ s with ptb := { s.ptb with silenceTimer := some s.period } } : State) = t at h ⊢
  have h2 := h.trans (t.supervisorIndication_keeps (t.isPresent s.prm.supervisor))
  generalize t.supervisorIndication (t.isPresent s.prm.supervisor) = u at h2 ⊢
  have h3 : s.Keeps (if u.isPresent s.prm.supervisor then u else u.raiseNow .supervisorLost s.prm.supervisor.val) :=
    .ite _ (fun _ => h2) (fun _ => h2.trans (u.raiseNow_keeps _ _ _))
  exact (h3.trans (State.mismatchTest_keeps _)).trans (State.givePermits_keeps _ _ _)

theorem State.receive_keeps (s : State) (kind : Kind) (n : Station) (p : List Byte) (deliver : State → State)
    (hd : ∀ t : State, t.Keeps (deliver t)) : s.Keeps (s.receive kind n p deliver) := by
  unfold State.receive
  have h := s.countGood_keeps.trans (State.refresh_keeps _ n (some kind))
  exact .ite _ (fun _ => .ite _ (fun _ => s.duplicate_keeps _) (fun _ => .ite _ (fun _ => h.trans (hd _)) (fun _ => h)))
    (fun _ => s.damaged_keeps)

/-! ### The configured indication -/

theorem State.clcConfigured_carries (s : State) : s.Carries s.clcConfigured ∧ s.Adds s.clcConfigured 4 := by
  unfold State.clcConfigured
  obtain ⟨hc, ha⟩ := State.viewTests_carries 8 { s with clc := { s.clc with
    sampleTimer := some s.period
    fanStepTimer := if s.ownsFans then some 60000 else s.clc.fanStepTimer
    cover := .uncovered } }
  exact ⟨hc.after (s.carries_clc _ rfl rfl rfl), ha⟩

theorem State.ywcConfigured_requests (s : State) : s.ywcConfigured.requests = s.requests := by
  unfold State.ywcConfigured State.takeTwist State.takeTurn
  dsimp only
  repeat' split
  all_goals rfl

theorem State.configuredIndication_keeps (s : State) : s.Keeps s.configuredIndication := by
  unfold State.configuredIndication
  dsimp only
  have h := (((s.keeps_lif { s.lif with statusTimer := some s.period }).trans (State.testPressure_keeps _)).trans
    (State.ptbConfigured_keeps _)).trans (State.stcConfigured_keeps _)
  refine h.trans ?_
  obtain ⟨hc, ha⟩ := State.clcConfigured_carries (State.ywcConfigured
    (s.lifConfigured.testPressure.ptbConfigured).stcConfigured.settle)
  exact (hc.after (State.ywcConfigured_carries _)).settled ((State.Adds.of_eq (State.ywcConfigured_requests _) 0).trans ha) (by decide)

end Sys2Proof.Machine
end

section
/-! SUPPORT. The walk through the commands: what each of them but the full reset and the clock keeps, and the claims that follow from it. -/

namespace Sys2Proof.Machine

/-! ### Parts of a record, resets -/

/-- A change of the ICU that leaves the straps. -/
theorem State.keeps_icu (s : State) (i : Icu) (hs : i.straps = s.icu.straps)
    (hr : s.RecordHeld → State.RecordHeld { s with icu := i }) : s.Keeps { s with icu := i } where
  straps := hs
  record := hr
  pending := rfl
  clock := rfl
  overflow := id
  string := .of_driven rfl
  yaw := .of_steered (by simp only [State.steered, hs])
  pump := .of_eq rfl rfl
  indicated := id
  tabled := id
  idle := id

/-- A record of an UNCONFIGURED station with no serial stands whatever its assembly and its reject reason. -/
theorem State.RecordHeld.unconfigured {s : State} (h : s.RecordHeld) (hc : s.configured = false) (a : Option Assembly)
    (n : Nat) : State.RecordHeld { s with icu := { s.icu with assembly := a, reject := n } } := by
  unfold State.RecordHeld at *
  cases hp : s.icu.phase <;> cases hq : s.icu.params <;> simp_all [State.configured]

theorem State.accept_keeps (s : State) (serial : Nat) (p : Params) (hv : validate s.own p = none) :
    s.Keeps (s.accept serial p) :=
  (State.configuredIndication_keeps _).after (s.keeps_icu
    { s.icu with phase := .configured, assembly := none, params := some p, serial := serial, reject := 0 } rfl
    (fun _ => ⟨hv, rfl, rfl⟩))

theorem State.rejectRecord_keeps (s : State) (field : Nat) (hc : s.configured = false) : s.Keeps (s.rejectRecord field) :=
  (State.raiseNow_keeps _ _ _ _).after (s.keeps_icu { s.icu with assembly := none, reject := field } rfl
    (fun h => h.unconfigured hc none field))

theorem State.setAssembly_keeps (s : State) (a : Assembly) (hc : s.configured = false) : s.Keeps (s.setAssembly a) :=
  s.keeps_icu { s.icu with assembly := some a } rfl (fun h => h.unconfigured hc (some a) s.icu.reject)

theorem State.validateRecord_keeps (s : State) (a : Assembly) (hc : s.configured = false) : s.Keeps (s.validateRecord a) := by
  unfold State.validateRecord
  dsimp only
  split
  · exact s.rejectRecord_keeps _ hc
  · exact s.accept_keeps _ _ ‹_›

theorem State.takeLaterPart_keeps (s : State) (f : PartFields) (hc : s.configured = false) : s.Keeps (s.takeLaterPart f) := by
  unfold State.takeLaterPart
  split
  · exact .refl s
  · exact .ite _ (fun _ => .ite _ (fun _ => s.validateRecord_keeps _ hc) (fun _ => s.setAssembly_keeps _ hc)) (fun _ => .refl s)

theorem State.takePart_keeps (s : State) (f : PartFields) : s.Keeps (s.takePart f) := by
  refine .ite _ (fun _ => .refl s) (fun h => ?_)
  have hc : s.configured = false := by
    simp only [Bool.or_eq_true, not_or, Bool.not_eq_true] at h
    exact h.1.1
  exact .ite _ (fun _ => .ite _ (fun _ => .refl s) (fun _ => s.setAssembly_keeps _ hc)) (fun _ => s.takeLaterPart_keeps f hc)

/-- The parts of a state that the invariants read, at their values after a reset. -/
structure State.AtRest (t : State) : Prop where
  record : t.RecordHeld
  outputs : t.StringOutputs
  setpoint : t.SetpointHeld
  yaw : t.YawOutputs
  pump : t.PumpOutput
  calm : t.Calm
  tabled : t.Tabled

theorem Clc.atReset_output (r : Role) : (Clc.atReset r).pumpOutput = (Clc.atReset r).owner.runsPump := by
  cases r <;> rfl

theorem State.Keeps.atRest {s t : State} (k : s.Keeps t) (h : s.AtRest) : t.AtRest where
  record := k.record h.record
  outputs := k.string.outputs h.outputs
  setpoint := k.string.setpoint h.setpoint
  yaw := k.yaw.outputs h.yaw
  pump := k.pump h.pump
  calm := ⟨k.idle h.calm.1, k.indicated h.calm.2⟩
  tabled := k.tabled h.tabled

theorem State.fullReset_atRest (s : State) (pins : BitVec 10) (first : Levels) : (s.fullReset pins first).AtRest := by
  refine (State.requestPump_keeps _).atRest ?_
  exact
    { record := rfl
      outputs := ⟨rfl, rfl, rfl⟩
      setpoint := ⟨Nat.le_refl _, .inr (.inr rfl)⟩
      yaw := ⟨rfl, fun _ => rfl, fun h => (by cases h), rfl, rfl⟩
      pump := Clc.atReset_output _
      calm := ⟨rfl, rfl, rfl, rfl, rfl, rfl, rfl, rfl, rfl⟩
      tabled := fun m hm => (by cases hm) }

theorem State.fullReset_pending (s : State) (pins : BitVec 10) (first : Levels) : (s.fullReset pins first).pending = s.pending :=
  (State.requestPump_keeps _).pending

theorem State.lineReset_keeps (s : State) : s.Keeps s.lineReset := by
  refine (State.requestPump_keeps _).after ((State.testPressure_keeps _).after ?_)
  exact
    { straps := rfl
      record := fun _ => rfl
      pending := rfl
      clock := rfl
      overflow := id
      string := ⟨fun _ => ⟨rfl, rfl, rfl⟩, fun _ => ⟨Nat.le_refl _, .inr (.inr rfl)⟩⟩
      yaw := ⟨id, fun _ => ⟨rfl, fun _ => rfl, fun h => (by cases h), rfl, rfl⟩⟩
      pump := fun _ => Clc.atReset_output _
      indicated := fun _ => ⟨rfl, rfl, rfl, rfl, rfl, rfl, rfl, rfl⟩
      tabled := fun _ m hm => (by cases hm)
      idle := fun _ => rfl }

/-! ### The commands -/

/-- Every command but the full reset and the station clock keeps what `Keeps` names. -/
theorem exec_keeps (c : Instr) (s : State) (hr : ∀ pins first, c ≠ .fullReset pins first) (hc : c ≠ .stationClockExpiry) :
    ∃ t, exec c s = .next t ∧ s.Keeps t := by
  cases c with
  | fullReset pins first => exact absurd rfl (hr pins first)
  | stationClockExpiry => exact absurd rfl hc
  | lineIdle => exact ⟨_, rfl, .ite _ (fun _ => .refl s) (fun _ => s.keeps_lif _)⟩
  | lostArbitration =>
    refine ⟨_, rfl, ?_⟩
    split
    · exact (State.refreshStatus_keeps _ _).after (s.keeps_lif _)
    · exact .refl s
  | readBackMismatch =>
    refine ⟨_, rfl, ?_⟩
    split
    · exact .ite _ (fun _ => s.discardSent_keeps _) (fun _ => (State.refreshStatus_keeps _ _).after (s.keeps_lif _))
    · exact .refl s
  | frameGoneOutWhole =>
    refine ⟨_, rfl, ?_⟩
    split
    · exact (State.placeFree_keeps _).after ((State.completionNotice_keeps _ _).after (s.keeps_lif _))
    · exact .refl s
  | statusIntervalExpiry =>
    exact ⟨_, rfl, .ite _ (fun _ => (State.handleStatus_keeps _ _).after (s.keeps_lif _)) (fun _ => .refl s)⟩
  | damagedFrame => exact ⟨_, rfl, s.damaged_keeps⟩
  | ownNumberFrame kind => exact ⟨_, rfl, s.duplicate_keeps _⟩
  | unknownKindFrame kind source =>
    exact ⟨_, rfl, .ite _ (fun _ => s.duplicate_keeps _) (fun _ => s.countGood_keeps.trans (State.refresh_keeps _ _ _))⟩
  | faultNotice source payload => exact ⟨_, rfl, s.receive_keeps _ _ _ _ (fun t => .refl t)⟩
  | status source payload =>
    refine ⟨_, rfl, s.receive_keeps _ _ _ _ (fun t => ?_)⟩
    split
    · exact t.takeStatus_keeps _ _
    · exact .refl t
  | tripNotice source payload =>
    refine ⟨_, rfl, s.receive_keeps _ _ _ _ (fun t => ?_)⟩
    split
    · exact t.keeps_ptb _
    · exact .refl t
  | demand source payload =>
    refine ⟨_, rfl, s.receive_keeps _ _ _ _ (fun t => ?_)⟩
    split
    · exact t.takeDemand_keeps _
    · exact .refl t
  | wind source payload =>
    refine ⟨_, rfl, s.receive_keeps _ _ _ _ (fun t => ?_)⟩
    split
    · exact t.takeWind_keeps _ _
    · exact .refl t
  | windAgeTimerExpiry =>
    exact ⟨_, rfl, .ite _ (fun _ => (State.emptyWindow_keeps _).after (s.keeps_ptb _)) (fun _ => .refl s)⟩
  | silenceTimerExpiry =>
    exact ⟨_, rfl, .ite _ (fun _ => (State.silence_keeps stations _).after (s.keeps_ptb _)) (fun _ => .refl s)⟩
  | configPart source payload =>
    refine ⟨_, rfl, s.receive_keeps _ _ _ _ (fun t => ?_)⟩
    split
    · exact t.takePart_keeps _
    · exact .refl t
  | stationReset source payload =>
    refine ⟨_, rfl, s.receive_keeps _ _ _ _ (fun t => ?_)⟩
    split
    · exact .ite _ (fun _ => t.lineReset_keeps) (fun _ => .refl t)
    · exact .refl t
  | dcLinkReady shows =>
    exact ⟨_, rfl, .ite _ (fun _ => .refl s) (fun _ => .ite _
      (fun _ => (State.enterSync_keeps _).after (s.keeps_update _ _ _ _ _)) (fun _ => s.keeps_update _ _ _ _ _))⟩
  | prechargeTimerExpiry =>
    exact ⟨_, rfl, .ite _ (fun _ => (State.trip_keeps _ _ _).after (s.keeps_stc _ rfl rfl rfl)) (fun _ => .refl s)⟩
  | gridSyncAchieved shows =>
    exact ⟨_, rfl, .ite _ (fun _ => .refl s) (fun _ => .ite _
      (fun _ => (State.enterRun_keeps _).after (s.keeps_update _ _ _ _ _)) (fun _ => s.keeps_update _ _ _ _ _))⟩
  | syncTimerExpiry =>
    exact ⟨_, rfl, .ite _ (fun _ => (State.trip_keeps _ _ _).after (s.keeps_stc _ rfl rfl rfl)) (fun _ => .refl s)⟩
  | modulatorFaultFeedback shows =>
    exact ⟨_, rfl, .ite _ (fun _ => .refl s) (fun _ => .ite _
      (fun _ => (State.trip_keeps _ _ _).after (s.keeps_update _ _ _ _ _)) (fun _ => s.keeps_update _ _ _ _ _))⟩
  | mainContactorFeedbackChange closed =>
    exact ⟨_, rfl, .ite _ (fun _ => .refl s) (fun _ =>
      s.keeps_levels_stc _ _ rfl rfl rfl)⟩
  | contactorCheckExpiry =>
    exact ⟨_, rfl, .ite _ (fun _ => (State.contactorFound_keeps _).after (s.keeps_stc _ rfl rfl rfl)) (fun _ => .refl s)⟩
  | coolDownExpiry latchArrives =>
    exact ⟨_, rfl, .ite _ (fun _ => .ite _ (fun _ => (State.leaveTripped_keeps _ _).after (s.keeps_stc _ rfl rfl rfl))
      (fun _ => s.keeps_stc _ rfl rfl rfl)) (fun _ => .refl s)⟩
  | shareRoundExpiry =>
    exact ⟨_, rfl, .ite _ (fun _ => (State.shareRound_keeps _).after (s.keeps_stc _ rfl rfl rfl)) (fun _ => .refl s)⟩
  | zeroLimitHoldExpiry =>
    exact ⟨_, rfl, .ite _ (fun _ => .ite _ (fun _ => (State.raiseNow_keeps _ _ _ _).after
      (((State.drive_zero_carries _ _).keeps (by simp)).after (s.keeps_stc _ rfl rfl rfl)))
      (fun _ => s.keeps_stc _ rfl rfl rfl)) (fun _ => .refl s)⟩
  | toothStep channel =>
    exact ⟨_, rfl, .ite _ (fun _ => (State.motionStep_keeps _ _).after (s.keeps_levels_ywc _ _ rfl rfl)) (fun _ => .refl s)⟩
  | invalidStep =>
    exact ⟨_, rfl, .ite _ (fun _ => .ite _ (fun _ => (State.encoderFails_keeps _).after (s.keeps_levels_ywc _ _ rfl rfl))
      (fun _ => s.keeps_levels_ywc _ _ rfl rfl)) (fun _ => .refl s)⟩
  | markEdge high =>
    exact ⟨_, rfl, .ite _ (fun _ => .refl s) (fun _ => .ite _
      (fun _ => (State.markSeen_keeps _).after (s.keeps_update _ _ _ _ _)) (fun _ => s.keeps_update _ _ _ _ _))⟩
  | checkTimerExpiry =>
    exact ⟨_, rfl, .ite _ (fun _ => (State.testAndPropose_keeps _).after ((State.positionVote_keeps _).after
      (s.keeps_ywc _ rfl rfl))) (fun _ => .refl s)⟩
  | proposalHoldoffExpiry =>
    exact ⟨_, rfl, .ite _ (fun _ => .ite _ (fun _ => (State.clearNow_keeps _ _).after (s.keeps_ywc _ rfl rfl))
      (fun _ => s.keeps_ywc _ rfl rfl)) (fun _ => .refl s)⟩
  | yawPropose source payload =>
    refine ⟨_, rfl, s.receive_keeps _ _ _ _ (fun t => ?_)⟩
    split
    · exact t.answerProposal_keeps _ _
    · exact .refl t
  | yawAnswer source payload =>
    refine ⟨_, rfl, s.receive_keeps _ _ _ _ (fun t => ?_)⟩
    split
    · exact t.takeAnswer_keeps _ _
    · exact .refl t
  | answerTimerExpiry =>
    refine ⟨_, rfl, .ite _ (fun _ => ?_) (fun _ => .refl s)⟩
    split
    · exact .ite _ (fun _ => s.takeDecision_keeps _) (fun _ => s.keeps_ywc _ rfl rfl)
    · exact s.keeps_ywc _ rfl rfl
  | yawCommit source payload =>
    refine ⟨_, rfl, s.receive_keeps _ _ _ _ (fun t => ?_)⟩
    split
    · exact t.takeCommit_keeps _ _
    · exact .refl t
  | commitWaitExpiry => exact ⟨_, rfl, .ite _ (fun _ => s.enterIdle_keeps) (fun _ => .refl s)⟩
  | brakeFeedbackReleased =>
    exact ⟨_, rfl, .ite _ (fun _ => .ite _ (fun _ => (State.brakesReleased_keeps _).after (s.keeps_update _ _ _ _ _))
      (fun _ => s.keeps_update _ _ _ _ _)) (fun _ => .refl s)⟩
  | brakeTimerExpiry =>
    exact ⟨_, rfl, .ite _ (fun _ => (s.haltMove_keeps _).trans (State.raiseNow_keeps _ _ _ _)) (fun _ => .refl s)⟩
  | releaseTimerExpiry =>
    exact ⟨_, rfl, .ite _ (fun _ => (State.haltProposal_keeps _ _).after (s.keeps_ywc _ rfl rfl)) (fun _ => .refl s)⟩
  | yawDrive source payload =>
    refine ⟨_, rfl, s.receive_keeps _ _ _ _ (fun t => ?_)⟩
    split
    · exact .ite _ (fun _ => t.takeDrive_keeps) (fun _ => .refl t)
    · exact .refl t
  | driveWaitExpiry => exact ⟨_, rfl, .ite _ (fun _ => s.enterBraking_keeps) (fun _ => .refl s)⟩
  | stallTimerExpiry => exact ⟨_, rfl, .ite _ (fun _ => s.stalls_keeps) (fun _ => .refl s)⟩
  | yawHalt source payload =>
    refine ⟨_, rfl, s.receive_keeps _ _ _ _ (fun t => ?_)⟩
    split
    · exact t.takeHalt_keeps _
    · exact .refl t
  | settleTimerExpiry => exact ⟨_, rfl, .ite _ (fun _ => s.enterBraking_keeps) (fun _ => .refl s)⟩
  | brakeFeedbackApplied =>
    exact ⟨_, rfl, .ite _ (fun _ => .refl s) (fun _ => .ite _
      (fun _ => (State.enterIdle_keeps _).after (s.keeps_update _ _ _ _ _)) (fun _ => s.keeps_update _ _ _ _ _))⟩
  | brakingTimerExpiry =>
    exact ⟨_, rfl, .ite _ (fun _ => (s.raiseNow_keeps _ _ _).trans (State.enterIdle_keeps _)) (fun _ => .refl s)⟩
  | pumpState source payload =>
    refine ⟨_, rfl, s.receive_keeps _ _ _ _ (fun t => ?_)⟩
    split
    · exact t.takePump_keeps _ _
    · exact .refl t
  | pumpReportTimerExpiry =>
    exact ⟨_, rfl, .ite _ (fun _ => (State.requestPump_keeps _).after (s.keeps_clc _ rfl rfl rfl)) (fun _ => .refl s)⟩
  | startHoldExpiry =>
    exact ⟨_, rfl, .ite _ (fun _ => .ite _ (fun _ => (State.lookAgain_keeps _).after ((State.enterStarting_keeps _).after
      (s.keeps_clc _ rfl rfl rfl))) (fun _ => s.keeps_clc _ rfl rfl rfl)) (fun _ => .refl s)⟩
  | flowSwitchShowsFlow =>
    exact ⟨_, rfl, .ite _ (fun _ => .refl s) (fun _ => .ite _ (fun _ => (State.lookAgain_keeps _).after
      ((State.enterRunning_keeps _).after (s.keeps_update _ _ _ _ _))) (fun _ => s.keeps_update _ _ _ _ _))⟩
  | flowSwitchNoFlow =>
    exact ⟨_, rfl, .ite _ (fun _ => .ite _ (fun _ => (State.pumpFails_keeps _ _).after (s.keeps_update _ _ _ _ _))
      (fun _ => s.keeps_update _ _ _ _ _)) (fun _ => .refl s)⟩
  | flowConfirmExpiry => exact ⟨_, rfl, .ite _ (fun _ => s.pumpFails_keeps 1) (fun _ => .refl s)⟩
  | dutyMinuteExpiry =>
    exact ⟨_, rfl, .ite _ (fun _ => .ite _ (fun _ => (State.dutyEnds_keeps _).after (s.keeps_clc _ rfl rfl rfl))
      (fun _ => s.keeps_clc _ rfl rfl rfl)) (fun _ => .refl s)⟩
  | handoffTimerExpiry =>
    exact ⟨_, rfl, .ite _ (fun _ => s.enterRunning_keeps.trans (State.lookAgain_keeps _)) (fun _ => .refl s)⟩
  | flowGraceExpiry => exact ⟨_, rfl, .ite _ (fun _ => s.flowLost_keeps) (fun _ => .refl s)⟩
  | sampleTimerExpiry word =>
    refine ⟨_, rfl, .ite _ (fun _ => ?_) (fun _ => .refl s)⟩
    exact (State.rivalTest_keeps _).after ((State.setCover_keeps _).after ((State.heatRound_keeps _).after
      ((State.voteRound_keeps _).after (s.keeps_clc _ rfl rfl rfl))))
  | fanStepExpiry =>
    exact ⟨_, rfl, .ite _ (fun _ => (State.stepStages_keeps _).after (s.keeps_clc _ rfl rfl rfl)) (fun _ => .refl s)⟩
  | fanFeedbackChange fan shows =>
    exact ⟨_, rfl, .ite _ (fun _ => .refl s) (fun _ => s.keeps_levels_clc _ _ rfl rfl rfl)⟩
  | fanFeedbackTimerExpiry fan =>
    exact ⟨_, rfl, .ite _ (fun _ => (State.applyDuty_keeps _).after ((State.raiseNow_keeps _ _ _ _).after
      (s.keeps_clc _ rfl rfl rfl))) (fun _ => .refl s)⟩
  | noticeRepeatExpiry cls =>
    refine ⟨_, rfl, .ite _ (fun _ => ?_) (fun _ => .refl s)⟩
    have h := s.stopRepeat_keeps cls
    dsimp only
    split
    · exact h.trans (State.requestNotice_keeps _ _)
    · exact h
  | faultAck source payload =>
    refine ⟨_, rfl, s.receive_keeps _ _ _ _ (fun t => ?_)⟩
    split
    · exact .ite _ (fun _ => t.acknowledge_keeps _) (fun _ => .refl t)
    · exact .refl t

end Sys2Proof.Machine
end

section
/-! PROOFS. The claims about every command and the invariants (02 R24; 04 R55; 07 R111; 08 R133; 10 R165 to R169). -/

namespace Sys2Proof.Machine

/-- Settles O1: the queue of the state that steps is the command and the rest. -/
theorem stepRunsFront : Obligations.StepRunsFront := fun _ _ _ => rfl

/-- What a command comes to: a full reset, a tick of the station clock, or work that keeps what `Keeps` names. -/
theorem exec_cases (c : Instr) (s : State) :
    (∃ pins first, c = .fullReset pins first ∧ exec c s = .next (s.fullReset pins first)) ∨
      (c = .stationClockExpiry ∧ ∃ n k, exec c s = .next { s with flu := { s.flu with clockTimer := k, seconds := n } }) ∨
      ∃ t, exec c s = .next t ∧ s.Keeps t := by
  by_cases hr : ∃ pins first, c = .fullReset pins first
  · obtain ⟨pins, first, rfl⟩ := hr
    exact .inl ⟨pins, first, rfl, rfl⟩
  · by_cases hc : c = .stationClockExpiry
    · subst hc
      refine .inr (.inl ⟨rfl, ?_⟩)
      by_cases h : s.flu.clockTimer.isSome = true
      · exact ⟨_, _, congrArg Host.Outcome.next (if_pos h)⟩
      · exact ⟨s.flu.seconds, s.flu.clockTimer, congrArg Host.Outcome.next (if_neg h)⟩
    · exact .inr (.inr (exec_keeps c s (fun pins first h => hr ⟨pins, first, h⟩) hc))

/-- Settles O2, through what each command comes to. -/
theorem commandsComplete : Obligations.CommandsComplete := by
  intro c s
  rcases exec_cases c s with ⟨pins, first, _, h⟩ | ⟨_, n, k, h⟩ | ⟨t, h, hk⟩
  · exact ⟨_, h, s.fullReset_pending pins first⟩
  · exact ⟨_, h, rfl⟩
  · exact ⟨t, h, hk.pending⟩

/-- Settles O3, through what each command comes to. -/
theorem fullResetAlone : Obligations.FullResetAlone := by
  intro c s hc
  rcases exec_cases c s with ⟨pins, first, h, _⟩ | ⟨rfl, n, k, h⟩ | ⟨t, h, hk⟩
  · exact absurd h (hc pins first)
  · exact ⟨_, h, rfl, fun h => absurd rfl h, id, id⟩
  · obtain ⟨hsec, htimer⟩ := Prod.mk.inj hk.clock
    exact ⟨t, h, hk.straps, fun _ => ⟨hsec, htimer⟩, hk.yaw.known, hk.overflow⟩

/-- An invariant that the queue of commands does not touch is kept by every step where a full reset, a tick of the clock and
the work of every other command keep it. -/
theorem step_keeps {P : State → Prop} (hq : ∀ (s : State) (q : List Instr), P s → P { s with pending := q })
    (hr : ∀ s : State, s.AtRest → P s)
    (hc : ∀ (s : State) (n : Nat) (k : Timer), P s → P { s with flu := { s.flu with clockTimer := k, seconds := n } })
    (hk : ∀ s t : State, s.Keeps t → P s → P t) (s t : State) (h : P s) (hs : step s = .next t) : P t := by
  unfold step at hs
  split at hs
  · cases hs
    exact h
  · rename_i c rest _
    have h' := hq s rest h
    generalize ({ s with pending := rest } : State) = x at h' hs
    rcases exec_cases c x with ⟨pins, first, _, he⟩ | ⟨_, n, k, he⟩ | ⟨u, he, hu⟩ <;> rw [he] at hs <;> cases hs
    · exact hr _ (x.fullReset_atRest pins first)
    · exact hc x n k h'
    · exact hk x _ hu h'

/-- Settles O4, as an invariant that every kind of work keeps. -/
theorem recordHeldKept : Obligations.RecordHeldKept :=
  step_keeps (fun _ _ h => h) (fun _ h => h.record) (fun _ _ _ h => h) (fun _ _ k => k.record)

/-- Settles O5, each output as an invariant that every kind of work keeps. -/
theorem outputsKept : Obligations.OutputsKept :=
  ⟨step_keeps (fun _ _ h => h) (fun _ h => h.outputs) (fun _ _ _ h => h) (fun _ _ k => k.string.outputs),
    step_keeps (fun _ _ h => h) (fun _ h => h.setpoint) (fun _ _ _ h => h) (fun _ _ k => k.string.setpoint),
    step_keeps (fun _ _ h => h) (fun _ h => h.yaw) (fun _ _ _ h => h) (fun _ _ k => k.yaw.outputs),
    step_keeps (fun _ _ h => h) (fun _ h => h.pump) (fun _ _ _ h => h) (fun _ _ k => k.pump)⟩

/-- Settles O7, as two invariants that every kind of work keeps. -/
theorem calmKept : Obligations.CalmKept :=
  ⟨step_keeps (fun _ _ h => h) (fun _ h => h.calm) (fun _ _ _ h => h) (fun _ _ k h => ⟨k.idle h.1, k.indicated h.2⟩),
    step_keeps (fun _ _ h => h) (fun _ h => h.tabled) (fun _ _ _ h => h) (fun _ _ k => k.tabled)⟩

/-- The part right after reset has nothing queued, logged or standing. -/
theorem State.reset_atRest : State.reset.AtRest where
  record := rfl
  outputs := ⟨rfl, rfl, rfl⟩
  setpoint := ⟨Nat.le_refl _, .inr (.inr rfl)⟩
  yaw := ⟨rfl, fun _ => rfl, fun h => (by cases h), rfl, rfl⟩
  pump := rfl
  calm := ⟨rfl, rfl, rfl, rfl, rfl, rfl, rfl, rfl, rfl⟩
  tabled := fun m hm => (by cases hm)

/-- Settles O8: the invariants hold of the state after reset, whose queue and log are empty. -/
theorem resetSafe : Obligations.ResetSafe := by
  have h := State.reset_atRest
  have hq : State.reset.QueueHeld := ⟨Nat.zero_le _, .nil⟩
  have hl : State.reset.LogOrdered :=
    ⟨Nat.zero_lt_succ _, fun e he => (by cases he), .nil, .nil, fun e he => (by cases he)⟩
  exact ⟨⟨h.record, h.outputs, h.setpoint, h.yaw, h.pump, hq, Nat.zero_le _⟩, h.calm, h.tabled, hl⟩

end Sys2Proof.Machine
end

section
/-! PROOFS. The payloads and the record read back, and validation field by field (02 R29 to R31; 12 R193, R194). -/

namespace Sys2Proof.Machine

/-! ### Bytes, words and fields -/

@[simp] theorem toByte_toNat (n : Nat) : (toByte n).toNat = n % 256 := BitVec.toNat_ofNat n 8

theorem toByte_of_lt {n : Nat} (h : n < 256) : (toByte n).toNat = n := by
  rw [toByte_toNat, Nat.mod_eq_of_lt h]

/-- The two bytes of a 16-bit field spell it. -/
theorem twoBytes_split (n : Nat) : twoBytes (toByte (n / 256)) (toByte n) = n % 65536 := by
  simp only [twoBytes, toByte_toNat]
  omega

/-- The high byte of a 24-bit field and its low word spell it. -/
theorem threeBytes_split (n : Nat) :
    (toByte (n / 65536)).toNat * 65536 + n % 65536 = n % 16777216 := by
  rw [toByte_toNat]
  omega

theorem bitOf_lt (b : Bool) : bitOf b < 2 := by cases b <;> decide

theorem bitOf_beq (b : Bool) : (bitOf b == 1) = b := by cases b <;> rfl

/-- A signed number in the range of a field is read back from it, whatever stands above the field. -/
theorem signedField_read (w : Nat) (v : Int) (hi : Nat) (hw : 0 < w) (hl : -(2 ^ (w - 1) : Nat) ≤ v)
    (hu : v < (2 ^ (w - 1) : Nat)) : signedField w (hi * 2 ^ w + fieldOfSigned w v) = v := by
  have hp : 2 ^ w = 2 * 2 ^ (w - 1) := by
    obtain ⟨k, rfl⟩ : ∃ k, w = k + 1 := ⟨w - 1, by omega⟩
    rw [Nat.add_sub_cancel, Nat.pow_succ, Nat.mul_comm]
  have hm : (hi * 2 ^ w + fieldOfSigned w v) % 2 ^ w = fieldOfSigned w v % 2 ^ w := by
    rw [Nat.add_comm, Nat.add_mul_mod_self_right]
  unfold signedField
  rw [hm]
  unfold fieldOfSigned
  rw [hp]
  generalize 2 ^ (w - 1) = h at *
  have hh : 0 < h := by
    rcases Nat.eq_zero_or_pos h with rfl | h
    · simp at hl hu
      omega
    · exact h
  rcases Int.lt_or_le v 0 with hn | hn
  · have he : v % ((2 * h : Nat) : Int) = v + (2 * h : Nat) := by
      rw [← Int.add_emod_right, Int.emod_eq_of_lt (by omega) (by omega)]
    rw [he]
    have : (v + (2 * h : Nat)).toNat % (2 * h) = (v + (2 * h : Nat)).toNat := Nat.mod_eq_of_lt (by omega)
    rw [this, if_neg (by omega)]
    omega
  · have he : v % ((2 * h : Nat) : Int) = v := Int.emod_eq_of_lt hn (by omega)
    rw [he]
    have : v.toNat % (2 * h) = v.toNat := Nat.mod_eq_of_lt (by omega)
    rw [this, if_pos (by omega)]
    omega

theorem fieldOfSigned_lt (w : Nat) (v : Int) : fieldOfSigned w v < 2 ^ w := by
  have h0 : (0 : Int) < ((2 ^ w : Nat) : Int) := by exact_mod_cast Nat.two_pow_pos w
  have h1 := Int.emod_lt_of_pos v h0
  have h2 := Int.emod_nonneg v (Int.ne_of_gt h0)
  unfold fieldOfSigned
  omega

/-! ### Enumerated codes (12 section 12.3) -/

@[simp] theorem phaseOf_code (x : Phase) : phaseOf x.code = some x := by cases x <;> rfl
@[simp] theorem stringStateOf_code (x : StringState) : stringStateOf x.code = some x := by cases x <;> rfl
@[simp] theorem participantOf_code (x : Participant) : participantOf x.code = some x := by cases x <;> rfl
@[simp] theorem pumpOwnerOf_code (x : PumpOwner) : pumpOwnerOf x.code = some x := by cases x <;> rfl
@[simp] theorem roleOf_code (x : Role) : roleOf x.code = some x := by cases x <;> rfl
@[simp] theorem pumpOf_code (x : Pump) : pumpOf x.code = some x := by cases x <;> rfl
@[simp] theorem tripCauseOf_code (x : TripCause) : tripCauseOf x.code = some x := by cases x <;> rfl
@[simp] theorem answerOf_code (x : Answer) : answerOf x.code = some x := by cases x <;> rfl
@[simp] theorem refusingOf_code (x : Refusing) : refusingOf x.code = some x := by cases x <;> rfl
@[simp] theorem purposeOf_code (x : Purpose) : purposeOf x.code = some x := by cases x <;> rfl

theorem Phase.code_lt (x : Phase) : x.code < 2 := by cases x <;> decide
theorem StringState.code_lt (x : StringState) : x.code < 8 := by cases x <;> decide
theorem Participant.code_lt (x : Participant) : x.code < 8 := by cases x <;> decide
theorem PumpOwner.code_lt (x : PumpOwner) : x.code < 8 := by cases x <;> decide
theorem Role.code_lt (x : Role) : x.code < 4 := by cases x <;> decide
theorem Pump.code_lt (x : Pump) : x.code < 256 := by cases x <;> decide
theorem TripCause.code_lt (x : TripCause) : x.code < 256 := by cases x <;> decide
theorem HaltReason.code_lt (x : HaltReason) : x.code < 256 := by cases x <;> decide
theorem Answer.code_lt (x : Answer) : x.code < 256 := by cases x <;> decide
theorem Refusing.code_lt (x : Refusing) : x.code < 256 := by cases x <;> decide
theorem Purpose.code_lt (x : Purpose) : x.code < 256 := by cases x <;> decide

/-! ### The payloads -/

theorem decodeTrip_encodeTrip (cause : TripCause) (st : StringState) : decodeTrip (encodeTrip cause st) = some (cause, st) := by
  have h := st.code_lt
  simp only [encodeTrip, decodeTrip, toByte_of_lt cause.code_lt, toByte_of_lt (show st.code < 256 by omega),
    tripCauseOf_code, stringStateOf_code]

theorem decodePump_encodePump (p : Pump) (o : PumpOwner) (duty : Nat) (h : duty < 65536) :
    decodePump (encodePump p o duty) = some { pump := p, owner := o, handover := o == .handingOff, duty := duty } := by
  have ho := o.code_lt
  have hf : ((toByte (bitOf (o == .handingOff))).toNat != 0) = (o == .handingOff) := by cases o <;> rfl
  simp only [encodePump, bytesOf16, List.cons_append, List.nil_append, decodePump, toByte_of_lt p.code_lt,
    toByte_of_lt (show o.code < 256 by omega), pumpOf_code, pumpOwnerOf_code, twoBytes_split, Nat.mod_eq_of_lt h, hf]

theorem decodeHalt_encodeHalt (r : Ref) (e : HaltReason) (h : r.InRange) : decodeHalt (encodeHalt r e) = some r := by
  simp only [encodeHalt, decodeHalt, toByte_of_lt h.1, toByte_of_lt h.2]

theorem decodeDrive_encodeDrive (r : Ref) (h : r.InRange) : decodeDrive (encodeDrive r) = some r := by
  simp only [encodeDrive, decodeDrive, toByte_of_lt h.1, toByte_of_lt h.2]

theorem decodeCommit_encodeCommit (r : Ref) (set : StationSet) (h : r.InRange) :
    decodeCommit (encodeCommit r set) = some (r, set) := by
  simp only [encodeCommit, decodeCommit, toByte_of_lt h.1, toByte_of_lt h.2]

theorem decodeAnswer_encodeAnswer (r : Ref) (a : Answer) (drives : Nat) (e : Refusing) (h : r.InRange) (hd : drives < 256) :
    decodeAnswer (encodeAnswer r a drives e) = some { ref := r, answer := a, drives := drives, reason := e } := by
  simp only [encodeAnswer, decodeAnswer, toByte_of_lt h.1, toByte_of_lt h.2, toByte_of_lt hd, toByte_of_lt a.code_lt,
    toByte_of_lt e.code_lt, answerOf_code, refusingOf_code]

theorem decodePropose_encodePropose (n : Nat) (path : Int) (target : Nat) (p : Purpose) (hn : n < 256)
    (hl : -8388608 ≤ path) (hu : path < 8388608) (ht : target < 65536) :
    decodePropose (encodePropose n path target p) = some { number := n, path := path, target := target, purpose := p } := by
  have hpath : signedField 24 (fieldOfSigned 24 path % 16777216) = path := by
    have hf : fieldOfSigned 24 path < 16777216 := fieldOfSigned_lt 24 path
    rw [Nat.mod_eq_of_lt hf]
    simpa using signedField_read 24 path 0 (by decide) (by simpa using hl) (by simpa using hu)
  simp only [encodePropose, bytesOf24, bytesOf16, List.cons_append, List.nil_append, decodePropose, toByte_of_lt hn,
    toByte_of_lt p.code_lt, purposeOf_code, twoBytes_split, threeBytes_split, Nat.mod_eq_of_lt ht, hpath]

/-! ### STATUS -/

/-- A field that stands within its range is packed as it is. -/
theorem bitField_of_lt {v w : Nat} (h : v < 2 ^ w) : bitField v 0 w = v := by
  rw [bitField, Nat.pow_zero, Nat.div_one, Nat.mod_eq_of_lt h]

/-- The first byte of a STATUS: phase, string state, participant state, eligible bit. -/
theorem bitField_statusByte0 (p st y : Nat) (e : Bool) (hp : p < 2) (hs : st < 8) (hy : y < 8) :
    let b := (toByte (p * 128 + st * 16 + y * 2 + bitOf e)).toNat
    bitField b 7 1 = p ∧ bitField b 4 3 = st ∧ bitField b 1 3 = y ∧ (bitField b 0 1 == 1) = e := by
  have he := bitOf_lt e
  have hb := toByte_of_lt (show p * 128 + st * 16 + y * 2 + bitOf e < 256 by omega)
  have h0 : bitField (p * 128 + st * 16 + y * 2 + bitOf e) 0 1 = bitOf e := by
    simp only [bitField]
    omega
  refine ⟨?_, ?_, ?_, ?_⟩
  · rw [hb]; simp only [bitField]; omega
  · rw [hb]; simp only [bitField]; omega
  · rw [hb]; simp only [bitField]; omega
  · rw [hb, h0, bitOf_beq]

/-- The second byte of a STATUS: three flags, fan role, fan stages. -/
theorem bitField_statusByte1 (k o p : Bool) (f n : Nat) (hf : f < 4) (hn : n < 8) :
    let b := (toByte (bitOf k * 128 + bitOf o * 64 + bitOf p * 32 + f * 8 + n)).toNat
    (bitField b 7 1 == 1) = k ∧ (bitField b 6 1 == 1) = o ∧ (bitField b 5 1 == 1) = p ∧ bitField b 3 2 = f ∧
      bitField b 0 3 = n := by
  have hk := bitOf_lt k
  have ho := bitOf_lt o
  have hp := bitOf_lt p
  have hb := toByte_of_lt (show bitOf k * 128 + bitOf o * 64 + bitOf p * 32 + f * 8 + n < 256 by omega)
  have h7 : bitField (bitOf k * 128 + bitOf o * 64 + bitOf p * 32 + f * 8 + n) 7 1 = bitOf k := by
    simp only [bitField]
    omega
  have h6 : bitField (bitOf k * 128 + bitOf o * 64 + bitOf p * 32 + f * 8 + n) 6 1 = bitOf o := by
    simp only [bitField]
    omega
  have h5 : bitField (bitOf k * 128 + bitOf o * 64 + bitOf p * 32 + f * 8 + n) 5 1 = bitOf p := by
    simp only [bitField]
    omega
  refine ⟨?_, ?_, ?_, ?_, ?_⟩
  · rw [hb, h7, bitOf_beq]
  · rw [hb, h6, bitOf_beq]
  · rw [hb, h5, bitOf_beq]
  · rw [hb]; simp only [bitField]; omega
  · rw [hb]; simp only [bitField]; omega

/-- A word of a flag and a field below it. -/
theorem bitField_flagWord (b : Bool) (v : Nat) (hv : v < 32768) :
    (bitField ((bitOf b * 32768 + v) % 65536) 15 1 == 1) = b := by
  have hb := bitOf_lt b
  have h : bitField ((bitOf b * 32768 + v) % 65536) 15 1 = bitOf b := by
    simp only [bitField]
    omega
  rw [h, bitOf_beq]

theorem decodeStatus_encodeStatus (r : StatusRecord) (h : r.InRange) : decodeStatus (encodeStatus r) = some r := by
  obtain ⟨hstages, hlimit, hdrives, hset, hreject, hloss, hs1, hs2, hpos, hun, ht1, ht2, hserial⟩ := h
  have hpump := r.pumpOwner.code_lt
  have hf12 : fieldOfSigned 12 r.supply < 4096 := fieldOfSigned_lt 12 r.supply
  have hf18 : fieldOfSigned 18 r.twist < 262144 := fieldOfSigned_lt 18 r.twist
  obtain ⟨h00, h01, h02, h03⟩ :=
    bitField_statusByte0 r.phase.code r.stringState.code r.participant.code r.eligible r.phase.code_lt r.stringState.code_lt
      r.participant.code_lt
  obtain ⟨h10, h11, h12, h13, h14⟩ :=
    bitField_statusByte1 r.twistKnown r.overflow r.pressure r.fanRole.code r.fanStages r.fanRole.code_lt hstages
  have h20 : bitField ((r.pumpOwner.code * 8192 + r.limit) % 65536) 13 3 = r.pumpOwner.code := by
    simp only [bitField]; omega
  have h21 : bitField ((r.pumpOwner.code * 8192 + r.limit) % 65536) 0 13 = r.limit := by
    simp only [bitField]; omega
  have h40 : bitField ((r.drives * 8192 + r.setpoint) % 65536) 13 2 = r.drives := by
    simp only [bitField]; omega
  have h41 : bitField ((r.drives * 8192 + r.setpoint) % 65536) 0 13 = r.setpoint := by
    simp only [bitField]; omega
  have h60 : bitField ((r.reject * 1024 + r.loss) % 65536) 10 6 = r.reject := by
    simp only [bitField]; omega
  have h61 : bitField ((r.reject * 1024 + r.loss) % 65536) 0 9 = r.loss := by
    simp only [bitField]; omega
  have h80 := bitField_flagWord r.supplyValid (fieldOfSigned 12 r.supply) (by omega)
  have h81 : signedField 12 ((bitOf r.supplyValid * 32768 + fieldOfSigned 12 r.supply) % 65536) = r.supply := by
    have hb := bitOf_lt r.supplyValid
    have hw : (bitOf r.supplyValid * 32768 + fieldOfSigned 12 r.supply) % 65536 =
        (bitOf r.supplyValid * 8) * 2 ^ 12 + fieldOfSigned 12 r.supply := by omega
    rw [hw]
    exact signedField_read 12 r.supply _ (by decide) (by simpa using hs1) (by simpa using hs2)
  have h100 := bitField_flagWord r.referenced r.position (by omega)
  have h101 : bitField ((bitOf r.referenced * 32768 + r.position) % 65536) 0 14 = r.position := by
    simp only [bitField]; omega
  have h120 : bitField ((r.unacked * 262144 + fieldOfSigned 18 r.twist) % 16777216) 18 6 = r.unacked := by
    simp only [bitField]; omega
  have h121 : signedField 18 ((r.unacked * 262144 + fieldOfSigned 18 r.twist) % 16777216) = r.twist := by
    have hw : (r.unacked * 262144 + fieldOfSigned 18 r.twist) % 16777216 = r.unacked * 2 ^ 18 + fieldOfSigned 18 r.twist := by
      omega
    rw [hw]
    exact signedField_read 18 r.twist _ (by decide) (by simpa using ht1) (by simpa using ht2)
  simp only [encodeStatus, bytesOf16, bytesOf24, List.cons_append, List.nil_append, decodeStatus,
    bitField_of_lt (w := 3) hstages, bitField_of_lt (w := 13) hlimit, bitField_of_lt (w := 2) hdrives,
    bitField_of_lt (w := 13) hset, bitField_of_lt (w := 6) hreject, bitField_of_lt (w := 9) hloss,
    bitField_of_lt (w := 14) hpos, bitField_of_lt (w := 6) hun, twoBytes_split, threeBytes_split, h00, h01, h02, h03, h10,
    h11, h12, h13, h14, h20, h21, h40, h41, h60, h61, h80, h81, h100, h101, h120, h121, toByte_of_lt hserial, phaseOf_code,
    stringStateOf_code, participantOf_code, roleOf_code, pumpOwnerOf_code]

/-- Settles O10, kind by kind. -/
theorem payloadsReadBack : Obligations.PayloadsReadBack :=
  ⟨decodeStatus_encodeStatus, decodePropose_encodePropose, decodeAnswer_encodeAnswer, decodeCommit_encodeCommit,
    decodeDrive_encodeDrive, decodeHalt_encodeHalt, decodePump_encodePump, decodeTrip_encodeTrip⟩

end Sys2Proof.Machine
end

section
/-! PROOFS. The parameter record: its bytes read back, its fields tested one by one (02 R29 to R31; 12 R194). -/

namespace Sys2Proof.Machine

/-! ### The bytes of the record -/

theorem length_encodeRecord (p : Params) : (encodeRecord p).length = 48 := by
  unfold encodeRecord
  simp only [bytesOf16, bytesOf24, bytesOf32, List.length_append, List.length_cons, List.length_nil]

/-- A 32-bit field of two words. -/
theorem fourBytes_split (n : Nat) :
    twoBytes (toByte (n / 16777216)) (toByte (n / 65536)) * 65536 + n % 65536 = n % 4294967296 := by
  simp only [twoBytes, toByte_toNat]
  omega

/-- The first byte of a record: sector count, two fallback permits, supervisor. -/
theorem bitField_recordByte0 (c : Nat) (y r : Bool) (n : Station) (hc : c < 4) :
    let b := (toByte (c * 32 + bitOf y * 16 + bitOf r * 8 + n.val)).toNat
    bitField b 5 2 = c ∧ (bitField b 4 1 == 1) = y ∧ (bitField b 3 1 == 1) = r ∧ Fin.ofNat 8 (bitField b 0 3) = n := by
  have hy := bitOf_lt y
  have hr := bitOf_lt r
  have hn := n.isLt
  have hb := toByte_of_lt (show c * 32 + bitOf y * 16 + bitOf r * 8 + n.val < 256 by omega)
  have h4 : bitField (c * 32 + bitOf y * 16 + bitOf r * 8 + n.val) 4 1 = bitOf y := by
    simp only [bitField]
    omega
  have h3 : bitField (c * 32 + bitOf y * 16 + bitOf r * 8 + n.val) 3 1 = bitOf r := by
    simp only [bitField]
    omega
  have h0 : bitField (c * 32 + bitOf y * 16 + bitOf r * 8 + n.val) 0 3 = n.val := by
    simp only [bitField]
    omega
  refine ⟨?_, ?_, ?_, ?_⟩
  · rw [hb]; simp only [bitField]; omega
  · rw [hb, h4, bitOf_beq]
  · rw [hb, h3, bitOf_beq]
  · rw [hb, h0]
    exact Fin.ext (Nat.mod_eq_of_lt hn)

/-- The word of the four masks and the fan capacity. -/
theorem bitField_maskWord (a b c d : Bool) (n : Nat) (hn : n < 1024) :
    let w := (bitOf a * 32768 + bitOf b * 16384 + bitOf c * 8192 + bitOf d * 4096 + n) % 65536
    (bitField w 15 1 == 1) = a ∧ (bitField w 14 1 == 1) = b ∧ (bitField w 13 1 == 1) = c ∧ (bitField w 12 1 == 1) = d ∧
      bitField w 0 10 = n := by
  have ha := bitOf_lt a
  have hb := bitOf_lt b
  have hc := bitOf_lt c
  have hd := bitOf_lt d
  dsimp only
  generalize hw : (bitOf a * 32768 + bitOf b * 16384 + bitOf c * 8192 + bitOf d * 4096 + n) % 65536 = w
  have h15 : bitField w 15 1 = bitOf a := by simp only [bitField]; omega
  have h14 : bitField w 14 1 = bitOf b := by simp only [bitField]; omega
  have h13 : bitField w 13 1 = bitOf c := by simp only [bitField]; omega
  have h12 : bitField w 12 1 = bitOf d := by simp only [bitField]; omega
  refine ⟨by rw [h15, bitOf_beq], by rw [h14, bitOf_beq], by rw [h13, bitOf_beq], by rw [h12, bitOf_beq], ?_⟩
  simp only [bitField]
  omega

/-- The words and bytes at the indices that the fields are read from. -/
theorem record_words (p : Params) :
    recordWord (encodeRecord p) 2 = p.ratedPower % 65536 ∧ recordWord (encodeRecord p) 4 = p.maxPower % 65536 ∧
    recordWord (encodeRecord p) 6 = p.fallbackDemand % 65536 ∧ recordWord (encodeRecord p) 8 = p.fallbackRamp % 65536 ∧
    recordWord (encodeRecord p) 10 = p.stopRamp % 65536 ∧ recordWord (encodeRecord p) 12 = p.prechargeTime % 65536 ∧
    recordWord (encodeRecord p) 14 = (p.flowGrace * 1024 + p.coolDown) % 65536 ∧
    recordWord (encodeRecord p) 16 = (p.watermark * 1024 + p.derateStart) % 65536 ∧
    recordWord (encodeRecord p) 18 = (p.minDrives * 4096 + p.tripTemp) % 65536 ∧
    recordWord (encodeRecord p) 20 = (bitOf p.maskCritical * 32768 + bitOf p.maskMajor * 16384 + bitOf p.maskMinor * 8192
      + bitOf p.maskInfo * 4096 + p.fanCapacity) % 65536 ∧
    recordWord (encodeRecord p) 23 = p.dutyHours % 65536 ∧ recordWord (encodeRecord p) 25 = p.counts % 65536 ∧
    recordWord (encodeRecord p) 27 = p.markPosition % 65536 ∧ recordWord (encodeRecord p) 29 = p.twistLimit % 65536 ∧
    recordWord (encodeRecord p) 31 = p.untwistThreshold % 65536 ∧
    recordWord (encodeRecord p) 34 = (p.lossFraction * 131072 + fieldOfSigned 17 p.startTwist) % 65536 ∧
    recordWord (encodeRecord p) 36 = p.sector1Start % 65536 ∧ recordWord (encodeRecord p) 38 = p.sector1Length % 65536 ∧
    recordWord (encodeRecord p) 40 = p.sector2Start % 65536 ∧ recordWord (encodeRecord p) 42 = p.sector2Length % 65536 ∧
    recordWord (encodeRecord p) 46 = (p.holdoff * 1048576 + p.overrunMargin * 1024 + p.misalignment) % 65536 := by
  unfold encodeRecord
  simp only [bytesOf16, bytesOf24, bytesOf32, List.cons_append, List.nil_append, recordWord, recordByte,
    List.getD_cons_zero, List.getD_cons_succ]
  refine ⟨?_, ?_, ?_, ?_, ?_, ?_, ?_, ?_, ?_, ?_, ?_, ?_, ?_, ?_, ?_, ?_, ?_, ?_, ?_, ?_, ?_⟩ <;> exact twoBytes_split _

/-- The bytes and high words at the indices that the other fields are read from. -/
theorem record_bytes (p : Params) :
    recordByte (encodeRecord p) 0 =
      (toByte (p.sectorCount * 32 + bitOf p.fallbackYaw * 16 + bitOf p.fallbackRun * 8 + p.supervisor.val)).toNat ∧
    recordByte (encodeRecord p) 1 = p.statusInterval % 256 ∧ recordByte (encodeRecord p) 22 = p.untwistWind % 256 ∧
    recordByte (encodeRecord p) 33 = (toByte ((p.lossFraction * 131072 + fieldOfSigned 17 p.startTwist) / 65536)).toNat ∧
    recordWord (encodeRecord p) 44 =
      twoBytes (toByte ((p.holdoff * 1048576 + p.overrunMargin * 1024 + p.misalignment) / 16777216))
        (toByte ((p.holdoff * 1048576 + p.overrunMargin * 1024 + p.misalignment) / 65536)) := by
  unfold encodeRecord
  simp only [bytesOf16, bytesOf24, bytesOf32, List.cons_append, List.nil_append, recordWord, recordByte,
    List.getD_cons_zero, List.getD_cons_succ]
  exact ⟨trivial, toByte_toNat _, toByte_toNat _, trivial, rfl⟩

theorem decodeRecord_encodeRecord (p : Params) (h : p.Fits) : decodeRecord (encodeRecord p) = p := by
  obtain ⟨⟨f2, f3, f4, f5, f6, f9, f10, f11, f12, f13, f14, f15⟩, ⟨f16, f17, f18, f19, f20, f21, f22, f23, f23'⟩,
    f24, f25, f26, f27, f28, f29, f30, f31, f32, f34⟩ := h
  obtain ⟨w2, w4, w6, w8, w10, w12, w14, w16, w18, w20, w23, w25, w27, w29, w31, w34, w36, w38, w40, w42, w46⟩ :=
    record_words p
  obtain ⟨b5, b4, b3, b0⟩ := bitField_recordByte0 p.sectorCount p.fallbackYaw p.fallbackRun p.supervisor f24
  obtain ⟨m15, m14, m13, m12, m0⟩ :=
    bitField_maskWord p.maskCritical p.maskMajor p.maskMinor p.maskInfo p.fanCapacity f14
  obtain ⟨y0, y1, y22, y33, y44⟩ := record_bytes p
  have hf17 : fieldOfSigned 17 p.startTwist < 131072 := fieldOfSigned_lt 17 p.startTwist
  have w33 : (toByte ((p.lossFraction * 131072 + fieldOfSigned 17 p.startTwist) / 65536)).toNat * 65536 +
      (p.lossFraction * 131072 + fieldOfSigned 17 p.startTwist) % 65536 =
      p.lossFraction * 131072 + fieldOfSigned 17 p.startTwist :=
    (threeBytes_split _).trans (Nat.mod_eq_of_lt (by omega))
  have w44 : twoBytes (toByte ((p.holdoff * 1048576 + p.overrunMargin * 1024 + p.misalignment) / 16777216))
        (toByte ((p.holdoff * 1048576 + p.overrunMargin * 1024 + p.misalignment) / 65536)) * 65536 +
      (p.holdoff * 1048576 + p.overrunMargin * 1024 + p.misalignment) % 65536 =
      p.holdoff * 1048576 + p.overrunMargin * 1024 + p.misalignment :=
    (fourBytes_split _).trans (Nat.mod_eq_of_lt (by omega))
  have c11 : bitField ((p.flowGrace * 1024 + p.coolDown) % 65536) 0 10 = p.coolDown := by simp only [bitField]; omega
  have c16 : bitField ((p.flowGrace * 1024 + p.coolDown) % 65536) 10 6 = p.flowGrace := by simp only [bitField]; omega
  have c12 : bitField ((p.watermark * 1024 + p.derateStart) % 65536) 0 10 = p.derateStart := by simp only [bitField]; omega
  have c34 : bitField ((p.watermark * 1024 + p.derateStart) % 65536) 10 6 = p.watermark := by simp only [bitField]; omega
  have c13 : bitField ((p.minDrives * 4096 + p.tripTemp) % 65536) 0 10 = p.tripTemp := by simp only [bitField]; omega
  have c31 : bitField ((p.minDrives * 4096 + p.tripTemp) % 65536) 12 4 = p.minDrives := by simp only [bitField]; omega
  have c15 : bitField (p.lossFraction * 131072 + fieldOfSigned 17 p.startTwist) 17 7 = p.lossFraction := by
    simp only [bitField]; omega
  have c23 : signedField 17 (p.lossFraction * 131072 + fieldOfSigned 17 p.startTwist) = p.startTwist :=
    signedField_read 17 p.startTwist p.lossFraction (by decide) (by simpa using f23) (by simpa using f23')
  have c29 : bitField (p.holdoff * 1048576 + p.overrunMargin * 1024 + p.misalignment) 0 10 = p.misalignment := by
    simp only [bitField]; omega
  have c30 : bitField (p.holdoff * 1048576 + p.overrunMargin * 1024 + p.misalignment) 10 10 = p.overrunMargin := by
    simp only [bitField]; omega
  have c32 : bitField (p.holdoff * 1048576 + p.overrunMargin * 1024 + p.misalignment) 20 10 = p.holdoff := by
    simp only [bitField]; omega
  simp only [decodeRecord, w2, w4, w6, w8, w10, w12, w14, w16, w18, w20, w23, w25, w27, w29, w31, w34, w36, w38, w40, w42, w46,
    y0, y1, y22, y33, y44, Nat.mod_eq_of_lt f2, Nat.mod_eq_of_lt f22, w33, w44, b5, b4, b3, b0, m15, m14, m13, m12, m0, c11, c16, c12, c34, c13, c31, c15, c23, c29, c30, c32,
    Nat.mod_eq_of_lt f3, Nat.mod_eq_of_lt f4, Nat.mod_eq_of_lt f5, Nat.mod_eq_of_lt f6, Nat.mod_eq_of_lt f9,
    Nat.mod_eq_of_lt f10, Nat.mod_eq_of_lt (show p.dutyHours < 65536 by omega), bitField_of_lt (w := 10) f17,
    Nat.mod_eq_of_lt f18, Nat.mod_eq_of_lt f19, Nat.mod_eq_of_lt f20, Nat.mod_eq_of_lt f21, Nat.mod_eq_of_lt f25,
    Nat.mod_eq_of_lt f26, Nat.mod_eq_of_lt f27, Nat.mod_eq_of_lt f28]

/-! ### Validation -/

theorem within_iff (lo hi v : Nat) : within lo hi v = true ↔ lo ≤ v ∧ v ≤ hi := by simp [within]

theorem sectorStartOk_iff (c v : Nat) : sectorStartOk c v = true ↔ v % 16 = 0 ∧ v < c := by simp [sectorStartOk]

theorem sectorLengthOk_iff (c v : Nat) : sectorLengthOk c v = true ↔ v % 16 = 0 ∧ 16 ≤ v ∧ v ≤ c / 4 := by
  simp [sectorLengthOk, within]

theorem firstFailing_none (n : Nat) (l : List Bool) : firstFailing n l = none ↔ ∀ i, l.getD i true = true := by
  induction l generalizing n with
  | nil => simp [firstFailing]
  | cons ok rest ih =>
    unfold firstFailing
    cases ok
    · simpa using ⟨0, rfl⟩
    · rw [if_pos rfl, ih]
      refine ⟨fun h i => ?_, fun h i => h (i + 1)⟩
      cases i with
      | zero => rfl
      | succ i => exact h i

theorem firstFailing_some (n m : Nat) (l : List Bool) :
    firstFailing n l = some m ↔ ∃ i, m = n + i ∧ l.getD i true = false ∧ ∀ j, j < i → l.getD j true = true := by
  induction l generalizing n with
  | nil => simp [firstFailing]
  | cons ok rest ih =>
    unfold firstFailing
    cases ok
    · rw [if_neg Bool.false_ne_true, Option.some.injEq]
      refine ⟨fun h => ⟨0, h.symm, rfl, fun j hj => absurd hj (Nat.not_lt_zero j)⟩, fun ⟨i, hm, _, hj⟩ => ?_⟩
      cases i with
      | zero => exact hm.symm
      | succ i => exact absurd (hj 0 (Nat.succ_pos i)) Bool.false_ne_true
    · rw [if_pos rfl, ih]
      refine ⟨fun ⟨i, hm, hf, hj⟩ => ⟨i + 1, by omega, hf, fun j hlt => ?_⟩, fun ⟨i, hm, hf, hj⟩ => ?_⟩
      · cases j with
        | zero => rfl
        | succ j => exact hj j (by omega)
      · cases i with
        | zero => exact absurd hf.symm Bool.false_ne_true
        | succ i => exact ⟨i, by omega, hf, fun j hlt => hj (j + 1) (by omega)⟩

/-- The test in the place of a field is that field's. -/
theorem fieldTests_iff (own : Station) (p : Params) (k : Nat) (hl : 1 ≤ k) (hu : k ≤ 34) :
    (fieldTests own p).getD (k - 1) true = true ↔ fieldPasses own p k := by
  match k, hl, hu with
  | 0, hl, _ => omega
  | 1, _, _ | 2, _, _ | 3, _, _ | 4, _, _ | 5, _, _ | 6, _, _ | 7, _, _ | 8, _, _ | 9, _, _ | 10, _, _ | 11, _, _
  | 12, _, _ | 13, _, _ | 14, _, _ | 15, _, _ | 16, _, _ | 17, _, _ | 18, _, _ | 19, _, _ | 20, _, _ | 21, _, _
  | 22, _, _ | 23, _, _ | 24, _, _ | 25, _, _ | 26, _, _ | 27, _, _ | 28, _, _ | 29, _, _ | 30, _, _ | 31, _, _
  | 32, _, _ | 33, _, _ | 34, _, _ =>
    simp [fieldTests, fieldPasses, within_iff, sectorStartOk_iff, sectorLengthOk_iff, sectorsApart] <;> omega
  | k + 35, _, hu => omega

/-- The tests of the first fields pass exactly where the fields do; a place past the last always passes. -/
theorem fieldTests_getD (own : Station) (p : Params) (i : Nat) (h : i < 34) :
    (fieldTests own p).getD i true = true ↔ fieldPasses own p (i + 1) :=
  fieldTests_iff own p (i + 1) (Nat.le_add_left 1 i) h

theorem fieldTests_past (own : Station) (p : Params) (i : Nat) (h : 34 ≤ i) : (fieldTests own p).getD i true = true := by
  have hl : (fieldTests own p).length = 34 := rfl
  exact congrArg (fun o : Option Bool => o.getD true) (List.getElem?_eq_none (by omega))

theorem validate_none_iff (own : Station) (p : Params) :
    validate own p = none ↔ ∀ k, 1 ≤ k → k ≤ 34 → fieldPasses own p k := by
  rw [validate, firstFailing_none]
  refine ⟨fun h k hl hu => (fieldTests_iff own p k hl hu).mp (h (k - 1)), fun h i => ?_⟩
  rcases Nat.lt_or_ge i 34 with hi | hi
  · exact (fieldTests_getD own p i hi).mpr (h (i + 1) (Nat.le_add_left 1 i) hi)
  · exact fieldTests_past own p i hi

theorem validate_some_iff (own : Station) (p : Params) (n : Nat) :
    validate own p = some n ↔ 1 ≤ n ∧ n ≤ 34 ∧ ¬ fieldPasses own p n ∧ ∀ k, 1 ≤ k → k < n → fieldPasses own p k := by
  rw [validate, firstFailing_some]
  constructor
  · rintro ⟨i, rfl, hf, hj⟩
    have hi : i < 34 := Nat.lt_of_not_le fun hc =>
      absurd (hf.symm.trans (fieldTests_past own p i hc)) Bool.false_ne_true
    refine ⟨Nat.le_add_right 1 i, by omega, fun hp => ?_, fun k hl hk => ?_⟩
    · rw [Nat.add_comm] at hp
      exact absurd (hf.symm.trans ((fieldTests_getD own p i hi).mpr hp)) Bool.false_ne_true
    · exact (fieldTests_iff own p k hl (by omega)).mp (hj (k - 1) (by omega))
  · rintro ⟨hl, hu, hf, hk⟩
    refine ⟨n - 1, by omega, ?_, fun j hj => ?_⟩
    · rw [← Bool.not_eq_true]
      exact fun h => hf ((fieldTests_iff own p n hl hu).mp h)
    · exact (fieldTests_getD own p j (by omega)).mpr (hk (j + 1) (Nat.le_add_left 1 j) (by omega))

/-- Settles O11: the bytes by the words they stand in, validation by the tests in the order of the fields. -/
theorem recordFields : Obligations.RecordFields :=
  ⟨fun p => ⟨length_encodeRecord p, decodeRecord_encodeRecord p⟩,
    fun own p => ⟨validate_none_iff own p, fun n => validate_some_iff own p n⟩⟩

end Sys2Proof.Machine
end

section
/-! PROOFS. A frame on the line reads back as itself (01 R14; 12 R192). -/

namespace Sys2Proof.Machine

/-! ### Numbers and bits -/

@[simp] theorem length_bitsOf (w n : Nat) : (bitsOf w n).length = w := by
  induction w with
  | zero => rfl
  | succ w ih => rw [bitsOf, List.length_cons, ih]

theorem bitOf_beq_one (n : Nat) (h : n < 2) : bitOf (n == 1) = n := by
  rcases (by omega : n = 0 ∨ n = 1) with rfl | rfl <;> rfl

theorem numberOf_bitsOf (w n : Nat) : numberOf (bitsOf w n) = n % 2 ^ w := by
  have go (a : Nat) : (bitsOf w n).foldl (fun m b => 2 * m + bitOf b) a = a * 2 ^ w + n % 2 ^ w := by
    induction w generalizing a with
    | zero => simp [bitsOf, Nat.mod_one]
    | succ w ih =>
      have hp : 2 ^ (w + 1) = 2 * 2 ^ w := by rw [Nat.pow_succ, Nat.mul_comm]
      rw [bitsOf, List.foldl_cons, ih, bitOf_beq_one _ (Nat.mod_lt _ (by decide)), Nat.mod_pow_succ, hp]
      grind
  simpa [numberOf] using go 0

theorem payloadOf_payloadBits (payload : List Byte) (rest : List Bool) :
    payloadOf payload.length (payloadBits payload ++ rest) = payload := by
  induction payload with
  | nil => rfl
  | cons b bs ih =>
    have h8 : (bitsOf 8 b.toNat).length = 8 := length_bitsOf 8 b.toNat
    have hb : toByte (numberOf (bitsOf 8 b.toNat)) = b := by
      rw [numberOf_bitsOf, Nat.mod_eq_of_lt b.isLt]
      exact (BitVec.ofNat_toNat 8 b).trans (BitVec.setWidth_eq b)
    have hcons : payloadBits (b :: bs) ++ rest = bitsOf 8 b.toNat ++ (payloadBits bs ++ rest) := by
      rw [payloadBits, List.flatMap_cons, List.append_assoc]
      rfl
    rw [hcons, List.length_cons, payloadOf, List.take_left' h8, List.drop_left' h8, hb, ih]

theorem length_payloadBits (payload : List Byte) : (payloadBits payload).length = 8 * payload.length := by
  induction payload with
  | nil => rfl
  | cons b bs ih =>
    rw [payloadBits, List.flatMap_cons, List.length_append, length_bitsOf, List.length_cons]
    rw [payloadBits] at ih
    omega

/-! ### The verdict -/

/-- The bits of a frame in the order of its fields. -/
theorem plainBits_eq (k n : Nat) (payload : List Byte) (check : BitVec 16) :
    plainBits k n payload check = [false] ++ (bitsOf 6 k ++ (bitsOf 3 n ++ (bitsOf 5 payload.length ++
      (payloadBits payload ++ bitsOf 16 check.toNat)))) := by
  simp [plainBits, checkedBits]

theorem length_plainBits (k n : Nat) (payload : List Byte) (check : BitVec 16) :
    (plainBits k n payload check).length = 31 + 8 * payload.length := by
  simp only [plainBits_eq, List.length_append, length_bitsOf, length_payloadBits, List.length_singleton]
  omega

theorem plainBits_length_field (k n : Nat) (payload : List Byte) (check : BitVec 16) (h : payload.length < 32) :
    numberOf (((plainBits k n payload check).drop 10).take 5) = payload.length := by
  have hd : (plainBits k n payload check).drop 10 =
      bitsOf 5 payload.length ++ (payloadBits payload ++ bitsOf 16 check.toNat) := by
    rw [plainBits_eq, ← List.append_assoc, ← List.append_assoc]
    exact List.drop_left' (by simp)
  rw [hd, List.take_left' (length_bitsOf 5 _), numberOf_bitsOf]
  exact Nat.mod_eq_of_lt h

/-- A frame that still lacks bits has no verdict. -/
theorem verdictOf_incomplete (k n : Nat) (payload : List Byte) (check : BitVec 16) (h : payload.length ≤ 16)
    (pre post : List Bool) (hp : pre ++ post = plainBits k n payload check) (hpost : post ≠ []) :
    verdictOf pre = .incomplete := by
  have hl : pre.length + post.length = 31 + 8 * payload.length := by
    rw [← List.length_append, hp, length_plainBits]
  have hpos : 0 < post.length := List.length_pos_iff.mpr hpost
  unfold verdictOf
  split
  · rfl
  · rename_i h15
    have hfield : numberOf ((pre.drop 10).take 5) = payload.length := by
      rw [← plainBits_length_field k n payload check (by omega), ← hp, List.drop_append_of_le_length (by omega),
        List.take_append_of_le_length (by rw [List.length_drop]; omega)]
    simp only [hfield]
    rw [if_neg (by omega), if_pos (by omega)]

/-- A whole frame with its check is good. -/
theorem verdictOf_plainBits (kind : Kind) (source : Station) (payload : List Byte) (h : payload.length ≤ 16) :
    verdictOf (plainBits kind.code source.val payload (frameCheck kind.code source.val payload)) =
      .good kind.code source payload := by
  generalize hc : frameCheck kind.code source.val payload = check
  have hlen := length_plainBits kind.code source.val payload check
  have hfield := plainBits_length_field kind.code source.val payload check (by omega)
  have heq := plainBits_eq kind.code source.val payload check
  have hk : kind.code % 2 ^ 6 = kind.code := by cases kind <;> rfl
  have hs : Fin.ofNat 8 (source.val % 2 ^ 3) = source := by
    have h8 : source.val % 2 ^ 3 = source.val := Nat.mod_eq_of_lt source.isLt
    rw [h8]
    exact Fin.ext (Nat.mod_eq_of_lt source.isLt)
  have h1 : (plainBits kind.code source.val payload check).drop 1 =
      checkedBits kind.code source.val payload ++ bitsOf 16 check.toNat := rfl
  have hcl : (checkedBits kind.code source.val payload).length = 14 + 8 * payload.length := by
    simp only [checkedBits, List.length_append, length_bitsOf, length_payloadBits]
  have hbody : ((plainBits kind.code source.val payload check).drop 1).take (14 + 8 * payload.length) =
      checkedBits kind.code source.val payload := by
    rw [h1, List.take_left' hcl]
  have hcheck : ((plainBits kind.code source.val payload check).drop (15 + 8 * payload.length)).take 16 =
      bitsOf 16 check.toNat := by
    have hd : (plainBits kind.code source.val payload check).drop (15 + 8 * payload.length) = bitsOf 16 check.toNat := by
      rw [show 15 + 8 * payload.length = 1 + (14 + 8 * payload.length) by omega, ← List.drop_drop, h1, List.drop_left' hcl]
    rw [hd, List.take_of_length_le (by simp)]
  have hkind : ((plainBits kind.code source.val payload check).drop 1).take 6 = bitsOf 6 kind.code := by
    rw [heq, List.drop_left' (List.length_singleton), List.take_left' (length_bitsOf 6 _)]
  have hsource : ((plainBits kind.code source.val payload check).drop 7).take 3 = bitsOf 3 source.val := by
    rw [heq, ← List.append_assoc, List.drop_left' (by simp), List.take_left' (length_bitsOf 3 _)]
  have hpayload : (plainBits kind.code source.val payload check).drop 15 = payloadBits payload ++ bitsOf 16 check.toNat := by
    rw [heq, ← List.append_assoc, ← List.append_assoc, ← List.append_assoc]
    exact List.drop_left' (by simp)
  have hcrc : crcOf (checkedBits kind.code source.val payload) = check := hc
  have hn : check.toNat % 2 ^ 16 = check.toNat := Nat.mod_eq_of_lt check.isLt
  simp only [verdictOf, hlen, hfield, hbody, hcheck, hkind, hsource, hpayload, numberOf_bitsOf, hcrc, hn, hk, hs,
    payloadOf_payloadBits]
  rw [if_neg (by omega), if_neg (by omega), if_neg (by omega), if_pos trivial]

/-! ### The inserted bits -/

theorem Reception.takeAll_cons {r : Reception} {b : Level} {rest : List Level} (h : rest ≠ []) :
    r.takeAll (b :: rest) = (r.take b).1.takeAll rest := by
  cases rest with
  | nil => exact absurd rfl h
  | cons c cs => rfl

theorem stuffFrom_ne_nil (last : Bool) (run : Nat) (b : Bool) (rest : List Bool) : stuffFrom last run (b :: rest) ≠ [] := by
  unfold stuffFrom
  split <;> simp

/-- One frame bit that leaves the frame incomplete is taken with its run. -/
theorem Reception.take_incomplete (last : Bool) (run : Nat) (bits : List Bool) (b : Bool) (hr : run ≠ 5)
    (h : verdictOf (b :: bits).reverse = .incomplete) :
    (Reception.taking last run bits).take b = (.taking b (if b = last then run + 1 else 1) (b :: bits), .incomplete) := by
  simp only [Reception.take, if_neg hr, h]

/-- The frame bit that completes the frame brings its verdict. -/
theorem Reception.take_complete (last : Bool) (run : Nat) (bits : List Bool) (b : Bool) (k : Nat) (n : Station) (p : List Byte)
    (hr : run ≠ 5) (h : verdictOf (b :: bits).reverse = .good k n p) :
    (Reception.taking last run bits).take b = (.waiting, .good k n p) := by
  simp only [Reception.take, if_neg hr, h]

/-- The inserted bit after five equal ones is dropped. -/
theorem Reception.take_inserted (last : Bool) (bits : List Bool) :
    (Reception.taking last 5 bits).take (!last) = (.taking (!last) 1 bits, .incomplete) := by
  cases last <;> rfl

/-- A frame taken in part ends good with its remaining bits, inserted ones among them. -/
theorem Reception.takeAll_stuffed (k : Nat) (n : Station) (p : List Byte) (plain : List Bool)
    (hi : ∀ pre post, pre ++ post = plain → post ≠ [] → verdictOf pre = .incomplete)
    (hg : verdictOf plain = .good k n p) (last : Bool) (run : Nat) (bits rest : List Bool)
    (hp : bits.reverse ++ rest = plain) (hr : rest ≠ []) :
    (Reception.taking last run bits).takeAll (stuffFrom last run rest) = (.waiting, .good k n p) := by
  induction rest generalizing last run bits with
  | nil => exact absurd rfl hr
  | cons b rest ih =>
    have hp' : (b :: bits).reverse ++ rest = plain := by simpa using hp
    -- one frame bit outside a run of five, and what follows it
    have next (last : Bool) (run : Nat) (h5 : run ≠ 5) :
        (Reception.taking last run bits).takeAll (b :: stuffFrom b (if b = last then run + 1 else 1) rest) =
          (.waiting, .good k n p) := by
      cases rest with
      | nil =>
        have hv : verdictOf (b :: bits).reverse = .good k n p := by
          rw [List.append_nil] at hp'
          rw [hp', hg]
        exact Reception.take_complete last run bits b k n p h5 hv
      | cons c cs =>
        have hv := hi _ _ hp' (List.cons_ne_nil c cs)
        rw [Reception.takeAll_cons (stuffFrom_ne_nil _ _ _ _), Reception.take_incomplete last run bits b h5 hv]
        exact ih b _ (b :: bits) hp' (List.cons_ne_nil c cs)
    unfold stuffFrom
    split
    · rename_i h5
      subst h5
      rw [Reception.takeAll_cons (List.cons_ne_nil _ _), Reception.take_inserted]
      exact next (!last) 1 (by decide)
    · exact next last run ‹_›

theorem payloadLength_le (kind : Kind) : kind.payloadLength ≤ 16 := by cases kind <;> decide

/-- Settles O9: the start bit opens the frame, and the rest of its bits, with the inserted ones, ends it good. -/
theorem frameReadBack : Obligations.FrameReadBack := by
  intro kind source payload hl
  have h16 : payload.length ≤ 16 := hl ▸ payloadLength_le kind
  generalize hc : frameCheck kind.code source.val payload = check
  have hg : verdictOf (plainBits kind.code source.val payload check) = .good kind.code source payload := by
    rw [← hc]
    exact verdictOf_plainBits kind source payload h16
  have hne : checkedBits kind.code source.val payload ++ bitsOf 16 check.toNat ≠ [] := by
    intro h
    have := congrArg List.length h
    simp at this
  have hstart : lineBits kind.code source.val payload check =
      false :: stuffFrom false 1 (checkedBits kind.code source.val payload ++ bitsOf 16 check.toNat) := rfl
  obtain ⟨b, rest, hb⟩ := List.exists_cons_of_ne_nil hne
  rw [hstart, Reception.takeAll_cons (by rw [hb]; exact stuffFrom_ne_nil _ _ _ _)]
  exact Reception.takeAll_stuffed kind.code source payload _
    (fun pre post hp => verdictOf_incomplete kind.code source.val payload check h16 pre post hp) hg false 1 [false] _ rfl hne

end Sys2Proof.Machine
end

section
/-! PROOFS. The transmit queue: attempts, the STATUS of an interval, and the frames that go no further than their count (01 R2 to R20). -/

namespace Sys2Proof.Machine

/-! ### The frame in transmission -/

/-- A queue with one frame in transmission, between the frames before it and those behind it. -/
structure Lif.Sends (l : Lif) (a : List QueuedFrame) (f : QueuedFrame) (b : List QueuedFrame) : Prop where
  queue : l.queue = a ++ f :: b
  sending : f.transmitting = true
  others : ∀ g ∈ a ++ b, g.transmitting = false

theorem Lif.Sends.inTransmission {l : Lif} {a b : List QueuedFrame} {f : QueuedFrame} (h : l.Sends a f b) :
    l.inTransmission = some f := by
  have ha : a.find? (·.transmitting) = none := by
    rw [List.find?_eq_none]
    intro g hg
    simp [h.others g (List.mem_append_left b hg)]
  rw [Lif.inTransmission, h.queue, List.find?_append, ha, Option.none_or, List.find?_cons_of_pos h.sending]

theorem Lif.Sends.removeSent {l : Lif} {a b : List QueuedFrame} {f : QueuedFrame} (h : l.Sends a f b) :
    l.removeSent = { l with sent := none, queue := a ++ b } := by
  have keep (c : List QueuedFrame) (hc : ∀ g ∈ c, g.transmitting = false) : c.filter (fun g => !g.transmitting) = c :=
    List.filter_eq_self.mpr (fun g hg => by simp [hc g hg])
  have hf : l.queue.filter (fun g => !g.transmitting) = a ++ b := by
    rw [h.queue, List.filter_append, List.filter_cons_of_neg (by simp [h.sending]),
      keep a (fun g hg => h.others g (List.mem_append_left b hg)), keep b (fun g hg => h.others g (List.mem_append_right a hg))]
  rw [Lif.removeSent, hf]

/-- A change of the frame in transmission alone. -/
theorem Lif.Sends.map {l : Lif} {a b : List QueuedFrame} {f : QueuedFrame} (h : l.Sends a f b) (u : QueuedFrame → QueuedFrame) :
    l.queue.map (fun g => if g.transmitting = true then u g else g) = a ++ u f :: b := by
  have keep (c : List QueuedFrame) (hc : ∀ g ∈ c, g.transmitting = false) :
      c.map (fun g => if g.transmitting = true then u g else g) = c :=
    (List.map_congr_left (fun g hg => by simp [hc g hg])).trans (List.map_id c)
  rw [h.queue, List.map_append, List.map_cons, if_pos h.sending,
    keep a (fun g hg => h.others g (List.mem_append_left b hg)), keep b (fun g hg => h.others g (List.mem_append_right a hg))]

theorem Lif.Sends.stopSending {l : Lif} {a b : List QueuedFrame} {f : QueuedFrame} (h : l.Sends a f b) (failed : Bool) :
    l.stopSending failed = { l with
      sent := none
      queue := a ++
        { f with transmitting := false, attempts := if failed = true then f.attempts + 1 else f.attempts } :: b } := by
  rw [Lif.stopSending, h.map (fun g =>
    { g with transmitting := false, attempts := if failed = true then g.attempts + 1 else g.attempts })]

/-- Without a waiting STATUS for it, the end of an attempt leaves the frame as it stands (01 R12). -/
theorem State.refreshStatus_none (s : State) (f : QueuedFrame) (h : f.kind ≠ .status ∨ s.lif.statusPlace = none) :
    s.refreshStatus f = s := by
  unfold State.refreshStatus
  split
  · rename_i p hk hp
    rcases h with h | h
    · exact absurd hk h
    · exact absurd (h.symm.trans hp) (by simp)
  · rfl

theorem State.refreshStatus_some (s : State) (f : QueuedFrame) (p : List Byte) (hk : f.kind = .status)
    (hp : s.lif.statusPlace = some p) :
    s.refreshStatus f = { s with lif := { s.lif with
      queue := s.lif.queue.map (fun g => if g.kind = .status then s.newFrame .status p else g)
      statusPlace := none } } := by
  simp only [State.refreshStatus, hk, hp, State.replaceStatus]

/-- The STATUS of a queue that holds one replaced in its place. -/
theorem map_status (n : QueuedFrame) (a b : List QueuedFrame) (f : QueuedFrame) (hk : f.kind = .status)
    (ho : ∀ g ∈ a ++ b, g.kind ≠ .status) :
    (a ++ f :: b).map (fun g => if g.kind = .status then n else g) = a ++ n :: b := by
  have keep (c : List QueuedFrame) (hc : ∀ g ∈ c, g.kind ≠ .status) :
      c.map (fun g => if g.kind = .status then n else g) = c :=
    (List.map_congr_left (fun g hg => if_neg (hc g hg))).trans (List.map_id c)
  rw [List.map_append, List.map_cons, if_pos hk, keep a (fun g hg => ho g (List.mem_append_left b hg)),
    keep b (fun g hg => ho g (List.mem_append_right a hg))]

theorem Lif.beginIfIdle_idle {l : Lif} {f : QueuedFrame} {rest : List QueuedFrame} (hq : l.queue = f :: rest)
    (hi : l.lineIdle = true) (ht : l.transmits = false) :
    l.beginIfIdle = { l with queue := { f with transmitting := true } :: rest, lineIdle := false, sent := some 0 } := by
  simp only [Lif.beginIfIdle, hq, hi, ht, Bool.not_false, Bool.and_self, if_true]

theorem exec_lostArbitration {s : State} {a b : List QueuedFrame} {f : QueuedFrame} (h : s.lif.Sends a f b) :
    exec .lostArbitration s = .next (State.refreshStatus
      { s with lif := { s.lif with sent := none, queue := a ++ { f with transmitting := false } :: b } } f) := by
  simp only [exec, execLostArbitration, h.inTransmission, h.stopSending, Bool.false_eq_true, if_false]

theorem exec_readBackMismatch {s : State} {a b : List QueuedFrame} {f : QueuedFrame} (h : s.lif.Sends a f b) :
    exec .readBackMismatch s = .next
      (if 16 ≤ f.attempts + 1 then s.discardSent f
      else State.refreshStatus
        { s with lif := { s.lif with
          sent := none
          queue := a ++ { f with transmitting := false, attempts := f.attempts + 1 } :: b } } f) := by
  simp only [exec, execReadBackMismatch, h.inTransmission, h.stopSending, if_true]

/-- Settles O12, by what the line makes of its queue. -/
theorem attemptEnds : Obligations.AttemptEnds := by
  refine ⟨fun s ht => ⟨fun hq => ?_, fun f rest hq => ?_⟩, fun s a b f hq hf ho => ?_⟩
  · simp [exec, execLineIdle, ht, Lif.beginIfIdle, hq]
  · have hb := Lif.beginIfIdle_idle (l := { s.lif with lineIdle := true }) hq rfl ht
    simp only [exec, execLineIdle, ht, Bool.false_eq_true, if_false, hb]
  · have h : s.lif.Sends a f b := ⟨hq, hf, ho⟩
    refine ⟨fun hn => ⟨?_, fun hlt => ?_⟩, fun p c hk hp hstatus hc => ?_⟩
    · rw [exec_lostArbitration h]
      exact congrArg Host.Outcome.next (State.refreshStatus_none _ f (by exact hn))
    · rw [exec_readBackMismatch h, if_neg (by omega)]
      exact congrArg Host.Outcome.next (State.refreshStatus_none _ f (by exact hn))
    · have left (g : QueuedFrame) (hg : g.kind = .status) :
          State.refreshStatus { s with lif := { s.lif with sent := none, queue := a ++ g :: b } } f =
            { s with lif := { s.lif with sent := none, statusPlace := none, queue := a ++ s.newFrame .status p :: b } } := by
        rw [State.refreshStatus_some { s with lif := { s.lif with sent := none, queue := a ++ g :: b } } f p hk hp,
          map_status _ a b g hg hstatus]
        rfl
      rcases hc with rfl | ⟨rfl, hlt⟩
      · rw [exec_lostArbitration h, left { f with transmitting := false } hk]
      · rw [exec_readBackMismatch h, if_neg (by omega),
          left { f with transmitting := false, attempts := f.attempts + 1 } hk]

/-! ### The STATUS of an interval -/

theorem Lif.beginIfIdle_busy {l : Lif} (h : l.lineIdle = false) : l.beginIfIdle = l := by
  unfold Lif.beginIfIdle
  split
  · rfl
  · simp [h]

theorem State.enqueue_busy (s : State) (kind : Kind) (payload : List Byte) (h : s.lif.lineIdle = false) :
    s.enqueue kind payload = { s with lif := { s.lif with queue := insertFrame (s.newFrame kind payload) s.lif.queue } } :=
  congrArg (fun l => { s with lif := l }) (Lif.beginIfIdle_busy (by exact h))

theorem State.handleStatus_free {s : State} (p : List Byte) (hs : s.lif.hasStatus = false) (hp : s.lif.queue.length < 8) :
    s.handleStatus p = s.enqueue .status p := by
  have hplace : s.hasPlace = true := decide_eq_true hp
  simp only [State.handleStatus, hs, hplace, Bool.false_eq_true, if_false, if_true]

theorem State.handleStatus_replace {s : State} (p : List Byte) (hs : s.lif.hasStatus = true)
    (ho : ∀ f ∈ s.lif.queue, f.kind = .status → f.transmitting = false) : s.handleStatus p = s.replaceStatus p := by
  have hany : (s.lif.queue.any (fun f => f.kind == .status && f.transmitting)) = false := by
    rw [List.any_eq_false]
    intro f hf
    by_cases hk : f.kind = .status
    · simp [ho f hf hk]
    · simp [hk]
  simp only [State.handleStatus, hs, hany, Bool.false_eq_true, if_false, if_true]

theorem State.handleStatus_place {s : State} (p : List Byte)
    (h : s.lif.hasStatus = false ∧ 8 ≤ s.lif.queue.length ∨ ∃ f ∈ s.lif.queue, f.kind = .status ∧ f.transmitting = true) :
    s.handleStatus p = s.placeStatus p := by
  rcases h with ⟨hs, hfull⟩ | ⟨f, hf, hk, ht⟩
  · have hplace : s.hasPlace = false := decide_eq_false (Nat.not_lt.mpr hfull)
    simp only [State.handleStatus, hs, hplace, Bool.false_eq_true, if_false]
  · have hs : s.lif.hasStatus = true := List.any_eq_true.mpr ⟨f, hf, by simp [hk]⟩
    have hany : (s.lif.queue.any (fun f => f.kind == .status && f.transmitting)) = true :=
      List.any_eq_true.mpr ⟨f, hf, by simp [hk, ht]⟩
    simp only [State.handleStatus, hs, hany, if_true]

/-- Settles O15, by the three cases of the queue. -/
theorem statusComposed : Obligations.StatusComposed := by
  intro s ht hi
  have hx : exec .statusIntervalExpiry s = .next (State.handleStatus
      { s with lif := { s.lif with statusTimer := some s.period } } (encodeStatus s.composeStatus)) :=
    congrArg Host.Outcome.next (if_pos ht)
  refine ⟨fun hs hlen => ?_, fun hs hout => ?_, fun h => ?_⟩ <;> rw [hx] <;> refine congrArg Host.Outcome.next ?_
  · exact (State.handleStatus_free _ (by exact hs) (by exact hlen)).trans (State.enqueue_busy _ _ _ (by exact hi))
  · exact State.handleStatus_replace _ (by exact hs) (by exact hout)
  · exact State.handleStatus_place _ (by exact h)

/-! ### Frames that go no further than their count -/

/-- The command of a frame of a known kind is its reception, with the arrival of the kind's owner. -/
theorem exec_frameCommand (kind : Kind) (source : Station) (payload : List Byte) :
    ∃ deliver, ∀ s, exec (frameCommand kind source payload) s = .next (s.receive kind source payload deliver) := by
  cases kind <;> exact ⟨_, fun _ => rfl⟩

/-- The sender test turns away what only the supervisor station may send (01 R19). -/
theorem State.passes_false {s : State} {kind : Kind} {source : Station}
    (h : kind.supervisorOnly = true ∧ s.configured = true ∧ source ≠ s.prm.supervisor ∨
      (kind = .demand ∨ kind = .faultAck) ∧ s.configured = false) : s.passes kind source = false := by
  rcases h with ⟨hk, hc, hn⟩ | ⟨rfl | rfl, hc⟩
  · simp [State.passes, hk, hc, hn]
  · simp only [State.passes, hc]
    rfl
  · simp only [State.passes, hc]
    rfl

/-- Settles O18: the count and the presence refresh, with an arrival that does nothing or is not reached. -/
theorem refreshOnlyFrames : Obligations.RefreshOnlyFrames := by
  refine ⟨fun source payload s h => ?_, fun kind source s ho hp hd => ?_, fun kind source payload s hl ho hp hd hk => ?_⟩
  · exact congrArg Host.Outcome.next (s.receive_heard _ _ _ _ h)
  · rw [← s.counted_refreshed none source hp hd]
    exact congrArg Host.Outcome.next (if_neg ho)
  · obtain ⟨deliver, h⟩ := exec_frameCommand kind source payload
    rw [h, s.receive_turned_away kind source payload deliver hl ho hp hd (State.passes_false hk)]

end Sys2Proof.Machine
end

section
/-! SUPPORT. Places of the transmit queue, displacement, and the place-free indication where nothing can go in (01 R7 to R11). -/

namespace Sys2Proof.Machine

/-! ### Lists -/

theorem removeLast_none {α : Type} (p : α → Bool) (l : List α) : removeLast p l = none ↔ ∀ x ∈ l, p x = false := by
  induction l with
  | nil => simp [removeLast]
  | cons x xs ih =>
    unfold removeLast
    cases h : removeLast p xs with
    | some r =>
      have hne : ¬ ∀ y ∈ xs, p y = false := fun hall => by simp [ih.mpr hall] at h
      simp only [reduceCtorEq, false_iff]
      exact fun hall => hne (fun y hy => hall y (List.mem_cons_of_mem x hy))
    | none =>
      have hall := ih.mp h
      cases hx : p x <;> simp_all

theorem removeLast_some {α : Type} {p : α → Bool} {l rest : List α} {x : α} (h : removeLast p l = some (x, rest)) :
    ∃ a b, l = a ++ x :: b ∧ rest = a ++ b ∧ p x = true ∧ ∀ y ∈ b, p y = false := by
  induction l generalizing rest with
  | nil => simp [removeLast] at h
  | cons z zs ih =>
    unfold removeLast at h
    cases hz : removeLast p zs with
    | some r =>
      rw [hz] at h
      obtain ⟨rfl, rfl⟩ := Prod.mk.inj (Option.some.inj h)
      obtain ⟨a, b, rfl, hr, hp, hb⟩ := ih hz
      exact ⟨z :: a, b, rfl, by rw [hr, List.cons_append], hp, hb⟩
    | none =>
      rw [hz] at h
      cases hp : p z with
      | false => simp [hp] at h
      | true =>
        simp only [hp, if_true, Option.some.injEq, Prod.mk.injEq] at h
        obtain ⟨rfl, rfl⟩ := h
        exact ⟨[], zs, rfl, rfl, hp, (removeLast_none p zs).mp hz⟩

/-- A maximum taken along a list is at least its start and every value, and is one of them. -/
theorem foldl_max_spec {α : Type} (v : α → Nat) (l : List α) (m : Nat) :
    m ≤ l.foldl (fun m x => max m (v x)) m ∧ (∀ x ∈ l, v x ≤ l.foldl (fun m x => max m (v x)) m) ∧
      (l.foldl (fun m x => max m (v x)) m = m ∨ ∃ x ∈ l, l.foldl (fun m x => max m (v x)) m = v x) := by
  induction l generalizing m with
  | nil => exact ⟨Nat.le_refl m, fun x hx => (by cases hx), .inl rfl⟩
  | cons y ys ih =>
    obtain ⟨h1, h2, h3⟩ := ih (max m (v y))
    rw [List.foldl_cons]
    refine ⟨Nat.le_trans (Nat.le_max_left _ _) h1, fun x hx => ?_, ?_⟩
    · rcases List.mem_cons.mp hx with rfl | hx
      · exact Nat.le_trans (Nat.le_max_right _ _) h1
      · exact h2 x hx
    · rcases h3 with h3 | ⟨x, hx, h3⟩
      · rw [h3]
        rcases Nat.le_total m (v y) with hm | hm
        · exact .inr ⟨y, List.mem_cons_self, Nat.max_eq_right hm⟩
        · exact .inl (Nat.max_eq_left hm)
      · exact .inr ⟨x, List.mem_cons_of_mem y hx, h3⟩

/-! ### The order of entry (01 R7) and displacement (01 R10) -/

theorem insertFrame_split (f : QueuedFrame) (q : List QueuedFrame) (h : q.Pairwise (fun g h => g.kind.code ≤ h.kind.code)) :
    ∃ a b, q = a ++ b ∧ insertFrame f q = a ++ f :: b ∧ (∀ g ∈ a, g.kind.code ≤ f.kind.code) ∧
      (∀ g ∈ b, f.kind.code < g.kind.code) := by
  induction q with
  | nil => exact ⟨[], [], rfl, rfl, fun g hg => (by cases hg), fun g hg => (by cases hg)⟩
  | cons x xs ih =>
    obtain ⟨hx, hxs⟩ := List.pairwise_cons.mp h
    by_cases hlt : f.kind.code < x.kind.code
    · refine ⟨[], x :: xs, rfl, by simp [insertFrame, hlt], fun g hg => (by cases hg), fun g hg => ?_⟩
      rcases List.mem_cons.mp hg with rfl | hg
      · exact hlt
      · exact Nat.lt_of_lt_of_le hlt (hx g hg)
    · obtain ⟨a, b, hq, hins, ha, hb⟩ := ih hxs
      refine ⟨x :: a, b, by rw [hq, List.cons_append], by simp [insertFrame, hlt, hins], fun g hg => ?_, hb⟩
      rcases List.mem_cons.mp hg with rfl | hg
      · exact Nat.not_lt.mp hlt
      · exact ha g hg

theorem length_insertFrame (f : QueuedFrame) (q : List QueuedFrame) : (insertFrame f q).length = q.length + 1 := by
  induction q with
  | nil => rfl
  | cons x xs ih =>
    unfold insertFrame
    split <;> simp [ih]

theorem displaceable_iff (kind : Kind) (f : QueuedFrame) :
    displaceable kind f = true ↔ f.transmitting = false ∧ kind.code < f.kind.code := by
  simp [displaceable]

/-- The highest kind code among the frames that may be displaced. -/
def highestCode (kind : Kind) (q : List QueuedFrame) : Nat :=
  (q.filter (displaceable kind)).foldl (fun m f => max m f.kind.code) 0

theorem displaced_eq (kind : Kind) (q : List QueuedFrame) :
    displaced kind q = removeLast (fun f => displaceable kind f && f.kind.code == highestCode kind q) q := rfl

theorem le_highestCode {kind : Kind} {q : List QueuedFrame} {g : QueuedFrame} (hg : g ∈ q) (hd : displaceable kind g = true) :
    g.kind.code ≤ highestCode kind q :=
  (foldl_max_spec (fun f : QueuedFrame => f.kind.code) (q.filter (displaceable kind)) 0).2.1 g
    (List.mem_filter.mpr ⟨hg, hd⟩)

/-- Where a frame may be displaced, one of the highest code may be. -/
theorem exists_highestCode {kind : Kind} {q : List QueuedFrame} {g : QueuedFrame} (hg : g ∈ q)
    (hd : displaceable kind g = true) : ∃ f ∈ q, displaceable kind f = true ∧ f.kind.code = highestCode kind q := by
  obtain ⟨_, hle, hm⟩ := foldl_max_spec (fun f : QueuedFrame => f.kind.code) (q.filter (displaceable kind)) 0
  rcases hm with hm | ⟨f, hf, hm⟩
  · have := hle g (List.mem_filter.mpr ⟨hg, hd⟩)
    have := ((displaceable_iff kind g).mp hd).2
    omega
  · obtain ⟨hq, hd⟩ := List.mem_filter.mp hf
    exact ⟨f, hq, hd, hm.symm⟩

theorem displaced_none (kind : Kind) (q : List QueuedFrame) :
    displaced kind q = none ↔ ∀ g ∈ q, g.transmitting = true ∨ g.kind.code ≤ kind.code := by
  rw [displaced_eq, removeLast_none]
  constructor
  · intro h g hg
    refine Decidable.byContradiction fun hc => ?_
    rw [not_or, Bool.not_eq_true, Nat.not_le] at hc
    obtain ⟨f, hf, hd, he⟩ := exists_highestCode hg ((displaceable_iff kind g).mpr hc)
    have := h f hf
    simp [hd, he] at this
  · intro h g hg
    have hd : displaceable kind g = false := by
      rw [← Bool.not_eq_true, displaceable_iff]
      rintro ⟨ht, hlt⟩
      rcases h g hg with h | h
      · rw [ht] at h
        cases h
      · omega
    rw [hd, Bool.false_and]

theorem displaced_some {kind : Kind} {q rest : List QueuedFrame} {f : QueuedFrame} (h : displaced kind q = some (f, rest)) :
    ∃ a b, q = a ++ f :: b ∧ rest = a ++ b ∧ f.transmitting = false ∧ kind.code < f.kind.code ∧
      (∀ g ∈ q, g.transmitting = false → g.kind.code ≤ f.kind.code) ∧
      (∀ g ∈ b, g.transmitting = false → g.kind.code < f.kind.code) := by
  rw [displaced_eq] at h
  obtain ⟨a, b, hq, hr, hp, hb⟩ := removeLast_some h
  rw [Bool.and_eq_true, beq_iff_eq] at hp
  obtain ⟨hd, he⟩ := hp
  obtain ⟨ht, hlt⟩ := (displaceable_iff kind f).mp hd
  have hle (g : QueuedFrame) (hg : g ∈ q) (hgt : g.transmitting = false) : g.kind.code ≤ f.kind.code := by
    by_cases hk : kind.code < g.kind.code
    · exact he ▸ le_highestCode hg ((displaceable_iff kind g).mpr ⟨hgt, hk⟩)
    · omega
  refine ⟨a, b, hq, hr, ht, hlt, hle, fun g hg hgt => ?_⟩
  have hgq : g ∈ q := by
    rw [hq]
    exact List.mem_append_right a (List.mem_cons_of_mem f hg)
  have hne := hb g hg
  by_cases hk : kind.code < g.kind.code
  · have hgd := (displaceable_iff kind g).mpr ⟨hgt, hk⟩
    simp only [hgd, Bool.true_and, beq_eq_false_iff_ne] at hne
    have := hle g hgq hgt
    omega
  · omega

/-! ### Requests on a full queue -/

theorem State.hasPlace_iff (s : State) : s.hasPlace = true ↔ s.lif.queue.length < 8 :=
  decide_eq_true_iff

theorem State.hasPlace_false {s : State} (h : 8 ≤ s.lif.queue.length) : s.hasPlace = false :=
  decide_eq_false (Nat.not_lt.mpr h)

theorem State.request_place (s : State) (kind : Kind) (p : List Byte) (h : s.hasPlace = true) :
    s.request kind p = (s.enqueue kind p, true) := by simp only [State.request, h, if_true]

theorem State.request_full (s : State) (kind : Kind) (p : List Byte) (h : s.hasPlace = false) :
    s.request kind p = (s, false) := by simp only [State.request, h, Bool.false_eq_true, if_false]

theorem State.requestUrgent_place (s : State) (kind : Kind) (p : List Byte) (h : s.hasPlace = true) :
    s.requestUrgent kind p = (s.enqueue kind p, true) := by simp only [State.requestUrgent, h, if_true]

theorem State.requestUrgent_none (s : State) (kind : Kind) (p : List Byte) (h : s.hasPlace = false)
    (hd : displaced kind s.lif.queue = none) : s.requestUrgent kind p = (s, false) := by
  simp only [State.requestUrgent, h, Bool.false_eq_true, if_false, hd]

theorem State.requestUrgent_some (s : State) (kind : Kind) (p : List Byte) (f : QueuedFrame) (rest : List QueuedFrame)
    (h : s.hasPlace = false) (hd : displaced kind s.lif.queue = some (f, rest)) :
    s.requestUrgent kind p =
      (((State.enqueue { s with lif := { s.lif with queue := rest } } kind p).discardNotice f).placeFree, true) := by
  simp only [State.requestUrgent, h, Bool.false_eq_true, if_false, hd]

/-! ### The place-free indication on a full queue -/

theorem State.offerTrip_full (s : State) (h : s.hasPlace = false) : s.offerTrip = s := by
  unfold State.offerTrip
  split
  · rw [s.request_full _ _ h]
    rfl
  · rfl

theorem State.offerPump_full (s : State) (h : s.hasPlace = false) : s.offerPump = s := by
  unfold State.offerPump
  split
  · rw [s.request_full _ _ h]
    rfl
  · rfl

theorem State.offerStatus_full (s : State) (h : s.hasPlace = false) : s.offerStatus = s := by
  unfold State.offerStatus
  split
  · rw [s.request_full _ _ h]
    dsimp only
    split <;> rfl
  · rfl

theorem State.offerYaw_full (s : State) (kind : Kind) (l : List HeldYaw) (h : s.hasPlace = false) :
    s.offerYaw kind l = { s with ywc := { s.ywc with held := l } } := by
  induction l with
  | nil => rfl
  | cons x xs ih => simp only [State.offerYaw, h, Bool.and_false, Bool.false_eq_true, if_false, ih]

theorem State.offerNotices_full (s : State) (l : List HeldNotice) (h : s.hasPlace = false)
    (hl : ∀ x ∈ l, (entryNumbered x.number s.flu.log).isSome = true) :
    s.offerNotices l = { s with flu := { s.flu with held := l } } := by
  induction l with
  | nil => rfl
  | cons x xs ih =>
    obtain ⟨e, he⟩ := Option.isSome_iff_exists.mp (hl x List.mem_cons_self)
    simp only [State.offerNotices, he, h, Bool.false_eq_true, if_false, ih (fun y hy => hl y (List.mem_cons_of_mem x hy))]

theorem State.inService_isSome {s : State} {n : Nat} (h : (s.inService n).isSome = true) :
    (entryNumbered n s.flu.log).isSome = true := by
  unfold State.inService at h
  split at h
  · rename_i e he
    rw [he]
    rfl
  · cases h

/-- On a full queue the place-free indication drops what is obsolete and no more. -/
theorem State.placeFree_full (s : State) (h : s.hasPlace = false) : s.placeFree = s.dropStaleHeld.noteHolders := by
  have hp : s.dropStaleHeld.hasPlace = false := h
  have hf : ∀ x ∈ s.dropStaleHeld.flu.held, (entryNumbered x.number s.dropStaleHeld.flu.log).isSome = true := fun x hx =>
    State.inService_isSome (s := s) (List.mem_filter.mp hx).2
  unfold State.placeFree
  generalize s.dropStaleHeld = t at hp hf ⊢
  simp only [t.offerTrip_full hp, t.offerYaw_full _ _ hp, t.offerPump_full hp, t.offerStatus_full hp,
    t.offerNotices_full _ hp hf]

/-- Where every held request stands and the record of holders is up to date, nothing changes. -/
theorem State.placeFree_stands (s : State) (h : s.hasPlace = false) (hy : ∀ x ∈ s.ywc.held, s.ywc.keepsHeld x = true)
    (hf : ∀ x ∈ s.flu.held, (s.inService x.number).isSome = true) (hn : s.noteHolders = s) : s.placeFree = s := by
  have hd : s.dropStaleHeld = s := by
    simp only [State.dropStaleHeld, List.filter_eq_self.mpr hy, List.filter_eq_self.mpr hf]
  rw [s.placeFree_full h, hd, hn]

/-! ### The place-free indication with nothing held -/

theorem State.noteHolders_nothing {s : State} (h : s.NothingHeld) : s.noteHolders = s := by
  obtain ⟨ht, hy, hp, hf, hs, hh⟩ := h
  unfold State.noteHolders
  rw [ht, hy, hp, hf]
  simp only [Option.isSome_none, List.isEmpty_nil, Bool.not_true, ← hh]

/-- With nothing held the place-free indication changes nothing. -/
theorem State.placeFree_nothing {s : State} (h : s.NothingHeld) : s.placeFree = s := by
  have hn := State.noteHolders_nothing h
  obtain ⟨ht, hy, hp, hf, hs, hh⟩ := h
  have hyw : ({ s.ywc with held := [] } : Ywc) = s.ywc := by rw [← hy]
  have hfl : ({ s.flu with held := [] } : Flu) = s.flu := by rw [← hf]
  have hd : s.dropStaleHeld = s := by
    simp only [State.dropStaleHeld, hy, hf, List.filter_nil, hyw, hfl]
  have htrip : s.offerTrip = s := by simp only [State.offerTrip, ht]
  have hpump : s.offerPump = s := by simp only [State.offerPump, hp]
  have hstatus : s.offerStatus = s := by simp only [State.offerStatus, hs]
  have hyaw (k : Kind) : s.offerYaw k s.ywc.held = s := by simp only [hy, State.offerYaw, hyw]
  have hnotice : s.offerNotices s.flu.held = s := by simp only [hf, State.offerNotices, hfl]
  simp only [State.placeFree, hd, htrip, hyaw, hpump, hstatus, hnotice, hn]

end Sys2Proof.Machine
end

section
/-! PROOFS. Where a new frame enters the queue, and what a discard notice does on a full one (01 R7 to R11; 11 R187). -/

namespace Sys2Proof.Machine

/-! ### Announcement on a full queue -/

theorem entryNumbered_setReport {n : Nat} {r : Report} {log : List Entry} {e : Entry} (he : e ∈ log) (hn : e.number = n) :
    ∃ x, entryNumbered n (setReport n r log) = some x ∧ x.report = r := by
  have hmem : ∃ x ∈ setReport n r log, (x.number == n) = true := by
    refine ⟨{ e with report := r }, List.mem_map.mpr ⟨e, he, if_pos hn⟩, ?_⟩
    simp [hn]
  obtain ⟨x, hx⟩ := Option.isSome_iff_exists.mp (List.find?_isSome.mpr hmem)
  refine ⟨x, hx, ?_⟩
  have hxn : x.number = n := by simpa using List.find?_some hx
  obtain ⟨y, _, hy⟩ := List.mem_map.mp (List.mem_of_find?_eq_some hx)
  by_cases hyn : y.number = n
  · rw [if_pos hyn] at hy
    rw [← hy]
  · rw [if_neg hyn] at hy
    exact absurd (hy ▸ hxn) hyn

theorem selected_mem {log : List Entry} {e : Entry} (h : selected log = some e) : e ∈ log := by
  unfold selected at h
  split at h
  · cases h
  · split at h
    · cases h
    · exact List.mem_of_find?_eq_some h

/-- What stands after the FLU's work on a queue that stays full: the queue, the other blocks, and held requests that name
entries IN_SERVICE. -/
structure State.FullStands (s t : State) : Prop where
  queue : t.lif.queue = s.lif.queue
  ywc : t.ywc = s.ywc
  held : ∀ x ∈ t.flu.held, (t.inService x.number).isSome = true
  holders : t.noteHolders = t

theorem State.requestNotice_full (s : State) (e : Entry) (h : s.hasPlace = false) (hf : s.flu.held = []) :
    s.requestNotice e = State.noteHolders { s with flu := { s.flu with held := [HeldNotice.mk e.number e.cls] } } := by
  simp only [State.requestNotice, s.request_full _ _ h, hf, List.any_nil, Bool.or_self, Bool.false_eq_true, if_false,
    List.filter_nil, List.nil_append]

theorem State.announce_full (s : State) (e : Entry) (h : s.hasPlace = false) (he : e ∈ s.flu.log) (hf : s.flu.held = []) :
    s.FullStands (s.announce e) := by
  have ha : s.announce e = State.noteHolders { s with flu := { s.flu with
      log := setReport e.number .inService s.flu.log, held := [HeldNotice.mk e.number e.cls] } } :=
    State.requestNotice_full _ e (by exact h) (by exact hf)
  rw [ha]
  refine ⟨rfl, rfl, fun x hx => ?_, rfl⟩
  have hxe : x = HeldNotice.mk e.number e.cls := List.mem_singleton.mp hx
  obtain ⟨y, hy, hyr⟩ := entryNumbered_setReport (r := .inService) he rfl
  have hi : State.inService { s with flu := { s.flu with log := setReport e.number .inService s.flu.log } } e.number = some y := by
    simp only [State.inService, hy, hyr, if_true]
  rw [hxe]
  exact Option.isSome_iff_exists.mpr ⟨y, hi⟩

theorem State.NothingHeld.fullStands {s : State} (hh : s.NothingHeld) : s.FullStands s :=
  ⟨rfl, rfl, fun x hx => (by rw [hh.2.2.2.1] at hx; cases hx), State.noteHolders_nothing hh⟩

theorem State.select_full (s : State) (h : s.hasPlace = false) (hh : s.NothingHeld) : s.FullStands s.select := by
  unfold State.select
  split
  · split
    · exact s.announce_full _ h (selected_mem ‹_›) hh.2.2.2.1
    · exact hh.fullStands
  · exact hh.fullStands

theorem State.discardNotice_full (s : State) (f : QueuedFrame) (h : s.hasPlace = false) (hh : s.NothingHeld) :
    s.FullStands (s.discardNotice f) := by
  -- a selection after work on the log and the repeat timers
  have selects (t : State) (hl : t.lif = s.lif) (hy : t.ywc = s.ywc) (hp : t.hasPlace = false) (ht : t.NothingHeld) :
      s.FullStands t.select := by
    obtain ⟨kq, ky, kh, kn⟩ := t.select_full hp ht
    exact ⟨kq.trans (congrArg Lif.queue hl), ky.trans hy, kh, kn⟩
  unfold State.discardNotice
  split
  · unfold State.noticeDiscarded
    split
    · exact selects _ rfl rfl h hh
    · exact hh.fullStands
  · exact hh.fullStands

theorem State.FullStands.placeFree {s t : State} (k : s.FullStands t) (h : s.hasPlace = false) (hh : s.NothingHeld) :
    t.placeFree = t := by
  obtain ⟨_, hy, _, _, _, _⟩ := hh
  refine t.placeFree_stands ?_ (fun x hx => ?_) k.held k.holders
  · rw [State.hasPlace, k.queue]
    exact h
  · rw [k.ywc, hy] at hx
    cases hx

/-- Settles O16: the order of entry, the displaced frame, and the requests by what the queue holds. -/
theorem transmitQueuePlaces : Obligations.QueuePlaces := by
  refine ⟨insertFrame_split, fun kind q => ⟨displaced_none kind q, fun f rest => displaced_some⟩, fun kind payload s hi => ?_⟩
  dsimp only
  refine ⟨fun hlt => ?_, fun hge => ?_⟩
  · have hp := s.hasPlace_iff.mpr hlt
    rw [s.request_place _ _ hp, s.requestUrgent_place _ _ hp, s.enqueue_busy _ _ hi]
    exact ⟨rfl, rfl⟩
  · have hp := State.hasPlace_false hge
    refine ⟨s.request_full _ _ hp, s.requestUrgent_none _ _ hp, fun f rest hd hh => ?_⟩
    obtain ⟨a, b, hq, hr, _⟩ := displaced_some hd
    have hfull : 8 ≤ (insertFrame (s.newFrame kind payload) rest).length := by
      rw [length_insertFrame, hr]
      rw [hq] at hge
      simp only [List.length_append, List.length_cons] at hge ⊢
      omega
    have he : State.enqueue { s with lif := { s.lif with queue := rest } } kind payload =
        { s with lif := { s.lif with queue := insertFrame (s.newFrame kind payload) rest } } :=
      State.enqueue_busy _ _ _ (by exact hi)
    have hu := s.requestUrgent_some kind payload f rest hp hd
    rw [he] at hu
    generalize ht : ({ s with lif := { s.lif with queue := insertFrame (s.newFrame kind payload) rest } } : State) = t at hu ⊢
    have htp : t.hasPlace = false := by
      rw [← ht]
      exact State.hasPlace_false hfull
    have hth : t.NothingHeld := by
      rw [← ht]
      exact hh
    have hts (n : Nat) : t.inService n = s.inService n := by rw [← ht]; rfl
    have hk := t.discardNotice_full f htp hth
    rw [hk.placeFree htp hth] at hu
    refine ⟨hu, fun hn => ?_, fun n e _ _ _ => ⟨_, hu, ?_⟩⟩
    · have hd : t.discardNotice f = t := by
        unfold State.discardNotice
        split
        · rename_i n hkind hnum
          rcases hn with hn | hn
          · exact absurd hkind hn
          · simp only [State.noticeDiscarded, hts, hn n hnum]
        · rfl
      rw [hu, hd]
    · rw [hk.queue, ← ht]

end Sys2Proof.Machine
end

section
/-! SUPPORT. The place-free indication (01 R8, R9): the offers that go into the free places and those that are still held. -/

namespace Sys2Proof.Machine

/-! ### Offers into the free places of a queue -/

/-- The queue after the first of some offers have gone into its free places, in a state's frames. -/
def State.putIn (s : State) (q : List QueuedFrame) (os : List Offer) : List QueuedFrame :=
  (os.take (8 - q.length)).foldl (fun q (o : Offer) => insertFrame (s.newFrame o.kind o.payload) q) q

/-- The offers for which the queue has no place. -/
def leftOver (q : List QueuedFrame) (os : List Offer) : List Offer := os.drop (8 - q.length)

theorem State.putIn_cons (s : State) (q : List QueuedFrame) (o : Offer) (os : List Offer) :
    s.putIn q (o :: os) = if q.length < 8 then s.putIn (insertFrame (s.newFrame o.kind o.payload) q) os else q := by
  unfold State.putIn
  split
  · rename_i h
    rw [length_insertFrame, show 8 - q.length = (8 - (q.length + 1)) + 1 by omega]
    rfl
  · rename_i h
    rw [show 8 - q.length = 0 by omega]
    rfl

theorem leftOver_cons (s : State) (q : List QueuedFrame) (o : Offer) (os : List Offer) :
    leftOver q (o :: os) =
      if q.length < 8 then leftOver (insertFrame (s.newFrame o.kind o.payload) q) os else o :: os := by
  unfold leftOver
  split
  · rename_i h
    rw [length_insertFrame, show 8 - q.length = (8 - (q.length + 1)) + 1 by omega]
    rfl
  · rename_i h
    rw [show 8 - q.length = 0 by omega]
    rfl

theorem State.putIn_nil (s : State) (q : List QueuedFrame) : s.putIn q [] = q := by simp [State.putIn]

theorem leftOver_nil (q : List QueuedFrame) : leftOver q [] = [] := by simp [leftOver]

theorem State.putIn_full (s : State) (q : List QueuedFrame) (os : List Offer) (h : ¬ q.length < 8) : s.putIn q os = q := by
  rw [State.putIn, show 8 - q.length = 0 by omega]
  rfl

theorem leftOver_full (q : List QueuedFrame) (os : List Offer) (h : ¬ q.length < 8) : leftOver q os = os := by
  rw [leftOver, show 8 - q.length = 0 by omega]
  rfl

/-- Offers one group after the other go in as all of them together. -/
theorem State.putIn_append (s : State) (q : List QueuedFrame) (os ps : List Offer) :
    s.putIn q (os ++ ps) = s.putIn (s.putIn q os) ps ∧ leftOver q (os ++ ps) = leftOver q os ++ leftOver (s.putIn q os) ps := by
  induction os generalizing q with
  | nil => simp [State.putIn_nil, leftOver_nil]
  | cons o os ih =>
    rw [List.cons_append, State.putIn_cons, State.putIn_cons, leftOver_cons s, leftOver_cons s]
    split
    · exact ih _
    · rename_i h
      rw [s.putIn_full q ps h, leftOver_full q ps h]
      exact ⟨rfl, rfl⟩

theorem hasStatus_insertFrame (f : QueuedFrame) (q : List QueuedFrame) :
    (insertFrame f q).any (fun g => g.kind == .status) = (f.kind == .status || q.any (fun g => g.kind == .status)) := by
  induction q with
  | nil => rfl
  | cons x xs ih =>
    unfold insertFrame
    split
    · rfl
    · rw [List.any_cons, ih, List.any_cons, Bool.or_left_comm]

/-- Offers of other kinds bring no STATUS into a queue. -/
theorem State.putIn_hasStatus (s : State) (q : List QueuedFrame) (os : List Offer) (h : ∀ o ∈ os, o.kind ≠ .status) :
    (s.putIn q os).any (fun g => g.kind == .status) = q.any (fun g => g.kind == .status) := by
  induction os generalizing q with
  | nil => rw [s.putIn_nil]
  | cons o os ih =>
    rw [State.putIn_cons]
    split
    · have ho : (o.kind == .status) = false := by simpa using h o List.mem_cons_self
      rw [ih _ (fun p hp => h p (List.mem_cons_of_mem o hp)), hasStatus_insertFrame]
      exact (congrArg (· || _) ho).trans (Bool.false_or _)
    · rfl

/-! ### What blocks hold -/

/-- What blocks hold, with the queue and the STATUS place. -/
structure Holdings where
  queue : List QueuedFrame
  trip : Option (List Byte)
  yaw : List HeldYaw
  pump : Option (List Byte)
  place : Option (List Byte)
  notices : List HeldNotice

/-- A state with other holdings. -/
def State.holding (s : State) (x : Holdings) : State :=
  { s with
    lif := { s.lif with queue := x.queue, statusPlace := x.place }
    stc := { s.stc with heldTrip := x.trip }
    ywc := { s.ywc with held := x.yaw }
    clc := { s.clc with heldPump := x.pump }
    flu := { s.flu with held := x.notices } }

theorem State.holding_enqueue (s : State) (x : Holdings) (k : Kind) (p : List Byte) (hi : s.lif.lineIdle = false) :
    (s.holding x).enqueue k p = s.holding { x with queue := insertFrame (s.newFrame k p) x.queue } :=
  State.enqueue_busy _ _ _ (by exact hi)

/-! ### One held request -/

/-- The offer of a request that may be held. -/
def offerOf (k : Kind) (p : Option (List Byte)) : List Offer := p.toList.map (Offer.mk k)

/-- A request that may be held, after its offer to a queue. -/
def heldAfter (q : List QueuedFrame) (p : Option (List Byte)) : Option (List Byte) := if q.length < 8 then none else p

theorem heldAfter_none (q : List QueuedFrame) : heldAfter q none = none := by
  unfold heldAfter
  split <;> rfl

theorem offerOf_heldAfter (k : Kind) (q : List QueuedFrame) (p : Option (List Byte)) :
    offerOf k (heldAfter q p) = leftOver q (offerOf k p) := by
  cases p with
  | none =>
    rw [heldAfter_none]
    exact (leftOver_nil q).symm
  | some p =>
    unfold heldAfter leftOver
    split
    · rename_i h
      rw [show 8 - q.length = (7 - q.length) + 1 by omega]
      simp [offerOf]
    · rename_i h
      rw [show 8 - q.length = 0 by omega]
      rfl

theorem State.putIn_one (s : State) (q : List QueuedFrame) (k : Kind) (p : List Byte) :
    s.putIn q (offerOf k (some p)) = if q.length < 8 then insertFrame (s.newFrame k p) q else q := by
  have h : offerOf k (some p) = [Offer.mk k p] := rfl
  rw [h, State.putIn_cons, State.putIn_nil]

/-- Holdings after the held trip notice has been offered. -/
def State.afterTrip (s : State) (x : Holdings) : Holdings :=
  { x with queue := s.putIn x.queue (offerOf .tripNotice x.trip), trip := heldAfter x.queue x.trip }

theorem State.offerTrip_taken (s : State) (p : List Byte) (h : s.stc.heldTrip = some p) (hp : s.hasPlace = true) :
    s.offerTrip = { s.enqueue .tripNotice p with stc := { s.stc with heldTrip := none } } := by
  simp only [State.offerTrip, h, s.request_place _ _ hp, if_true]
  rfl

theorem State.holding_offerTrip (s : State) (x : Holdings) (hi : s.lif.lineIdle = false) :
    (s.holding x).offerTrip = s.holding (s.afterTrip x) := by
  unfold State.afterTrip
  obtain ⟨q, trip, yaw, pump, place, notices⟩ := x
  cases trip with
  | none => exact congrArg s.holding (by rw [heldAfter_none, show offerOf .tripNotice none = [] from rfl, s.putIn_nil])
  | some p =>
    by_cases hq : q.length < 8
    · rw [State.offerTrip_taken _ p rfl ((State.hasPlace_iff _).mpr hq), s.holding_enqueue _ _ _ hi]
      refine congrArg s.holding (a₁ := ⟨insertFrame (s.newFrame .tripNotice p) q, none, yaw, pump, place, notices⟩) ?_
      simp only [s.putIn_one, heldAfter, if_pos hq]
    · rw [State.offerTrip_full _ (State.hasPlace_false (Nat.not_lt.mp hq))]
      exact congrArg s.holding (by simp only [s.putIn_one, heldAfter, if_neg hq])

/-- Holdings after the held pump report has been offered. -/
def State.afterPump (s : State) (x : Holdings) : Holdings :=
  { x with queue := s.putIn x.queue (offerOf .pumpState x.pump), pump := heldAfter x.queue x.pump }

theorem State.offerPump_taken (s : State) (p : List Byte) (h : s.clc.heldPump = some p) (hp : s.hasPlace = true) :
    s.offerPump = { s.enqueue .pumpState p with clc := { s.clc with heldPump := none } } := by
  simp only [State.offerPump, h, s.request_place _ _ hp, if_true]
  rfl

theorem State.holding_offerPump (s : State) (x : Holdings) (hi : s.lif.lineIdle = false) :
    (s.holding x).offerPump = s.holding (s.afterPump x) := by
  unfold State.afterPump
  obtain ⟨q, trip, yaw, pump, place, notices⟩ := x
  cases pump with
  | none => exact congrArg s.holding (by rw [heldAfter_none, show offerOf .pumpState none = [] from rfl, s.putIn_nil])
  | some p =>
    by_cases hq : q.length < 8
    · rw [State.offerPump_taken _ p rfl ((State.hasPlace_iff _).mpr hq), s.holding_enqueue _ _ _ hi]
      refine congrArg s.holding (a₁ := ⟨insertFrame (s.newFrame .pumpState p) q, trip, yaw, none, place, notices⟩) ?_
      simp only [s.putIn_one, heldAfter, if_pos hq]
    · rw [State.offerPump_full _ (State.hasPlace_false (Nat.not_lt.mp hq))]
      exact congrArg s.holding (by simp only [s.putIn_one, heldAfter, if_neg hq])

/-- The offer of the STATUS place: none while the queue holds a STATUS (01 R12). -/
def statusOffer (x : Holdings) : List Offer :=
  if x.queue.any (fun f => f.kind == .status) then [] else offerOf .status x.place

/-- The STATUS place after its offer. -/
def placeAfter (x : Holdings) : Option (List Byte) :=
  if x.queue.any (fun f => f.kind == .status) then x.place else heldAfter x.queue x.place

/-- Holdings after the STATUS place has been offered. -/
def State.afterStatus (s : State) (x : Holdings) : Holdings :=
  { x with queue := s.putIn x.queue (statusOffer x), place := placeAfter x }

theorem State.offerStatus_taken (s : State) (p : List Byte) (h : s.lif.statusPlace = some p) (hs : s.lif.hasStatus = false)
    (hp : s.hasPlace = true) :
    s.offerStatus = { s.enqueue .status p with lif := { (s.enqueue .status p).lif with statusPlace := none } } := by
  simp only [State.offerStatus, h, hs, s.request_place _ _ hp, Bool.false_eq_true, if_false, if_true]

theorem State.offerStatus_none (s : State) (h : s.lif.statusPlace = none ∨ s.lif.hasStatus = true) : s.offerStatus = s := by
  unfold State.offerStatus
  split
  · rename_i p hp
    rcases h with h | h
    · exact absurd (h.symm.trans hp) (by simp)
    · rw [if_pos h]
  · rfl

theorem State.holding_offerStatus (s : State) (x : Holdings) (hi : s.lif.lineIdle = false) :
    (s.holding x).offerStatus = s.holding (s.afterStatus x) := by
  unfold State.afterStatus
  obtain ⟨q, trip, yaw, pump, place, notices⟩ := x
  by_cases hs : q.any (fun f => f.kind == .status) = true
  · rw [State.offerStatus_none _ (.inr (by exact hs))]
    exact congrArg s.holding (by simp only [statusOffer, placeAfter, if_pos hs, s.putIn_nil])
  · cases place with
    | none =>
      rw [State.offerStatus_none _ (.inl rfl)]
      exact congrArg s.holding (by
        simp only [statusOffer, placeAfter, if_neg hs, heldAfter_none, show offerOf .status none = [] from rfl, s.putIn_nil])
    | some p =>
      by_cases hq : q.length < 8
      · rw [State.offerStatus_taken _ p rfl (Bool.not_eq_true _ ▸ hs) ((State.hasPlace_iff _).mpr hq),
          s.holding_enqueue _ _ _ hi]
        refine congrArg s.holding (a₁ := ⟨insertFrame (s.newFrame .status p) q, trip, yaw, pump, none, notices⟩) ?_
        simp only [statusOffer, placeAfter, if_neg hs, s.putIn_one, heldAfter, if_pos hq]
      · rw [State.offerStatus_full _ (State.hasPlace_false (Nat.not_lt.mp hq))]
        exact congrArg s.holding (by simp only [statusOffer, placeAfter, if_neg hs, s.putIn_one, heldAfter, if_neg hq])

/-! ### The held yaw requests -/

/-- The offers of the held yaw requests of a kind. -/
def yawOffers (k : Kind) (l : List HeldYaw) : List Offer := (l.filter (fun h => decide (h.kind = k))).map (fun h => ⟨k, h.payload⟩)

/-- The held yaw requests after those of a kind have been offered to so many places. -/
def yawAfter (k : Kind) : Nat → List HeldYaw → List HeldYaw
  | _, [] => []
  | n, h :: rest => if h.kind = k ∧ 0 < n then yawAfter k (n - 1) rest else h :: yawAfter k n rest

theorem yawAfter_subset (k : Kind) (n : Nat) (l : List HeldYaw) : ∀ h ∈ yawAfter k n l, h ∈ l := by
  induction l generalizing n with
  | nil => exact fun h hh => hh
  | cons x xs ih =>
    intro h hh
    unfold yawAfter at hh
    split at hh
    · exact List.mem_cons_of_mem x (ih _ h hh)
    · rcases List.mem_cons.mp hh with rfl | hh
      · exact List.mem_cons_self
      · exact List.mem_cons_of_mem x (ih _ h hh)

theorem yawOffers_cons (k : Kind) (h : HeldYaw) (l : List HeldYaw) :
    yawOffers k (h :: l) = if h.kind = k then ⟨k, h.payload⟩ :: yawOffers k l else yawOffers k l := by
  unfold yawOffers
  split <;> rename_i hk <;> simp [hk]

theorem yawOffers_after (k : Kind) (n : Nat) (l : List HeldYaw) : yawOffers k (yawAfter k n l) = (yawOffers k l).drop n := by
  induction l generalizing n with
  | nil => simp [yawAfter, yawOffers]
  | cons x xs ih =>
    unfold yawAfter
    by_cases hk : x.kind = k
    · cases n with
      | zero => simp [hk, yawOffers_cons, ih]
      | succ n => simp [hk, yawOffers_cons, ih]
    · simp [hk, yawOffers_cons, ih]

theorem yawOffers_after_other {k k' : Kind} (hne : k' ≠ k) (n : Nat) (l : List HeldYaw) :
    yawOffers k' (yawAfter k n l) = yawOffers k' l := by
  induction l generalizing n with
  | nil => rfl
  | cons x xs ih =>
    unfold yawAfter
    split
    · rename_i h
      rw [ih, yawOffers_cons, if_neg (by rw [h.1]; exact hne.symm)]
    · rw [yawOffers_cons, yawOffers_cons, ih]

theorem State.holding_offerYaw (s : State) (x : Holdings) (k : Kind) (l : List HeldYaw) (hi : s.lif.lineIdle = false) :
    (s.holding x).offerYaw k l = s.holding { x with
      queue := s.putIn x.queue (yawOffers k l), yaw := yawAfter k (8 - x.queue.length) l } := by
  induction l generalizing x with
  | nil => rw [show yawOffers k [] = [] from rfl, s.putIn_nil]; rfl
  | cons h rest ih =>
    have hp : (s.holding x).hasPlace = decide (x.queue.length < 8) := rfl
    unfold State.offerYaw yawAfter
    rw [hp, yawOffers_cons]
    by_cases hk : h.kind = k
    · by_cases hq : x.queue.length < 8
      · have hlen : 8 - (insertFrame (s.newFrame k h.payload) x.queue).length = 8 - x.queue.length - 1 := by
          rw [length_insertFrame]
          omega
        rw [if_pos (by simp [hk, hq]), if_pos (show h.kind = k ∧ 0 < 8 - x.queue.length from ⟨hk, by omega⟩), if_pos hk, s.holding_enqueue _ _ _ hi, ih, State.putIn_cons,
          if_pos hq]
        simp only [hlen]
      · rw [if_neg (by simp [hq]), if_neg (show ¬ (h.kind = k ∧ 0 < 8 - x.queue.length) by omega), if_pos hk, ih, s.putIn_full _ _ hq, s.putIn_full _ _ hq]
        rfl
    · rw [if_neg (by simp [hk]), if_neg (show ¬ (h.kind = k ∧ 0 < 8 - x.queue.length) from fun hc => hk hc.1), if_neg hk, ih]
      rfl

/-- Holdings after the held yaw requests of a kind have been offered. -/
def State.afterYaw (s : State) (k : Kind) (x : Holdings) : Holdings :=
  { x with queue := s.putIn x.queue (yawOffers k x.yaw), yaw := yawAfter k (8 - x.queue.length) x.yaw }

theorem State.holding_offerYaw_all (s : State) (x : Holdings) (k : Kind) (hi : s.lif.lineIdle = false) :
    (s.holding x).offerYaw k (s.holding x).ywc.held = s.holding (s.afterYaw k x) := s.holding_offerYaw x k x.yaw hi

/-! ### The held notices -/

/-- The offers of held notices. -/
def State.noticeOffers (s : State) (l : List HeldNotice) : List Offer :=
  l.filterMap (fun h => (s.inService h.number).map (fun e => ⟨.faultNotice, encodeNotice e⟩))

theorem State.noticeOffers_drop (s : State) (n : Nat) (l : List HeldNotice)
    (hl : ∀ h ∈ l, (s.inService h.number).isSome = true) : s.noticeOffers (l.drop n) = (s.noticeOffers l).drop n := by
  induction l generalizing n with
  | nil => simp [State.noticeOffers]
  | cons x xs ih =>
    cases n with
    | zero => rfl
    | succ n =>
      obtain ⟨e, he⟩ := Option.isSome_iff_exists.mp (hl x List.mem_cons_self)
      have ih' := ih n (fun h hh => hl h (List.mem_cons_of_mem x hh))
      unfold State.noticeOffers at ih' ⊢
      rw [List.drop_succ_cons, ih', List.filterMap_cons_some (by rw [he]; rfl), List.drop_succ_cons]

theorem State.inService_entry {s : State} {n : Nat} {e : Entry} (h : s.inService n = some e) :
    entryNumbered n s.flu.log = some e := by
  unfold State.inService at h
  split at h
  · split at h
    · rename_i x hx _
      rw [hx]
      exact h
    · cases h
  · cases h

theorem State.holding_offerNotices (s : State) (x : Holdings) (l : List HeldNotice) (hi : s.lif.lineIdle = false)
    (hl : ∀ h ∈ l, (s.inService h.number).isSome = true) :
    (s.holding x).offerNotices l = s.holding { x with
      queue := s.putIn x.queue (s.noticeOffers l), notices := l.drop (8 - x.queue.length) } := by
  induction l generalizing x with
  | nil => rw [show s.noticeOffers [] = [] from rfl, s.putIn_nil, List.drop_nil]; rfl
  | cons h rest ih =>
    obtain ⟨e, he⟩ := Option.isSome_iff_exists.mp (hl h List.mem_cons_self)
    have ih' := fun y => ih y (fun z hz => hl z (List.mem_cons_of_mem h hz))
    have hn : s.noticeOffers (h :: rest) = ⟨.faultNotice, encodeNotice e⟩ :: s.noticeOffers rest := by
      unfold State.noticeOffers
      rw [List.filterMap_cons_some (by rw [he]; rfl)]
    have hp : (s.holding x).hasPlace = decide (x.queue.length < 8) := rfl
    have hx : entryNumbered h.number (s.holding x).flu.log = some e := State.inService_entry he
    unfold State.offerNotices
    simp only [hx]
    rw [hp, hn, State.putIn_cons]
    by_cases hq : x.queue.length < 8
    · rw [if_pos (decide_eq_true hq), if_pos hq, s.holding_enqueue _ _ _ hi, ih', length_insertFrame,
        show 8 - x.queue.length = 8 - (x.queue.length + 1) + 1 by omega, List.drop_succ_cons]
    · rw [if_neg (by simpa using hq), if_neg hq, ih', s.putIn_full _ _ hq, show 8 - x.queue.length = 0 by omega]
      rfl

/-- Holdings after the held notices have been offered. -/
def State.afterNotices (s : State) (x : Holdings) : Holdings :=
  { x with queue := s.putIn x.queue (s.noticeOffers x.notices), notices := x.notices.drop (8 - x.queue.length) }

theorem State.holding_offerNotices_all (s : State) (x : Holdings) (hi : s.lif.lineIdle = false)
    (hn : ∀ h ∈ x.notices, (s.inService h.number).isSome = true) :
    (s.holding x).offerNotices (s.holding x).flu.held = s.holding (s.afterNotices x) :=
  s.holding_offerNotices x x.notices hi hn

/-! ### What the offer of one group leaves of the others -/

theorem State.afterTrip_rest (s : State) (x : Holdings) : (s.afterTrip x).yaw = x.yaw ∧ (s.afterTrip x).pump = x.pump ∧
    (s.afterTrip x).place = x.place ∧ (s.afterTrip x).notices = x.notices := ⟨rfl, rfl, rfl, rfl⟩

theorem State.afterYaw_rest (s : State) (k : Kind) (x : Holdings) : (s.afterYaw k x).trip = x.trip ∧
    (s.afterYaw k x).pump = x.pump ∧ (s.afterYaw k x).place = x.place ∧ (s.afterYaw k x).notices = x.notices :=
  ⟨rfl, rfl, rfl, rfl⟩

theorem State.afterPump_rest (s : State) (x : Holdings) : (s.afterPump x).trip = x.trip ∧ (s.afterPump x).yaw = x.yaw ∧
    (s.afterPump x).place = x.place ∧ (s.afterPump x).notices = x.notices := ⟨rfl, rfl, rfl, rfl⟩

theorem State.afterStatus_rest (s : State) (x : Holdings) : (s.afterStatus x).trip = x.trip ∧
    (s.afterStatus x).yaw = x.yaw ∧ (s.afterStatus x).pump = x.pump ∧ (s.afterStatus x).notices = x.notices :=
  ⟨rfl, rfl, rfl, rfl⟩

theorem State.afterNotices_rest (s : State) (x : Holdings) : (s.afterNotices x).trip = x.trip ∧
    (s.afterNotices x).yaw = x.yaw ∧ (s.afterNotices x).pump = x.pump ∧ (s.afterNotices x).place = x.place :=
  ⟨rfl, rfl, rfl, rfl⟩

end Sys2Proof.Machine
end

section
/-! PROOFS. The place-free indication as a whole, a frame gone out and a sixteenth failed attempt (01 R5, R6, R8, R9, R12). -/

namespace Sys2Proof.Machine

/-! ### The offers of what is held -/

/-- The offers of what blocks hold, in ascending kind code. -/
def State.offersOf (s : State) (x : Holdings) : List Offer :=
  offerOf .tripNotice x.trip ++ yawOffers .yawHalt x.yaw ++ yawOffers .yawPropose x.yaw ++ yawOffers .yawAnswer x.yaw
    ++ yawOffers .yawCommit x.yaw ++ yawOffers .yawDrive x.yaw ++ offerOf .pumpState x.pump ++ statusOffer x
    ++ s.noticeOffers x.notices

/-- What blocks hold once what is obsolete has been dropped. -/
def State.standingHoldings (s : State) : Holdings where
  queue := s.lif.queue
  trip := s.stc.heldTrip
  yaw := s.ywc.held.filter s.ywc.keepsHeld
  pump := s.clc.heldPump
  place := s.lif.statusPlace
  notices := s.flu.held.filter (fun h => (s.inService h.number).isSome)

theorem State.dropStaleHeld_eq (s : State) : s.dropStaleHeld = s.holding s.standingHoldings := rfl

theorem Ywc.keepsHeld_iff (y : Ywc) (h : HeldYaw) :
    y.keepsHeld h = true ↔ y.proposalRef = some h.ref ∨ y.moveRef = some h.ref := by
  unfold Ywc.keepsHeld Ywc.proposalRef Ywc.moveRef
  cases y.proposal <;> cases y.move <;> simp

/-- The held yaw requests of a kind that a state offers: those that are not obsolete. -/
def State.yawOffered (s : State) (k : Kind) : List Offer :=
  (s.ywc.held.filter (fun h =>
    decide (h.kind = k ∧ (s.ywc.proposalRef = some h.ref ∨ s.ywc.moveRef = some h.ref)))).map (fun h => ⟨k, h.payload⟩)

theorem State.offers_groups (s : State) :
    s.offers = offerOf .tripNotice s.stc.heldTrip ++ s.yawOffered .yawHalt ++ s.yawOffered .yawPropose
      ++ s.yawOffered .yawAnswer ++ s.yawOffered .yawCommit ++ s.yawOffered .yawDrive ++ offerOf .pumpState s.clc.heldPump
      ++ (if s.lif.hasStatus then [] else offerOf .status s.lif.statusPlace) ++ s.noticeOffers s.flu.held := rfl

theorem State.yawOffered_eq (s : State) (k : Kind) : s.yawOffered k = yawOffers k (s.ywc.held.filter s.ywc.keepsHeld) := by
  unfold State.yawOffered yawOffers
  rw [List.filter_filter]
  refine congrArg _ (List.filter_congr (fun h _ => ?_))
  rw [Bool.eq_iff_iff, Bool.and_eq_true, decide_eq_true_iff, decide_eq_true_iff, s.ywc.keepsHeld_iff h]

theorem State.noticeOffers_filter (s : State) (l : List HeldNotice) :
    s.noticeOffers (l.filter (fun h => (s.inService h.number).isSome)) = s.noticeOffers l := by
  unfold State.noticeOffers
  rw [List.filterMap_filter]
  refine congrArg (fun f => l.filterMap f) (funext fun h => ?_)
  cases s.inService h.number <;> rfl

theorem State.offers_eq (s : State) : s.offers = s.offersOf s.standingHoldings := by
  rw [State.offers_groups, State.offersOf, ← s.noticeOffers_filter s.flu.held]
  simp only [State.yawOffered_eq]
  rfl

theorem State.offers_holding (s : State) (x : Holdings) (hy : ∀ h ∈ x.yaw, s.ywc.keepsHeld h = true) :
    (s.holding x).noteHolders.offers = s.offersOf x := by
  have hf : x.yaw.filter s.ywc.keepsHeld = x.yaw := List.filter_eq_self.mpr hy
  have hk (k : Kind) : (s.holding x).noteHolders.yawOffered k = yawOffers k x.yaw := by
    rw [State.yawOffered_eq]
    exact congrArg (yawOffers k) hf
  rw [State.offers_groups, State.offersOf]
  simp only [hk]
  rfl

/-! ### The indication as a whole -/

/-- Holdings after the held yaw requests of every kind have been offered. -/
def State.afterYaws (s : State) (x : Holdings) : Holdings :=
  s.afterYaw .yawDrive (s.afterYaw .yawCommit (s.afterYaw .yawAnswer (s.afterYaw .yawPropose (s.afterYaw .yawHalt x))))

/-- Holdings after everything held has been offered. -/
def State.afterOffers (s : State) (x : Holdings) : Holdings :=
  s.afterNotices (s.afterStatus (s.afterPump (s.afterYaws (s.afterTrip x))))

theorem State.afterYaws_rest (s : State) (x : Holdings) : (s.afterYaws x).trip = x.trip ∧
    (s.afterYaws x).pump = x.pump ∧ (s.afterYaws x).place = x.place ∧ (s.afterYaws x).notices = x.notices := by
  simp only [State.afterYaws, s.afterYaw_rest, and_self]

/-- The place-free indication offers what stands, group by group. -/
theorem State.placeFree_holding (s : State) (hi : s.lif.lineIdle = false) :
    s.placeFree = (s.holding (s.afterOffers s.standingHoldings)).noteHolders := by
  have hn : ∀ h ∈ s.standingHoldings.notices, (s.inService h.number).isSome = true := fun h hh => (List.mem_filter.mp hh).2
  unfold State.placeFree State.afterOffers State.afterYaws
  rw [State.dropStaleHeld_eq, s.holding_offerTrip _ hi]
  dsimp only
  rw [s.holding_offerYaw_all _ _ hi, s.holding_offerYaw_all _ _ hi, s.holding_offerYaw_all _ _ hi,
    s.holding_offerYaw_all _ _ hi, s.holding_offerYaw_all _ _ hi, s.holding_offerPump _ hi, s.holding_offerStatus _ hi,
    s.holding_offerNotices_all _ hi
      (by simpa only [s.afterStatus_rest, s.afterPump_rest, s.afterYaw_rest, s.afterTrip_rest] using hn)]

/-! ### What goes in and what is left, group by group -/

/-- From one set of holdings to another the queue has taken the first of some offers, and those left over are what is
offered of one group afterwards. -/
structure State.Group (s : State) (x y : Holdings) (before after : List Offer) : Prop where
  queue : y.queue = s.putIn x.queue before
  left : after = leftOver x.queue before

theorem State.Group.append {s : State} {x y z : Holdings} {a a' b b' : List Offer} (h : s.Group x y a a')
    (k : s.Group y z b b') : s.Group x z (a ++ b) (a' ++ b') where
  queue := by rw [k.queue, h.queue, (s.putIn_append x.queue a b).1]
  left := by rw [h.left, k.left, h.queue, (s.putIn_append x.queue a b).2]

theorem State.afterYaw_group (s : State) (k : Kind) (x : Holdings) :
    s.Group x (s.afterYaw k x) (yawOffers k x.yaw) (yawOffers k (s.afterYaw k x).yaw) :=
  ⟨rfl, yawOffers_after k _ _⟩

theorem State.afterYaw_other (s : State) {k k' : Kind} (h : k' ≠ k) (x : Holdings) :
    yawOffers k' (s.afterYaw k x).yaw = yawOffers k' x.yaw := yawOffers_after_other h _ _

/-- The yaw requests of the five kinds go in and are left over in their order. -/
theorem State.afterYaws_group (s : State) (x : Holdings) :
    s.Group x (s.afterYaws x)
      (yawOffers .yawHalt x.yaw ++ yawOffers .yawPropose x.yaw ++ yawOffers .yawAnswer x.yaw ++ yawOffers .yawCommit x.yaw
        ++ yawOffers .yawDrive x.yaw)
      (yawOffers .yawHalt (s.afterYaws x).yaw ++ yawOffers .yawPropose (s.afterYaws x).yaw
        ++ yawOffers .yawAnswer (s.afterYaws x).yaw ++ yawOffers .yawCommit (s.afterYaws x).yaw
        ++ yawOffers .yawDrive (s.afterYaws x).yaw) := by
  have h1 := s.afterYaw_group .yawHalt x
  have h2 := s.afterYaw_group .yawPropose (s.afterYaw .yawHalt x)
  have h3 := s.afterYaw_group .yawAnswer (s.afterYaw .yawPropose (s.afterYaw .yawHalt x))
  have h4 := s.afterYaw_group .yawCommit (s.afterYaw .yawAnswer (s.afterYaw .yawPropose (s.afterYaw .yawHalt x)))
  have h5 := s.afterYaw_group .yawDrive
    (s.afterYaw .yawCommit (s.afterYaw .yawAnswer (s.afterYaw .yawPropose (s.afterYaw .yawHalt x))))
  have h := (((h1.append h2).append h3).append h4).append h5
  simpa only [State.afterYaws, s.afterYaw_other (show Kind.yawHalt ≠ .yawPropose by decide),
    s.afterYaw_other (show Kind.yawHalt ≠ .yawAnswer by decide), s.afterYaw_other (show Kind.yawHalt ≠ .yawCommit by decide),
    s.afterYaw_other (show Kind.yawHalt ≠ .yawDrive by decide), s.afterYaw_other (show Kind.yawPropose ≠ .yawHalt by decide),
    s.afterYaw_other (show Kind.yawPropose ≠ .yawAnswer by decide),
    s.afterYaw_other (show Kind.yawPropose ≠ .yawCommit by decide), s.afterYaw_other (show Kind.yawPropose ≠ .yawDrive by decide),
    s.afterYaw_other (show Kind.yawAnswer ≠ .yawHalt by decide), s.afterYaw_other (show Kind.yawAnswer ≠ .yawPropose by decide),
    s.afterYaw_other (show Kind.yawAnswer ≠ .yawCommit by decide), s.afterYaw_other (show Kind.yawAnswer ≠ .yawDrive by decide),
    s.afterYaw_other (show Kind.yawCommit ≠ .yawHalt by decide), s.afterYaw_other (show Kind.yawCommit ≠ .yawPropose by decide),
    s.afterYaw_other (show Kind.yawCommit ≠ .yawAnswer by decide), s.afterYaw_other (show Kind.yawCommit ≠ .yawDrive by decide),
    s.afterYaw_other (show Kind.yawDrive ≠ .yawHalt by decide), s.afterYaw_other (show Kind.yawDrive ≠ .yawPropose by decide),
    s.afterYaw_other (show Kind.yawDrive ≠ .yawAnswer by decide),
    s.afterYaw_other (show Kind.yawDrive ≠ .yawCommit by decide)] using h

theorem State.afterYaws_subset (s : State) (x : Holdings) : ∀ h ∈ (s.afterYaws x).yaw, h ∈ x.yaw := fun h hh =>
  yawAfter_subset _ _ _ h (yawAfter_subset _ _ _ h (yawAfter_subset _ _ _ h (yawAfter_subset _ _ _ h
    (yawAfter_subset _ _ _ h hh))))

/-- The offer of the STATUS place, and what is left of it once the notices have gone in. -/
theorem State.afterStatus_group (s : State) (x : Holdings) (ns : List Offer) (hns : ∀ o ∈ ns, o.kind ≠ .status) :
    s.Group x (s.afterStatus x) (statusOffer x)
      (statusOffer { s.afterStatus x with queue := s.putIn (s.afterStatus x).queue ns }) := by
  refine ⟨rfl, ?_⟩
  have hq : (s.putIn (s.afterStatus x).queue ns).any (fun f => f.kind == .status) =
      (s.afterStatus x).queue.any (fun f => f.kind == .status) := s.putIn_hasStatus _ _ hns
  by_cases hs : x.queue.any (fun f => f.kind == .status) = true
  · have h0 : statusOffer x = [] := if_pos hs
    have h1 : (s.afterStatus x).queue = x.queue := by rw [State.afterStatus, h0, s.putIn_nil]
    rw [h1] at hq
    rw [h0, leftOver_nil, statusOffer, if_pos (by rw [h1, hq]; exact hs)]
  · have h0 : statusOffer x = offerOf .status x.place := if_neg hs
    have hp : (s.afterStatus x).place = heldAfter x.queue x.place := if_neg hs
    rw [h0, ← offerOf_heldAfter, ← hp, statusOffer]
    by_cases ht : (s.afterStatus x).queue.any (fun f => f.kind == .status) = true
    · rw [if_pos (hq.trans ht), hp]
      cases hpl : x.place with
      | none => rw [heldAfter_none]; rfl
      | some p =>
        unfold heldAfter
        by_cases hlen : x.queue.length < 8
        · rw [if_pos hlen]
          rfl
        · have h1 : (s.afterStatus x).queue = x.queue := s.putIn_full _ _ hlen
          exact absurd (h1 ▸ ht) hs
    · rw [if_neg (fun h => ht (hq.symm.trans h))]

theorem State.noticeOffers_kind (s : State) (l : List HeldNotice) : ∀ o ∈ s.noticeOffers l, o.kind ≠ .status := by
  intro o ho
  obtain ⟨h, _, he⟩ := List.mem_filterMap.mp ho
  obtain ⟨e, _, rfl⟩ := Option.map_eq_some_iff.mp he
  exact Kind.noConfusion

theorem yawOffers_kind (k : Kind) (l : List HeldYaw) (hk : k ≠ .status) : ∀ o ∈ yawOffers k l, o.kind ≠ .status := by
  intro o ho
  obtain ⟨h, _, rfl⟩ := List.mem_map.mp ho
  exact hk

theorem offerOf_kind (k : Kind) (p : Option (List Byte)) (hk : k ≠ .status) : ∀ o ∈ offerOf k p, o.kind ≠ .status := by
  intro o ho
  obtain ⟨h, _, rfl⟩ := List.mem_map.mp ho
  exact hk

theorem State.afterYaw_hasStatus (s : State) (k : Kind) (x : Holdings) (hk : k ≠ .status) :
    (s.afterYaw k x).queue.any (fun f => f.kind == .status) = x.queue.any (fun f => f.kind == .status) :=
  s.putIn_hasStatus _ _ (yawOffers_kind _ _ hk)

/-- Neither the trip notice nor the yaw requests nor the pump report bring a STATUS into the queue. -/
theorem State.afterPump_hasStatus (s : State) (x : Holdings) :
    (s.afterPump (s.afterYaws (s.afterTrip x))).queue.any (fun f => f.kind == .status) =
      x.queue.any (fun f => f.kind == .status) := by
  have ht : (s.afterTrip x).queue.any (fun f => f.kind == .status) = x.queue.any (fun f => f.kind == .status) :=
    s.putIn_hasStatus _ _ (offerOf_kind _ _ (by decide))
  have hp (y : Holdings) : (s.afterPump y).queue.any (fun f => f.kind == .status) = y.queue.any (fun f => f.kind == .status) :=
    s.putIn_hasStatus _ _ (offerOf_kind _ _ (by decide))
  rw [hp, State.afterYaws, s.afterYaw_hasStatus _ _ (by decide), s.afterYaw_hasStatus _ _ (by decide),
    s.afterYaw_hasStatus _ _ (by decide), s.afterYaw_hasStatus _ _ (by decide), s.afterYaw_hasStatus _ _ (by decide), ht]

theorem statusOffer_congr {x y : Holdings} (hq : y.queue.any (fun f => f.kind == .status) = x.queue.any (fun f => f.kind == .status))
    (hp : y.place = x.place) : statusOffer y = statusOffer x := by
  unfold statusOffer
  rw [hq, hp]

theorem State.afterNotices_queue (s : State) (x : Holdings) :
    (s.afterNotices x).queue = s.putIn x.queue (s.noticeOffers x.notices) := rfl

/-- All the offers go in and are left over in their order. -/
theorem State.afterOffers_group (s : State) (x : Holdings) (hn : ∀ h ∈ x.notices, (s.inService h.number).isSome = true) :
    s.Group x (s.afterOffers x) (s.offersOf x) (s.offersOf (s.afterOffers x)) := by
  have g1 : s.Group x (s.afterTrip x) (offerOf .tripNotice x.trip) (offerOf .tripNotice (s.afterTrip x).trip) :=
    ⟨rfl, offerOf_heldAfter _ _ _⟩
  have r1 := s.afterTrip_rest x
  have hs3 := s.afterPump_hasStatus x
  unfold State.afterOffers
  generalize s.afterTrip x = y1 at *
  have g2 := s.afterYaws_group y1
  have r2 := s.afterYaws_rest y1
  generalize s.afterYaws y1 = y2 at *
  have g3 : s.Group y2 (s.afterPump y2) (offerOf .pumpState y2.pump) (offerOf .pumpState (s.afterPump y2).pump) :=
    ⟨rfl, offerOf_heldAfter _ _ _⟩
  have r3 := s.afterPump_rest y2
  generalize s.afterPump y2 = y3 at *
  have g4 := s.afterStatus_group y3 (s.noticeOffers x.notices) (s.noticeOffers_kind _)
  have r4 := s.afterStatus_rest y3
  generalize s.afterStatus y3 = y4 at *
  have hy4 : y4.notices = x.notices := by simp only [r4, r3, r2, r1]
  have g5 : s.Group y4 (s.afterNotices y4) (s.noticeOffers y4.notices) (s.noticeOffers (s.afterNotices y4).notices) :=
    ⟨rfl, s.noticeOffers_drop _ _ (hy4 ▸ hn)⟩
  have r5 := s.afterNotices_rest y4
  have q5 := s.afterNotices_queue y4
  generalize s.afterNotices y4 = y5 at *
  have h3 : statusOffer y3 = statusOffer x := statusOffer_congr hs3 (by simp only [r3, r2, r1])
  have h5 : statusOffer { y4 with queue := s.putIn y4.queue (s.noticeOffers x.notices) } = statusOffer y5 :=
    statusOffer_congr (by rw [q5, hy4]) r5.2.2.2.symm
  rw [h3, h5] at g4
  have h := (((g1.append g2).append g3).append g4).append g5
  unfold State.offersOf
  simpa only [← List.append_assoc, r5, r4, r3, r2, r1] using h

theorem State.afterStatus_place (s : State) (x : Holdings) : (s.afterStatus x).place = placeAfter x := rfl

/-- What is held once everything held has been offered, where it is offered again. -/
structure State.OfferedAll (s : State) (x y : Holdings) : Prop where
  group : s.Group x y (s.offersOf x) (s.offersOf y)
  standing : ∀ h ∈ y.yaw, s.ywc.keepsHeld h = true
  place : x.queue.any (fun f => f.kind == .status) = true → y.place = x.place

theorem State.afterOffers_offered (s : State) (x : Holdings) (hn : ∀ h ∈ x.notices, (s.inService h.number).isSome = true)
    (hy : ∀ h ∈ x.yaw, s.ywc.keepsHeld h = true) : s.OfferedAll x (s.afterOffers x) where
  group := s.afterOffers_group x hn
  standing := fun h hh => by
    have e : (s.afterOffers x).yaw = (s.afterYaws (s.afterTrip x)).yaw := by
      simp only [State.afterOffers, s.afterNotices_rest, s.afterStatus_rest, s.afterPump_rest]
    have hm := s.afterYaws_subset _ h (e ▸ hh)
    rw [(s.afterTrip_rest x).1] at hm
    exact hy h hm
  place := fun hs => by
    have hp : (s.afterPump (s.afterYaws (s.afterTrip x))).place = x.place := by
      simp only [s.afterPump_rest, s.afterYaws_rest, s.afterTrip_rest]
    have hq := (s.afterPump_hasStatus x).trans hs
    unfold State.afterOffers
    rw [(s.afterNotices_rest _).2.2.2, s.afterStatus_place]
    generalize s.afterPump (s.afterYaws (s.afterTrip x)) = y at *
    rw [placeAfter, if_pos hq, hp]

/-- The place-free indication, on a line that is not idle, is what `Offered` says (01 R8, R9). -/
theorem State.placeFree_offered (s : State) (hi : s.lif.lineIdle = false) : s.Offered s.placeFree := by
  have hg := s.afterOffers_offered s.standingHoldings (fun h hh => (List.mem_filter.mp hh).2)
    (fun h hh => (List.mem_filter.mp hh).2)
  rw [s.placeFree_holding hi]
  generalize s.afterOffers s.standingHoldings = y at *
  refine ⟨?_, ?_, fun hs => hg.place hs, rfl, rfl⟩
  · rw [s.offers_eq]
    exact hg.group.queue
  · rw [s.offers_eq, s.offers_holding _ hg.standing]
    exact hg.group.left

end Sys2Proof.Machine
end

section
/-! PROOFS. A frame gone out whole, and which entry is announced (01 R6, R9; 11 R183 to R188). -/

namespace Sys2Proof.Machine

/-! ### A frame gone out whole -/

theorem exec_frameGoneOutWhole {s : State} {a b : List QueuedFrame} {f : QueuedFrame} (h : s.lif.Sends a f b) :
    exec .frameGoneOutWhole s =
      .next (State.completionNotice { s with lif := { s.lif with sent := none, queue := a ++ b } } f).placeFree := by
  simp only [exec, execFrameGoneOutWhole, h.inTransmission, h.removeSent]

/-- A completion notice acts on a FAULT_NOTICE alone, and on none whose entry is out of service (11 R186). -/
theorem State.completionNotice_none (s : State) (f : QueuedFrame)
    (h : f.kind ≠ .faultNotice ∨ ∀ n, noticeNumber f.payload = some n → s.inService n = none) : s.completionNotice f = s := by
  unfold State.completionNotice
  split
  · rename_i n hk hn
    rcases h with h | h
    · exact absurd hk h
    · simp only [State.noticeCompleted, h n hn]
  · rfl

theorem State.completionNotice_some (s : State) (f : QueuedFrame) {n : Nat} {e : Entry} (hk : f.kind = .faultNotice)
    (hn : noticeNumber f.payload = some n) (he : s.inService n = some e) :
    s.completionNotice f = { s with flu := { s.flu with repeats := s.flu.repeats.put (some 10000) e.cls } } := by
  simp only [State.completionNotice, hk, hn, State.noticeCompleted, he]
  rfl

/-- Settles O14, by the completion notice and the place-free indication that follows it. -/
theorem frameGoneOut : Obligations.FrameGoneOut := by
  intro s a b f hq hf ho
  have h : s.lif.Sends a f b := ⟨hq, hf, ho⟩
  dsimp only
  rw [exec_frameGoneOutWhole h]
  refine ⟨fun hn => ?_, fun n e hk hn he => ?_⟩
  · rw [State.completionNotice_none _ f (by exact hn)]
    exact ⟨fun hh => congrArg Host.Outcome.next (State.placeFree_nothing (by exact hh)),
      fun hi => ⟨_, rfl, State.placeFree_offered _ (by exact hi)⟩⟩
  · rw [State.completionNotice_some _ f hk hn (e := e) (by exact he)]
    exact ⟨fun hh => congrArg Host.Outcome.next (State.placeFree_nothing (by exact hh)),
      fun hi => ⟨_, rfl, State.placeFree_offered _ (by exact hi)⟩⟩

/-! ### The entry that selection announces -/

/-- The classes in the order of their urgency: what is found first is the most urgent. -/
theorem find_class_some {p : FaultClass → Bool} {c : FaultClass}
    (h : [FaultClass.critical, .major, .minor, .info].find? p = some c) :
    p c = true ∧ ∀ d, p d = true → classRank c ≤ classRank d := by
  refine ⟨List.find?_some h, fun d hd => ?_⟩
  obtain ⟨_, a, b, hab, ha⟩ := List.find?_eq_some_iff_append.mp h
  have hs : [FaultClass.critical, .major, .minor, .info].Pairwise (fun x y => classRank x < classRank y) := by decide
  have hm : d ∈ [FaultClass.critical, .major, .minor, .info] := by cases d <;> simp
  rw [hab] at hm hs
  rcases List.mem_append.mp hm with hda | hdb
  · exact absurd hd (by simpa using ha d hda)
  · rcases List.mem_cons.mp hdb with rfl | hdb
    · exact Nat.le_refl _
    · exact Nat.le_of_lt (List.rel_of_pairwise_cons (List.pairwise_append.mp hs).2.1 hdb)

theorem pendingClass_none {log : List Entry} (h : pendingClass log = none) : ∀ e ∈ log, e.report ≠ .pending := by
  intro e he hr
  have hc : e.cls ∈ [FaultClass.critical, .major, .minor, .info] := by cases e.cls <;> simp
  refine absurd (List.find?_eq_none.mp h e.cls hc) (Decidable.not_not.mpr (List.any_eq_true.mpr ⟨e, he, ?_⟩))
  simp [hr]

theorem pendingClass_some {log : List Entry} {c : FaultClass} (h : pendingClass log = some c) :
    (∃ e ∈ log, e.report = .pending ∧ e.cls = c) ∧ ∀ e ∈ log, e.report = .pending → classRank c ≤ classRank e.cls := by
  obtain ⟨hc, hle⟩ := find_class_some h
  refine ⟨?_, fun e he hr => hle e.cls (List.any_eq_true.mpr ⟨e, he, by simp [hr]⟩)⟩
  obtain ⟨e, he, hb⟩ := List.any_eq_true.mp hc
  exact ⟨e, he, by simpa using hb⟩

theorem selected_none (log : List Entry) : selected log = none ↔ ∀ e ∈ log, e.report = .pending →
    ∃ x ∈ log, x.report = .inService ∧ classRank x.cls ≤ classRank e.cls := by
  unfold selected
  cases hc : pendingClass log with
  | none => exact iff_of_true rfl (fun e he hr => absurd hr (pendingClass_none hc e he))
  | some c =>
    obtain ⟨⟨e, he, hr, hec⟩, hle⟩ := pendingClass_some hc
    dsimp only
    split
    · rename_i hs
      obtain ⟨x, hx, hb⟩ := List.any_eq_true.mp hs
      obtain ⟨hxr, hxc⟩ : x.report = .inService ∧ classRank x.cls ≤ classRank c := by simpa using hb
      exact iff_of_true rfl (fun e he hr => ⟨x, hx, hxr, Nat.le_trans hxc (hle e he hr)⟩)
    · rename_i hs
      refine iff_of_false (fun hn => ?_) (fun hall => hs ?_)
      · exact absurd (List.find?_eq_none.mp hn e he) (by simp [hr, hec])
      · obtain ⟨x, hx, hxr, hxc⟩ := hall e he hr
        exact List.any_eq_true.mpr ⟨x, hx, by simp [hxr, ← hec, hxc]⟩

theorem selected_some {log : List Entry} {e : Entry} (h : selected log = some e) : e.report = .pending ∧
    (∀ x ∈ log, x.report = .pending → classRank e.cls ≤ classRank x.cls) ∧
    (∀ x ∈ log, x.report = .inService → classRank e.cls < classRank x.cls) ∧
    ∃ a b, log = a ++ e :: b ∧ ∀ x ∈ a, x.report = .pending → x.cls ≠ e.cls := by
  unfold selected at h
  cases hc : pendingClass log with
  | none => rw [hc] at h; cases h
  | some c =>
    rw [hc] at h
    dsimp only at h
    split at h
    · cases h
    · rename_i hs
      obtain ⟨hp, a, b, hab, ha⟩ := List.find?_eq_some_iff_append.mp h
      obtain ⟨hr, rfl⟩ : e.report = .pending ∧ e.cls = c := by simpa using hp
      refine ⟨hr, (pendingClass_some hc).2, fun x hx hxr => Nat.lt_of_not_le (fun hle => hs ?_), a, b, hab,
        fun x hx hxr => ?_⟩
      · exact List.any_eq_true.mpr ⟨x, hx, by simp [hxr, hle]⟩
      · simpa [hxr] using ha x hx

/-! ### Selection -/

theorem State.select_none (s : State) (h : s.flu.supervisor = false ∨ selected s.flu.log = none) : s.select = s := by
  unfold State.select
  split
  · rename_i hs
    rcases h with h | h
    · exact absurd hs (by simp [h])
    · rw [h]
  · rfl

theorem State.select_some (s : State) {e : Entry} (hs : s.flu.supervisor = true) (h : selected s.flu.log = some e) :
    s.select = s.announce e := by
  simp only [State.select, hs, if_true, h]

theorem State.requestNotice_place (s : State) (e : Entry) (h : s.hasPlace = true) :
    s.requestNotice e = s.enqueue .faultNotice (encodeNotice e) := by
  simp only [State.requestNotice, s.request_place _ _ h, Bool.true_or, if_true]

theorem State.requestNotice_held (s : State) (e : Entry) (h : s.hasPlace = false) :
    ∃ t, s.requestNotice e = t ∧ { number := e.number, cls := e.cls } ∈ t.flu.held ∧
      t = { s with lif := { s.lif with holders := t.lif.holders }, flu := { s.flu with held := t.flu.held } } := by
  refine ⟨_, rfl, ?_⟩
  unfold State.requestNotice
  simp only [s.request_full _ _ h, Bool.false_or]
  split
  · rename_i hs
    obtain ⟨x, hx, hb⟩ := List.any_eq_true.mp hs
    obtain ⟨hn, hc⟩ : x.number = e.number ∧ x.cls = e.cls := by simpa using hb
    exact ⟨hn ▸ hc ▸ hx, rfl⟩
  · exact ⟨List.mem_append_right _ (List.mem_singleton.mpr rfl), rfl⟩

theorem State.select_place (s : State) {e : Entry} (hs : s.flu.supervisor = true) (h : selected s.flu.log = some e)
    (hp : s.lif.queue.length < 8) (hi : s.lif.lineIdle = false) : s.select = { s with
      lif := { s.lif with queue := insertFrame (s.newFrame .faultNotice (encodeNotice e)) s.lif.queue }
      flu := { s.flu with log := setReport e.number .inService s.flu.log } } := by
  rw [s.select_some hs h, State.announce,
    State.requestNotice_place _ e ((State.hasPlace_iff _).mpr (by exact hp)), State.enqueue_busy _ _ _ (by exact hi)]
  rfl

theorem State.discardNotice_none (s : State) (f : QueuedFrame)
    (h : f.kind ≠ .faultNotice ∨ ∀ n, noticeNumber f.payload = some n → s.inService n = none) : s.discardNotice f = s := by
  unfold State.discardNotice
  split
  · rename_i n hk hn
    rcases h with h | h
    · exact absurd hk h
    · simp only [State.noticeDiscarded, h n hn]
  · rfl

theorem State.supervisorIndication_present (s : State) (h : s.flu.supervisor = false) :
    s.supervisorIndication true = State.select { s with flu := { s.flu with supervisor := true } } := by
  simp [State.supervisorIndication, h]

theorem State.supervisorIndication_absent (s : State) (h : s.flu.supervisor = true) :
    s.supervisorIndication false = State.noteHolders { s with flu := { s.flu.outOfService with supervisor := false } } := by
  simp [State.supervisorIndication, h]

/-- Settles O56: the selected entry, its announcement, the supervisor flag and the discard notice. -/
theorem selectionMade : Obligations.SelectionMade := by
  refine ⟨fun log => ⟨selected_none log, fun e => selected_some⟩, fun s => ⟨s.select_none, fun e hs he => ?_⟩,
    fun s => ⟨?_, s.supervisorIndication_present, fun h => ⟨_, rfl, ?_⟩⟩,
    fun f s => ⟨s.discardNotice_none f, fun n e hk hn he => ?_⟩⟩
  · refine ⟨fun hp hi => s.select_place hs he hp hi, fun hf => ?_⟩
    rw [s.select_some hs he]
    exact State.requestNotice_held _ e (State.hasPlace_false (by exact hf))
  · simp [State.supervisorIndication]
  · rw [s.supervisorIndication_absent h]
    rfl
  · simp only [State.discardNotice, hk, hn, State.noticeDiscarded, he]
    rfl

end Sys2Proof.Machine
end

section
/-! PROOFS. Repeated notices and acknowledgments, the entries of the fault log, and the condition set (10, 11). -/

namespace Sys2Proof.Machine

/-! ### Frames in a queue -/

theorem mem_insertFrame (f g : QueuedFrame) (q : List QueuedFrame) : g ∈ insertFrame f q ↔ g = f ∨ g ∈ q := by
  induction q with
  | nil => simp [insertFrame]
  | cons x xs ih =>
    unfold insertFrame
    split
    · exact List.mem_cons
    · rw [List.mem_cons, ih, List.mem_cons]
      exact or_left_comm

/-- A frame of a queue is still there when the line begins its head. -/
theorem Lif.mem_beginIfIdle (l : Lif) {f : QueuedFrame} (h : f ∈ l.queue) :
    ∃ g ∈ l.beginIfIdle.queue, g.kind = f.kind ∧ g.payload = f.payload := by
  unfold Lif.beginIfIdle
  split
  · exact ⟨f, h, rfl, rfl⟩
  · rename_i x rest hq
    split
    · rw [hq] at h
      rcases List.mem_cons.mp h with rfl | h
      · exact ⟨_, List.mem_cons_self, rfl, rfl⟩
      · exact ⟨f, List.mem_cons_of_mem _ h, rfl, rfl⟩
    · exact ⟨f, h, rfl, rfl⟩

/-! ### Acknowledgment (11 R189, R190) -/

theorem Repeats.timer_put (r : Repeats) (t : Timer) (c d : FaultClass) :
    (r.put t c).timer d = if c = d then t else r.timer d := by
  cases c <;> cases d <;> rfl

/-- The repeat timers with those of the classes of some entries stopped. -/
def Repeats.without (r : Repeats) (l : List Entry) : Repeats := l.foldl (fun r e => r.put none e.cls) r

theorem Repeats.timer_without (r : Repeats) (l : List Entry) (c : FaultClass) :
    (r.without l).timer c = if l.any (fun e => decide (e.cls = c)) then none else r.timer c := by
  unfold Repeats.without
  induction l generalizing r with
  | nil => rfl
  | cons e rest ih =>
    rw [List.foldl_cons, ih, r.timer_put, List.any_cons]
    by_cases h : e.cls = c <;> simp [h]

theorem bne_eq_decide_ne (n m : Nat) : (n != m) = decide (m ≠ n) := by
  rw [Bool.eq_iff_iff, bne_iff_ne, decide_eq_true_iff, ne_comm]

/-- Freed classes: their timers stop and the held requests of the entries are dropped. -/
theorem State.freeClasses_cons (s : State) (e : Entry) (rest : List Entry) :
    s.freeClasses (e :: rest) = State.noteHolders { s with flu := { s.flu with
      repeats := s.flu.repeats.without (e :: rest)
      held := s.flu.held.filter (fun h => (e :: rest).all (fun e => decide (e.number ≠ h.number))) } } := by
  induction rest generalizing s e with
  | nil =>
    have hf : s.flu.held.filter (fun h => h.number != e.number) =
        s.flu.held.filter (fun h => [e].all (fun e => decide (e.number ≠ h.number))) := by
      refine List.filter_congr (fun h _ => ?_)
      rw [List.all_cons, List.all_nil, Bool.and_true, bne_eq_decide_ne h.number e.number]
    simp only [State.freeClasses, State.dropHeldNotice, State.stopRepeat, hf]
    rfl
  | cons f rest ih =>
    have hf : (s.flu.held.filter (fun h => h.number != e.number)).filter
          (fun h => (f :: rest).all (fun e => decide (e.number ≠ h.number))) =
        s.flu.held.filter (fun h => (e :: f :: rest).all (fun e => decide (e.number ≠ h.number))) := by
      rw [List.filter_filter]
      refine List.filter_congr (fun h _ => ?_)
      rw [List.all_cons (a := e), Bool.and_comm, bne_eq_decide_ne h.number e.number]
    unfold State.freeClasses
    rw [ih]
    simp only [State.dropHeldNotice, State.stopRepeat, State.noteHolders, hf]
    rfl

/-- What an acknowledgment comes to, by the entries it names (11 R189, R190). -/
theorem State.acknowledge_eq (s : State) (order : AckOrder) (named : Entry → Bool)
    (hn : ∀ e, ackedBy order e = (e.report != .acked && named e)) :
    let log := s.flu.log.map (fun e => if named e then { e with report := .acked } else e)
    let gone := s.flu.log.filter (fun e => named e && decide (e.report = .inService))
    s.acknowledge order =
      if gone = [] then State.testPressure { s with flu := { s.flu with log := log } }
      else (State.freeClasses { s with flu := { s.flu with log := log } } gone).testPressure.select := by
  have hlog : s.flu.log.map (fun e => if ackedBy order e then { e with report := .acked } else e) =
      s.flu.log.map (fun e => if named e then { e with report := .acked } else e) := by
    refine List.map_congr_left (fun e _ => ?_)
    rw [hn]
    obtain ⟨_, _, _, _, report, _, _, _, _⟩ := e
    cases report <;> simp
  have hgone : s.flu.log.filter (fun e => ackedBy order e && e.report == .inService) =
      s.flu.log.filter (fun e => named e && decide (e.report = .inService)) := by
    refine List.filter_congr (fun e _ => ?_)
    rw [hn]
    cases named e <;> cases e.report <;> rfl
  dsimp only
  unfold State.acknowledge
  rw [hlog, hgone]
  dsimp only
  cases s.flu.log.filter (fun e => named e && decide (e.report = .inService)) with
  | nil => rfl
  | cons e rest => rfl

theorem exec_faultAck_heard (s : State) (source : Station) (payload : List Byte) {target : Nat} {order : AckOrder}
    (h : s.Hears .faultAck source payload) (hd : decodeAck payload = some (target, order)) :
    exec (.faultAck source payload) s = .next
      (if s.targeted target then (s.heard (some .faultAck) source).acknowledge order
      else s.heard (some .faultAck) source) := by
  have he : exec (.faultAck source payload) s = execFaultAck source payload s := rfl
  rw [he, execFaultAck, s.receive_heard _ _ _ _ h, hd]
  rfl

/-- An acknowledgment that frees no class sets the entries it names ACKED and tests the pressure. -/
theorem State.acknowledge_quiet (s : State) (order : AckOrder) (named : Entry → Bool)
    (hn : ∀ e, ackedBy order e = (e.report != .acked && named e))
    (h : ∀ e ∈ s.flu.log, named e = true → e.report ≠ .inService) :
    s.acknowledge order = State.testPressure { s with flu := { s.flu with
      log := s.flu.log.map (fun e => if named e then { e with report := .acked } else e) } } := by
  refine (s.acknowledge_eq order named hn).trans (if_pos (List.filter_eq_nil_iff.mpr (fun e he hc => ?_)))
  rw [Bool.and_eq_true, decide_eq_true_iff] at hc
  exact h e he hc.1 hc.2

/-- An acknowledgment that frees a class ends with a selection. -/
theorem State.acknowledge_freeing (s : State) (order : AckOrder) (named : Entry → Bool)
    (hn : ∀ e, ackedBy order e = (e.report != .acked && named e))
    (h : ∃ e ∈ s.flu.log, named e = true ∧ e.report = .inService) :
    let log := s.flu.log.map (fun e => if named e then { e with report := .acked } else e)
    let gone := s.flu.log.filter (fun e => named e && decide (e.report = .inService))
    s.acknowledge order = (State.testPressure (State.noteHolders { s with flu := { s.flu with
      log := log
      repeats := s.flu.repeats.without gone
      held := s.flu.held.filter (fun h => gone.all (fun e => decide (e.number ≠ h.number))) } })).select := by
  dsimp only
  obtain ⟨e, he, hne, hre⟩ := h
  have hmem : e ∈ s.flu.log.filter (fun e => named e && decide (e.report = .inService)) :=
    List.mem_filter.mpr ⟨he, by rw [Bool.and_eq_true, decide_eq_true_iff]; exact ⟨hne, hre⟩⟩
  refine (s.acknowledge_eq order named hn).trans ((if_neg (List.ne_nil_of_mem hmem)).trans ?_)
  cases hg : s.flu.log.filter (fun e => named e && decide (e.report = .inService)) with
  | nil => exact absurd hg (List.ne_nil_of_mem hmem)
  | cons g rest => rw [State.freeClasses_cons]

/-- Settles O57, by the request of a repeated notice and the entries that an acknowledgment names. -/
theorem announcementMoves : Obligations.AnnouncementMoves := by
  refine ⟨fun c e s ht hs hp => ?_, fun source payload target order s h hd => ?_⟩
  · have he : exec (.noticeRepeatExpiry c) s = .next ((s.stopRepeat c).requestNotice e) := by
      have hs' : inServiceOf c (s.stopRepeat c).flu.log = some e := hs
      simp only [exec, execNoticeRepeatExpiry, ht, if_true, hs']
    have hr := State.requestNotice_place (s.stopRepeat c) e ((State.hasPlace_iff _).mpr (by exact hp))
    obtain ⟨g, hg, hk, hpay⟩ := Lif.mem_beginIfIdle { s.lif with
      queue := insertFrame (s.newFrame .faultNotice (encodeNotice e)) s.lif.queue }
      ((mem_insertFrame _ _ _).mpr (.inl rfl))
    exact ⟨_, he, hr ▸ ⟨g, hg, hk, hpay⟩, hr ▸ rfl⟩
  · dsimp only
    rw [exec_faultAck_heard s source payload h hd]
    clear hd
    have hn : ∀ e, ackedBy order e = (e.report != .acked && match order with
      | .one n => decide (e.number = n)
      | .ofClass c => decide (e.cls = c)
      | .all => true) := fun e => by cases order <;> rfl
    refine ⟨fun ht => congrArg Host.Outcome.next (if_neg (by simp [ht])), fun ht => ?_⟩
    rw [if_pos ht]
    refine ⟨fun hnone => ?_, fun hsome => ?_⟩
    · exact congrArg Host.Outcome.next (State.acknowledge_quiet _ order _ hn hnone)
    · have ha := State.acknowledge_freeing (s.heard (some .faultAck) source) order _ hn hsome
      exact ⟨_, congrArg Host.Outcome.next ha, s.flu.repeats.timer_without _, rfl⟩

/-! ### A new entry of the fault log (10 R172, R173, R177 to R179) -/

/-- A new entry without a supervisor: the log that storing it leaves, the counter, the overflow flag and the pressure. -/
theorem State.makeEntry_unwatched (s : State) (code : Code) (v : Int) {g h : Option Entry} {rest log : List Entry} {ok : Bool}
    (hs : s.flu.supervisor = false) (hw : wrapRemoval s.flu.counter s.flu.log = (g, rest))
    (hst : storeIn (s.newEntry code v) rest = (h, log, ok)) (hg : wasInService g = false) (hh : wasInService h = false) :
    s.makeEntry code v = { s with flu := { s.flu with
      log := log
      counter := (s.flu.counter + 1) % 4096
      overflow := s.flu.overflow || !ok
      pressure := decide (s.watermark ≤ unackedCount log) } } := by
  have removed (t : State) (x : Option Entry) (hx : wasInService x = false) : t.removedIf x = t := by
    unfold State.removedIf
    split
    · exact if_neg (by simpa [wasInService] using hx)
    · rfl
  have hn : (s.newEntry code v).number = s.flu.counter := rfl
  unfold State.makeEntry
  simp only [hn, hw, hst, removed _ g hg, removed _ h hh, hg, hh, Bool.or_false]
  split
  · exact State.select_none _ (.inl hs)
  · rfl

theorem wrapRemoval_none {n : Nat} {log : List Entry} (h : ∀ e, log.head? = some e → e.number ≠ n) :
    wrapRemoval n log = (none, log) := by
  cases log with
  | nil => rfl
  | cons e rest => exact if_neg (h e rfl)

theorem storeIn_place {e : Entry} {log : List Entry} (h : log.length < 32) : storeIn e log = (none, log ++ [e], true) :=
  if_pos h

theorem State.logCondition_new (s : State) (code : Code) (v : Int) (h : latestOf code s.flu.log = none) :
    s.logCondition code v = s.makeEntry code v := by
  unfold State.logCondition
  rw [h]

theorem State.logEvent_new (s : State) (code : Code) (v : Int) (h : latestOf code s.flu.log = none) :
    s.logEvent code v = s.makeEntry code v := by
  unfold State.logEvent
  rw [h]

/-- A new entry at the end of a log with a free place, without a supervisor. -/
theorem State.makeEntry_appended (s : State) (code : Code) (v : Int) (hl : s.flu.log.length < 32)
    (hs : s.flu.supervisor = false) (hn : ∀ e, s.flu.log.head? = some e → e.number ≠ s.flu.counter) :
    s.makeEntry code v = { s with flu := { s.flu with
      log := s.flu.log ++ [s.newEntry code v]
      counter := (s.flu.counter + 1) % 4096
      pressure := decide (s.watermark ≤ unackedCount (s.flu.log ++ [s.newEntry code v])) } } := by
  rw [s.makeEntry_unwatched code v hs (wrapRemoval_none hn) (storeIn_place hl) rfl rfl, Bool.not_true, Bool.or_false]

/-- Settles O58, by the latest entry of the code and the place that a new one finds. -/
theorem raisesLogged : Obligations.RaisesLogged := by
  refine ⟨fun code v e s h => ⟨fun hr => ?_, fun hr => ?_, fun hr => ?_, fun hr => ?_⟩, fun e now v => ?_,
    fun code v s => rfl, fun code v s hl hs hn => ?_, fun code v e rest s hlog hn hl hr hs => ?_⟩
  · simp only [State.logCondition, h, if_neg hr]
    rfl
  · simp only [State.logEvent, h, if_pos hr]
    rfl
  · simp only [State.logCondition, h, if_pos hr]
    rfl
  · simp only [State.logEvent, h, if_neg hr]
  · have ho : min 255 (e.occurrences + 1) = if e.occurrences < 255 then e.occurrences + 1 else 255 := by
      split <;> omega
    rw [← ho]
    rfl
  · have hm := s.makeEntry_appended code v hl hs hn
    exact ⟨hm, fun h => ⟨(s.logCondition_new code v h).trans hm, (s.logEvent_new code v h).trans hm⟩⟩
  · have hw : wrapRemoval s.flu.counter s.flu.log = (some e, rest) := by
      rw [hlog]
      exact if_pos hn
    have hg : wasInService (some e) = false := by simpa [wasInService] using hr
    dsimp only
    rw [s.makeEntry_unwatched code v hs hw (storeIn_place hl) hg rfl, Bool.not_true, Bool.or_false]

/-! ### The place that a full log makes (10 R177) -/

theorem removeFirst_none {α : Type} (p : α → Bool) (l : List α) : removeFirst p l = none ↔ ∀ x ∈ l, p x = false := by
  induction l with
  | nil => simp [removeFirst]
  | cons x xs ih =>
    unfold removeFirst
    cases hp : p x with
    | true => simp [hp]
    | false =>
      simp only [Bool.false_eq_true, if_false, List.mem_cons, forall_eq_or_imp, hp, true_and, ← ih]
      cases removeFirst p xs <;> simp

theorem removeFirst_some {α : Type} {p : α → Bool} {l rest : List α} {x : α} (h : removeFirst p l = some (x, rest)) :
    ∃ a b, l = a ++ x :: b ∧ rest = a ++ b ∧ p x = true ∧ ∀ y ∈ a, p y = false := by
  induction l generalizing rest with
  | nil => cases h
  | cons z zs ih =>
    unfold removeFirst at h
    cases hp : p z with
    | true =>
      simp only [hp, if_true, Option.some.injEq, Prod.mk.injEq] at h
      obtain ⟨rfl, rfl⟩ := h
      exact ⟨[], zs, rfl, rfl, hp, fun y hy => (by cases hy)⟩
    | false =>
      simp only [hp, Bool.false_eq_true, if_false] at h
      cases hz : removeFirst p zs with
      | none => rw [hz] at h; cases h
      | some found =>
        obtain ⟨y, ys⟩ := found
        simp only [hz, Option.some.injEq, Prod.mk.injEq] at h
        obtain ⟨rfl, rfl⟩ := h
        obtain ⟨a, b, hl, hr, hx, ha⟩ := ih hz
        refine ⟨z :: a, b, by rw [hl]; rfl, by rw [hr]; rfl, hx, fun w hw => ?_⟩
        rcases List.mem_cons.mp hw with rfl | hw
        · exact hp
        · exact ha w hw

/-- Whether an entry may leave a full log at once: it is ACKED and INACTIVE. -/
def settledEntry (e : Entry) : Bool := e.report == .acked && !e.active

theorem settledEntry_iff (e : Entry) : settledEntry e = true ↔ e.report = .acked ∧ e.active = false := by
  simp [settledEntry]

/-- The rank of the least urgent class among the entries less urgent than a class. -/
def worstRank (c : FaultClass) (log : List Entry) : Nat :=
  (log.filter (fun e => decide (classRank c < classRank e.cls))).foldl (fun r e => max r (classRank e.cls)) 0

theorem makePlace_eq (c : FaultClass) (log : List Entry) : makePlace c log =
    match removeFirst settledEntry log with
    | some found => some found
    | none => removeFirst (fun e => decide (classRank c < classRank e.cls) && classRank e.cls == worstRank c log) log := rfl

theorem le_worstRank {c : FaultClass} {log : List Entry} {e : Entry} (he : e ∈ log) (hc : classRank c < classRank e.cls) :
    classRank e.cls ≤ worstRank c log :=
  (foldl_max_spec (fun e : Entry => classRank e.cls) _ 0).2.1 e (List.mem_filter.mpr ⟨he, decide_eq_true hc⟩)

theorem exists_worstRank {c : FaultClass} {log : List Entry} {e : Entry} (he : e ∈ log) (hc : classRank c < classRank e.cls) :
    ∃ x ∈ log, classRank c < classRank x.cls ∧ classRank x.cls = worstRank c log := by
  have hle := le_worstRank he hc
  rcases (foldl_max_spec (fun e : Entry => classRank e.cls)
    (log.filter (fun e => decide (classRank c < classRank e.cls))) 0).2.2 with h0 | ⟨x, hx, hw⟩
  · have h0' : worstRank c log = 0 := h0
    omega
  · obtain ⟨hm, hcx⟩ := List.mem_filter.mp hx
    exact ⟨x, hm, of_decide_eq_true hcx, hw.symm⟩

theorem makePlace_none (c : FaultClass) (log : List Entry) : makePlace c log = none ↔
    ∀ x ∈ log, ¬ (x.report = .acked ∧ x.active = false) ∧ classRank x.cls ≤ classRank c := by
  rw [makePlace_eq]
  cases hf : removeFirst settledEntry log with
  | some found =>
    refine iff_of_false (by simp) (fun h => ?_)
    obtain ⟨a, b, hl, _, hx, _⟩ := removeFirst_some (p := settledEntry) (x := found.1) (rest := found.2) hf
    exact (h found.1 (by rw [hl]; simp)).1 ((settledEntry_iff _).mp hx)
  | none =>
    have hnone := (removeFirst_none _ _).mp hf
    dsimp only
    rw [removeFirst_none]
    refine ⟨fun h x hx => ⟨fun hs => ?_, Nat.le_of_not_lt (fun hc => ?_)⟩, fun h x hx => ?_⟩
    · exact absurd ((settledEntry_iff x).mpr hs) (by simp [hnone x hx])
    · obtain ⟨y, hy, hcy, hw⟩ := exists_worstRank hx hc
      exact absurd (h y hy) (by simp [hcy, ← hw])
    · have := (h x hx).2
      simp [Nat.not_lt.mpr this]

theorem makePlace_some {c : FaultClass} {log rest : List Entry} {g : Entry} (h : makePlace c log = some (g, rest)) :
    ∃ a b, log = a ++ g :: b ∧ rest = a ++ b ∧
      (g.report = .acked ∧ g.active = false ∧ (∀ x ∈ a, ¬ (x.report = .acked ∧ x.active = false)) ∨
        (∀ x ∈ log, ¬ (x.report = .acked ∧ x.active = false)) ∧ classRank c < classRank g.cls ∧
          (∀ x ∈ log, classRank x.cls ≤ classRank g.cls) ∧ ∀ x ∈ a, classRank x.cls < classRank g.cls) := by
  rw [makePlace_eq] at h
  cases hf : removeFirst settledEntry log with
  | some found =>
    rw [hf] at h
    obtain ⟨a, b, hl, hr, hg, ha⟩ := removeFirst_some (hf.trans h)
    obtain ⟨hack, hact⟩ := (settledEntry_iff g).mp hg
    refine ⟨a, b, hl, hr, .inl ⟨hack, hact, fun x hx hs => ?_⟩⟩
    exact absurd ((settledEntry_iff x).mpr hs) (by simp [ha x hx])
  | none =>
    have hnone := (removeFirst_none _ _).mp hf
    rw [hf] at h
    obtain ⟨a, b, hl, hr, hg, ha⟩ := removeFirst_some h
    obtain ⟨hc, hw⟩ : classRank c < classRank g.cls ∧ classRank g.cls = worstRank c log := by simpa using hg
    have hle : ∀ x ∈ log, classRank x.cls ≤ classRank g.cls := fun x hx => by
      rcases Nat.lt_or_ge (classRank c) (classRank x.cls) with hx' | hx'
      · exact hw ▸ le_worstRank hx hx'
      · omega
    refine ⟨a, b, hl, hr, .inr ⟨fun x hx hs => ?_, hc, hle, fun x hx => ?_⟩⟩
    · exact absurd ((settledEntry_iff x).mpr hs) (by simp [hnone x hx])
    · have hx' : x ∈ log := by rw [hl]; exact List.mem_append_left _ hx
      have hf : ¬ (classRank c < classRank x.cls ∧ classRank x.cls = worstRank c log) := by simpa using ha x hx
      have := hle x hx'
      omega

theorem storeIn_full {e : Entry} {log : List Entry} (h : log.length = 32) : storeIn e log =
    match makePlace e.cls log with
    | some (gone, rest) => (some gone, rest ++ [e], true)
    | none => (none, log, false) := if_neg (by rw [h]; decide)

theorem storeIn_none {e : Entry} {log : List Entry} (h : log.length = 32) :
    storeIn e log = (none, log, false) ↔ makePlace e.cls log = none := by
  rw [storeIn_full h]
  cases makePlace e.cls log <;> simp

theorem storeIn_some {e g : Entry} {log rest : List Entry} (h : log.length = 32)
    (hs : storeIn e log = (some g, rest, true)) : ∃ kept, makePlace e.cls log = some (g, kept) ∧ rest = kept ++ [e] := by
  rw [storeIn_full h] at hs
  cases hp : makePlace e.cls log with
  | none => rw [hp] at hs; simp at hs
  | some found =>
    rw [hp] at hs
    simp only [Prod.mk.injEq, Option.some.injEq, and_true] at hs
    obtain ⟨rfl, rfl⟩ := hs
    exact ⟨_, rfl, rfl⟩

/-- Settles O59, by the place that a full log makes for an entry's class. -/
theorem placeMade : Obligations.PlaceMade := by
  refine ⟨fun e log hl => ⟨(storeIn_none hl).trans (makePlace_none _ _), fun g rest hs => ?_⟩, fun code v s hl hs hn => ?_⟩
  · obtain ⟨kept, hp, rfl⟩ := storeIn_some hl hs
    obtain ⟨a, b, hlog, rfl, h⟩ := makePlace_some hp
    exact ⟨a, b, hlog, rfl, h⟩
  · refine ⟨fun hst => ?_, fun g log hst hg => ?_⟩
    · rw [s.makeEntry_unwatched code v hs (wrapRemoval_none hn) hst rfl rfl, Bool.not_false, Bool.or_true]
    · have hg' : wasInService (some g) = false := by simpa [wasInService] using hg
      rw [s.makeEntry_unwatched code v hs (wrapRemoval_none hn) hst rfl hg', Bool.not_true, Bool.or_false]

/-! ### The condition set (10 R167 to R169, R176) -/

/-- The indications are those of the condition set. -/
def State.Formed (t : State) : Prop :=
  t.flu.exponent = exponentOf t.flu.members ∧
    t.flu.stringLatch = t.flu.members.any (fun m => m.actions.stringLatch) ∧
    t.flu.yawLock = t.flu.members.any (fun m => m.actions.yawLock) ∧
    t.flu.pumpLatch = t.flu.members.any (fun m => m.actions.pumpLatch)

/-- The members of the condition set and the indications formed of them. -/
def State.conditions (s : State) : List Member × Nat × Bool × Bool × Bool :=
  (s.flu.members, s.flu.exponent, s.flu.stringLatch, s.flu.yawLock, s.flu.pumpLatch)

theorem State.conditions_of_standing {s t : State} (h : t.standing = s.standing) : t.conditions = s.conditions :=
  congrArg (fun x : FluStanding => (x.members, x.exponent, x.stringLatch, x.yawLock, x.pumpLatch)) h

theorem State.Formed.of_conditions {s t : State} (h : t.conditions = s.conditions) (k : s.Formed) : t.Formed := by
  simp only [State.conditions, Prod.mk.injEq] at h
  obtain ⟨hm, he, hs, hy, hp⟩ := h
  unfold State.Formed
  rw [hm, he, hs, hy, hp]
  exact k

theorem State.indicate_formed (s : State) : s.indicate.Formed := by
  have h := s.indicate_standing
  unfold State.Formed
  rw [s.indicate_members]
  exact ⟨congrArg FluStanding.exponent h, congrArg FluStanding.stringLatch h, congrArg FluStanding.yawLock h,
    congrArg FluStanding.pumpLatch h⟩

theorem State.conditions_ite (c : Prop) [Decidable c] (s t : State) :
    (if c then s else t).conditions = if c then s.conditions else t.conditions := apply_ite State.conditions c s t

theorem State.makeEntry_conditions (s : State) (code : Code) (v : Int) : (s.makeEntry code v).conditions = s.conditions := by
  simp only [State.makeEntry, State.conditions_ite, State.conditions_of_standing (State.select_standing _),
    State.conditions_of_standing (State.testPressure_standing _), State.conditions_of_standing (State.removedIf_standing _ _),
    ite_self]
  rfl

theorem State.logCondition_conditions (s : State) (code : Code) (v : Int) :
    (s.logCondition code v).conditions = s.conditions := by
  unfold State.logCondition
  split
  · split
    · exact State.makeEntry_conditions _ _ _
    · rfl
  · exact s.makeEntry_conditions _ _

/-- A raise of a condition code leaves the indications formed of the set (10 R168, R169). -/
theorem State.takeRaise_formed (s : State) (code : Code) (v : Int) (o : Option Origin) (h : code.isCondition = true) :
    (s.takeRaise code v o).Formed := by
  rw [State.takeRaise_eq, if_pos h]
  refine State.Formed.of_conditions (State.logCondition_conditions _ _ _) ?_
  unfold State.acted
  have hj : (s.joined code o).Formed := by
    rw [State.joined, if_pos h]
    exact State.indicate_formed _
  split
  · exact hj.of_conditions (State.conditions_of_standing (State.stcTripRequest_standing _))
  · exact hj

/-- A clear that acts leaves the indications formed of the set (10 R168, R169). -/
theorem State.takeClear_formed (s : State) (code : Code) (h : (code.isLatched || !inMembers code s.flu.members) = false) :
    (s.takeClear code).Formed := by
  rw [State.takeClear, if_neg (by simp [h])]
  exact State.Formed.of_conditions rfl (State.indicate_formed _)

/-- Entries whose code has been cleared are INACTIVE (10 R176). -/
theorem State.takeClear_inactive (s : State) (code : Code)
    (h : (code.isLatched || !inMembers code s.flu.members) = false) :
    ∀ e ∈ (s.takeClear code).flu.log, e.code = code → e.active = false := by
  rw [State.takeClear, if_neg (by simp [h])]
  intro e he hc
  obtain ⟨x, _, rfl⟩ := List.mem_map.mp he
  by_cases hx : x.code = code ∧ x.active = true
  · simp only [if_pos hx]
  · rw [if_neg hx] at hc ⊢
    exact (Bool.eq_false_or_eq_true x.active).resolve_left (fun ha => hx ⟨hc, ha⟩)

/-- Settles O60, by the members that a raise and a clear leave and the indications formed of them. -/
theorem conditionSet : Obligations.ConditionSet := by
  intro code v o s
  dsimp only
  refine ⟨fun hc => ⟨s.takeRaise_formed code v o hc, fun c => ?_⟩, fun hc => ?_, fun hn => ?_, fun hl hm => ?_⟩
  · rw [State.takeRaise_members, if_pos hc, inMembers_joinSet, BEq.comm]
  · rw [State.takeRaise_members, if_neg (by simp [hc])]
  · rw [State.takeClear, if_pos (by rcases hn with hn | hn <;> simp [hn])]
  · have h : (code.isLatched || !inMembers code s.flu.members) = false := by simp [hl, hm]
    refine ⟨s.takeClear_formed code h, fun c => ?_, s.takeClear_inactive code h⟩
    rw [State.takeClear_members, if_neg (by simp [h]), inMembers_filter, Bool.and_comm]

end Sys2Proof.Machine
end

section
/-! SUPPORT. What the work on a request leaves of the line, what a raise leaves in the condition set, and raises and clears
of codes without actions. -/

namespace Sys2Proof.Machine

/-! ### The line through the taking of requests -/

/-- Work that keeps the error counter, the degraded flag and the status timer, and a line that is not idle. -/
structure State.Lined (s t : State) : Prop where
  errors : t.lif.errors = s.lif.errors
  degraded : t.lif.degraded = s.lif.degraded
  statusTimer : t.lif.statusTimer = s.lif.statusTimer
  idle : s.lif.lineIdle = false → t.lif.lineIdle = false

theorem State.Lined.of_eq {s t : State} (h : t.lif = s.lif) : s.Lined t := by
  refine ⟨?_, ?_, ?_, ?_⟩ <;> rw [h]
  exact id

theorem State.Lined.refl (s : State) : s.Lined s := .of_eq rfl

theorem State.Lined.trans {s t u : State} (h : s.Lined t) (k : t.Lined u) : s.Lined u :=
  ⟨k.errors.trans h.errors, k.degraded.trans h.degraded, k.statusTimer.trans h.statusTimer, k.idle ∘ h.idle⟩

theorem State.Lined.after {s t u : State} (k : t.Lined u) (h : s.Lined t) : s.Lined u := h.trans k

theorem State.Lined.ite {s t u : State} (c : Prop) [Decidable c] (ht : s.Lined t) (hu : s.Lined u) :
    s.Lined (if c then t else u) := by
  split <;> assumption

/-- Work after which the same line stands but for the queue, the STATUS place and the record of holders. -/
theorem State.Lined.of_queue {s t : State}
    (h : t.lif = { s.lif with queue := t.lif.queue, statusPlace := t.lif.statusPlace, holders := t.lif.holders }) :
    s.Lined t := by
  refine ⟨?_, ?_, ?_, ?_⟩ <;> rw [h]
  exact id

theorem State.enqueue_lined (s : State) (k : Kind) (p : List Byte) : s.Lined (s.enqueue k p) := by
  cases hi : s.lif.lineIdle with
  | false =>
    rw [s.enqueue_busy k p hi]
    exact .of_queue rfl
  | true =>
    unfold State.enqueue Lif.beginIfIdle
    split
    · exact .of_queue rfl
    · split
      · exact ⟨rfl, rfl, rfl, fun _ => rfl⟩
      · exact .of_queue rfl

theorem State.noteHolders_lined (s : State) : s.Lined s.noteHolders := .of_queue rfl

theorem State.Lined.held {s t u : State} (h : s.Lined t) (k : u.lif = t.lif) : s.Lined u.noteHolders :=
  (h.trans (.of_eq k)).trans u.noteHolders_lined

theorem State.request_lined (s : State) (k : Kind) (p : List Byte) : s.Lined (s.request k p).1 := by
  unfold State.request
  split
  · exact s.enqueue_lined k p
  · exact .refl s

theorem State.requestNotice_lined (s : State) (e : Entry) : s.Lined (s.requestNotice e) :=
  have h := s.request_lined .faultNotice (encodeNotice e)
  .ite _ h (h.held rfl)

theorem State.select_lined (s : State) : s.Lined s.select := by
  unfold State.select
  split
  · split
    · exact (State.requestNotice_lined _ _).after (.of_eq rfl)
    · exact .refl s
  · exact .refl s

theorem State.discardNotice_lined (s : State) (f : QueuedFrame) : s.Lined (s.discardNotice f) := by
  unfold State.discardNotice
  split
  · unfold State.noticeDiscarded
    split
    · exact (State.select_lined _).after (.of_eq rfl)
    · exact .refl s
  · exact .refl s

theorem State.offerTrip_lined (s : State) : s.Lined s.offerTrip := by
  unfold State.offerTrip
  split
  · exact .ite _ ((s.request_lined _ _).trans (.of_eq rfl)) (s.request_lined _ _)
  · exact .refl s

theorem State.offerPump_lined (s : State) : s.Lined s.offerPump := by
  unfold State.offerPump
  split
  · exact .ite _ ((s.request_lined _ _).trans (.of_eq rfl)) (s.request_lined _ _)
  · exact .refl s

theorem State.offerStatus_lined (s : State) : s.Lined s.offerStatus := by
  unfold State.offerStatus
  split
  · exact .ite _ (.refl s) (.ite _ ((s.request_lined _ _).trans (.of_queue rfl)) (s.request_lined _ _))
  · exact .refl s

theorem State.offerYaw_lined (s : State) (k : Kind) (l : List HeldYaw) : s.Lined (s.offerYaw k l) := by
  induction l generalizing s with
  | nil => exact .of_eq rfl
  | cons h rest ih =>
    unfold State.offerYaw
    exact .ite _ ((s.enqueue_lined _ _).trans (ih _)) ((ih s).trans (.of_eq rfl))

theorem State.offerNotices_lined (s : State) (l : List HeldNotice) : s.Lined (s.offerNotices l) := by
  induction l generalizing s with
  | nil => exact .of_eq rfl
  | cons h rest ih =>
    unfold State.offerNotices
    split
    · exact .ite _ ((s.enqueue_lined _ _).trans (ih _)) ((ih s).trans (.of_eq rfl))
    · exact ih s

theorem State.placeFree_lined (s : State) : s.Lined s.placeFree :=
  (State.noteHolders_lined _).after ((State.offerNotices_lined _ _).after ((State.offerStatus_lined _).after
    ((State.offerPump_lined _).after ((State.offerYaw_lined _ _ _).after ((State.offerYaw_lined _ _ _).after
      ((State.offerYaw_lined _ _ _).after ((State.offerYaw_lined _ _ _).after ((State.offerYaw_lined _ _ _).after
        ((State.offerTrip_lined _).after (.of_eq rfl))))))))))

theorem State.requestUrgent_lined (s : State) (k : Kind) (p : List Byte) : s.Lined (s.requestUrgent k p).1 := by
  unfold State.requestUrgent
  split
  · exact s.enqueue_lined k p
  · split
    · exact (State.placeFree_lined _).after ((State.discardNotice_lined _ _).after
        ((State.enqueue_lined _ _ _).after (.of_queue rfl)))
    · exact .refl s

/-! #### The string -/

theorem State.drive_lined (s : State) (st : StringState) (v : Nat) : s.Lined (s.drive st v) := .ite _ (.of_eq rfl) (.of_eq rfl)

theorem State.raiseCause_lined (s : State) (r : Option (Code × Int)) : s.Lined (s.raiseCause r) := by
  unfold State.raiseCause
  split <;> exact .of_eq rfl

theorem State.requestTrip_lined (s : State) (c : TripCause) : s.Lined (s.requestTrip c) :=
  have h := s.requestUrgent_lined .tripNotice (encodeTrip c s.stc.state)
  .ite _ h (h.held rfl)

/-- The requests of a trip once its string is open: the notice, its own code, and REPEATED_TRIPS (04 R66, R67). -/
theorem State.tripRequests_lined (s x : State) (c : TripCause) (r : Option (Code × Int)) (locks : Prop)
    [Decidable locks] (span : Int) (h : s.Lined x) :
    s.Lined (if locks then ((x.requestTrip c).raiseCause r).raise .repeatedTrips span else (x.requestTrip c).raiseCause r) := by
  have told := (h.trans (x.requestTrip_lined c)).trans (State.raiseCause_lined _ r)
  exact .ite _ (told.trans (.of_eq rfl)) told

theorem State.trip_lined (s : State) (c : TripCause) (r : Option (Code × Int)) : s.Lined (s.trip c r) := by
  unfold State.trip
  exact .ite _ (State.tripRequests_lined _ _ _ _ _ _ ⟨rfl, rfl, rfl, id⟩) (.refl s)

theorem State.enterSync_lined (s : State) : s.Lined s.enterSync := by
  have h : s.Lined (s.drive .sync 0) := s.drive_lined _ _
  exact .ite _ (h.trans (.of_eq rfl)) (h.trans (.of_eq rfl))

theorem State.enterPrecharge_lined (s : State) : s.Lined s.enterPrecharge := by
  have hu (t : State) (h : s.Lined t) : s.Lined (if t.levels.dcLink then t.enterSync else t) :=
    .ite _ (h.trans t.enterSync_lined) h
  have hx (u : State) (h : s.Lined u) : s.Lined (if u.levels.modulatorFault then u.modulatorTrip else u) :=
    .ite _ (h.trans (u.trip_lined _ _)) h
  exact hx _ (hu _ (.of_eq rfl))

theorem State.startTest_lined (s : State) : s.Lined s.startTest := .ite _ s.enterPrecharge_lined (.refl s)

theorem State.respondToLimit_lined (s : State) : s.Lined s.respondToLimit := by
  unfold State.respondToLimit
  split
  · exact s.startTest_lined
  all_goals exact .of_eq rfl

theorem State.cutSetpoint_lined (s : State) : s.Lined s.cutSetpoint := .ite _ (.of_eq rfl) (.refl s)

theorem State.formLimit_lined (s : State) : s.Lined s.formLimit := by
  have h (x : State) (k : s.Lined x) : s.Lined x.cutSetpoint.respondToLimit :=
    (State.respondToLimit_lined _).after (x.cutSetpoint_lined.after k)
  exact .ite _ (.ite _ (.of_eq rfl) (h _ (.of_eq rfl))) (.refl s)

theorem State.stcDerate_lined (s : State) (e : Nat) : s.Lined (s.stcDerate e) := (State.formLimit_lined _).after (.of_eq rfl)

theorem State.stcLatch_lined (s : State) (on : Bool) : s.Lined (s.stcLatch on) := by
  have h (t : State) (k : s.Lined t) : s.Lined (if t.stc.state.isActive then t.trip .stringLatch none
      else if t.stc.state = .off ∧ t.configured = true then t.drive .locked 0 else t) :=
    .ite _ (k.trans (t.trip_lined _ _)) (.ite _ (k.trans (t.drive_lined _ _)) k)
  exact .ite _ (h _ (.of_eq rfl)) (.of_eq rfl)

/-! #### The yaw -/

theorem State.requestYaw_lined (s : State) (k : Kind) (r : Ref) (p : List Byte) : s.Lined (s.requestYaw k r p) := by
  have h : s.Lined (if k = .yawHalt then s.requestUrgent k p else s.request k p).1 := by
    split
    · exact s.requestUrgent_lined k p
    · exact s.request_lined k p
  exact .ite _ h (h.held rfl)

theorem State.takeHalt_lined (s : State) (r : Ref) : s.Lined (s.takeHalt r) := by
  have h : s.haltParticipant.lif = s.lif := by
    unfold State.haltParticipant
    split <;> rfl
  exact .ite _ (.ite _ (.of_eq h) (.of_eq h)) (.refl s)

theorem State.ownHalt_lined (s : State) (r : Ref) (e : HaltReason) : s.Lined (s.ownHalt r e) :=
  (s.requestYaw_lined _ _ _).trans (State.takeHalt_lined _ _)

theorem State.haltMove_lined (s : State) (e : HaltReason) : s.Lined (s.haltMove e) := by
  unfold State.haltMove
  split
  · exact s.ownHalt_lined _ _
  · exact .refl s

theorem State.haltProposal_lined (s : State) (e : HaltReason) : s.Lined (s.haltProposal e) := by
  unfold State.haltProposal
  split
  · exact s.ownHalt_lined _ _
  · exact .refl s

theorem State.ywcLock_lined (s : State) (on : Bool) : s.Lined (s.ywcLock on) := by
  have h : s.Lined { s with ywc := { s.ywc with lock := on } } := .of_eq rfl
  unfold State.ywcLock
  dsimp only
  refine .ite _ (.ite _ (h.trans (State.haltProposal_lined _ _)) ?_) h
  split
  case h_1 | h_2 | h_3 => exact h.trans (State.haltMove_lined _ _)
  case h_4 => exact h.trans (.of_eq rfl)
  all_goals exact h

/-! #### The fault unit -/

theorem State.indicate_lined (s : State) : s.Lined s.indicate := by
  have go {x : State} (h : s.Lined x) (c : Prop) [Decidable c] (f : State → State) (hf : x.Lined (f x)) :
      s.Lined (if c then x else f x) := .ite c h (h.trans hf)
  unfold State.indicate
  dsimp only
  generalize hx : ({ s with flu := { s.flu with
    exponent := exponentOf s.flu.members
    stringLatch := s.flu.members.any (fun m => m.actions.stringLatch)
    yawLock := s.flu.members.any (fun m => m.actions.yawLock)
    pumpLatch := s.flu.members.any (fun m => m.actions.pumpLatch) } } : State) = x
  have h0 : s.Lined x := by
    rw [← hx]
    exact .of_eq rfl
  refine go (go (go (go h0 _ (fun y => y.stcDerate _) ?_) _ (fun y => y.stcLatch _) ?_) _ (fun y => y.ywcLock _) ?_) _
    (fun y => y.clcLatch _) (.of_eq rfl)
  · exact State.stcDerate_lined _ _
  · exact State.stcLatch_lined _ _
  · exact State.ywcLock_lined _ _

theorem State.removedIf_lined (s : State) (e : Option Entry) : s.Lined (s.removedIf e) := by
  unfold State.removedIf
  split
  · exact .ite _ ((State.noteHolders_lined _).after (.of_eq rfl)) (.refl s)
  · exact .refl s

theorem State.makeEntry_lined (s : State) (code : Code) (v : Int) : s.Lined (s.makeEntry code v) := by
  have h (x : State) (a b : Option Entry) (k : s.Lined x) : s.Lined ((x.removedIf a).removedIf b).testPressure :=
    ((k.trans (x.removedIf_lined a)).trans (State.removedIf_lined _ b)).trans (.of_eq rfl)
  exact .ite _ ((State.select_lined _).after (h _ _ _ (.of_eq rfl))) (h _ _ _ (.of_eq rfl))

theorem State.logCondition_lined (s : State) (code : Code) (v : Int) : s.Lined (s.logCondition code v) := by
  unfold State.logCondition
  split
  · exact .ite _ ((State.makeEntry_lined _ _ _).after (.of_eq rfl)) (.of_eq rfl)
  · exact s.makeEntry_lined _ _

theorem State.logEvent_lined (s : State) (code : Code) (v : Int) : s.Lined (s.logEvent code v) := by
  unfold State.logEvent
  split
  · exact .ite _ (.of_eq rfl) (s.makeEntry_lined _ _)
  · exact s.makeEntry_lined _ _

theorem State.serve_lined (s : State) (r : Request) : s.Lined (s.serve r) := by
  cases r with
  | raised code v o =>
    have hj : s.Lined (s.joined code o) := .ite _ ((State.indicate_lined _).after (.of_eq rfl)) (.refl s)
    have ha : s.Lined (s.acted code o) := .ite _ (hj.trans (State.trip_lined _ _ _)) hj
    rw [State.serve, State.takeRaise_eq]
    exact .ite _ (ha.trans (State.logCondition_lined _ _ _)) (ha.trans (State.logEvent_lined _ _ _))
  | cleared code =>
    have h : s.Lined { s with flu := { s.flu with members := s.flu.members.filter (fun m => m.code != code) } } := .of_eq rfl
    exact .ite _ (.refl s) ((h.trans (State.indicate_lined _)).trans (.of_eq rfl))

theorem State.settleWithin_lined (n : Nat) (s : State) : s.Lined (s.settleWithin n) := by
  induction n generalizing s with
  | zero => exact .refl s
  | succ n ih =>
    unfold State.settleWithin
    split
    · exact .refl s
    · exact (ih _).after ((State.serve_lined _ _).after (.of_eq rfl))

theorem State.settle_lined (s : State) : s.Lined s.settle := s.settleWithin_lined 32

theorem State.raiseNow_lined (s : State) (code : Code) (v : Int) (o : Option Origin) : s.Lined (s.raiseNow code v o) :=
  (State.settle_lined _).after (.of_eq rfl)

theorem State.clearNow_lined (s : State) (code : Code) : s.Lined (s.clearNow code) := (State.settle_lined _).after (.of_eq rfl)

/-! ### What a member of the condition set carries -/

/-- The condition set has a code as a member that carries some actions. -/
def State.Bears (s : State) (c : Code) (a : Actions) : Prop := ∃ m ∈ s.flu.members, m.code = c ∧ a.join m.actions = m.actions

theorem Actions.join_assoc (a b c : Actions) : (a.join b).join c = a.join (b.join c) := by
  simp [Actions.join, Bool.or_assoc, Nat.max_assoc]

theorem Actions.join_comm (a b : Actions) : a.join b = b.join a := by
  simp [Actions.join, Bool.or_comm, Nat.max_comm]

theorem joinSet_bears (c : Code) (a : Actions) (ms : List Member) :
    ∃ m ∈ joinSet c a ms, m.code = c ∧ a.join m.actions = m.actions := by
  induction ms with
  | nil => exact ⟨_, List.mem_singleton.mpr rfl, rfl, a.join_self⟩
  | cons x rest ih =>
    unfold joinSet
    split
    · rename_i h
      refine ⟨_, List.mem_cons_self, h, ?_⟩
      show a.join (x.actions.join a) = x.actions.join a
      rw [x.actions.join_comm a, ← Actions.join_assoc, a.join_self]
    · obtain ⟨m, hm, h⟩ := ih
      exact ⟨m, List.mem_cons_of_mem x hm, h⟩

theorem joinSet_bearing (d c : Code) (b a : Actions) (ms : List Member)
    (h : ∃ m ∈ ms, m.code = c ∧ a.join m.actions = m.actions) :
    ∃ m ∈ joinSet d b ms, m.code = c ∧ a.join m.actions = m.actions := by
  induction ms with
  | nil => obtain ⟨m, hm, _⟩ := h; cases hm
  | cons x rest ih =>
    obtain ⟨m, hm, hc, ha⟩ := h
    unfold joinSet
    split
    · rcases List.mem_cons.mp hm with rfl | hm
      · exact ⟨_, List.mem_cons_self, hc, by show a.join (m.actions.join b) = m.actions.join b; rw [← Actions.join_assoc, ha]⟩
      · exact ⟨m, List.mem_cons_of_mem _ hm, hc, ha⟩
    · rcases List.mem_cons.mp hm with rfl | hm
      · exact ⟨m, List.mem_cons_self, hc, ha⟩
      · obtain ⟨y, hy, h⟩ := ih ⟨m, hm, hc, ha⟩
        exact ⟨y, List.mem_cons_of_mem _ hy, h⟩

/-- The taking of a request that does not clear the code leaves its member bearing what it bears. -/
theorem State.serve_bears (s : State) (r : Request) {c : Code} {a : Actions} (h : s.Bears c a) (hr : r ≠ .cleared c) :
    (s.serve r).Bears c a := by
  cases r with
  | raised d v o =>
    unfold State.Bears State.serve
    rw [State.takeRaise_members]
    split
    · exact joinSet_bearing d c _ a _ h
    · exact h
  | cleared d =>
    unfold State.Bears State.serve
    rw [State.takeClear_members]
    split
    · exact h
    · obtain ⟨m, hm, hc, ha⟩ := h
      refine ⟨m, List.mem_filter.mpr ⟨hm, ?_⟩, hc, ha⟩
      have : c ≠ d := fun e => hr (e ▸ rfl)
      simpa [hc] using this

/-- The requests after one is taken: those that waited and raises of a trip. -/
theorem State.serve_requests (s : State) (r : Request) {rest : List Request} :
    ∃ l : List Request, (State.serve { s with flu := { s.flu with inbox := rest } } r).requests = rest ++ l ∧
      (∀ q ∈ l, q.isTrip = true) ∧
      l.length + (State.serve { s with flu := { s.flu with inbox := rest } } r).stc.state.spare ≤ s.stc.state.spare :=
  State.serve_onward { s with flu := { s.flu with inbox := rest } } r

theorem Request.isTrip_ne_cleared {r : Request} (h : r.isTrip = true) (c : Code) : r ≠ .cleared c := by
  rintro rfl
  cases h

/-- A member stays bearing what it bears through the taking of requests of which none clears its code. -/
theorem State.settleWithin_bears (n : Nat) (s : State) {c : Code} {a : Actions} (h : s.Bears c a)
    (hr : ∀ r ∈ s.requests, r ≠ .cleared c) : (s.settleWithin n).Bears c a := by
  induction n generalizing s with
  | zero => exact h
  | succ n ih =>
    unfold State.settleWithin
    split
    · exact h
    · rename_i r rest hs
      have hin : s.requests = r :: rest := hs
      rw [hin] at hr
      refine ih _ (State.serve_bears _ r h (hr r List.mem_cons_self)) ?_
      obtain ⟨l, hl, ht, _⟩ := s.serve_requests r (rest := rest)
      rw [hl]
      intro q hq
      rcases List.mem_append.mp hq with hq | hq
      · exact hr q (List.mem_cons_of_mem _ hq)
      · exact Request.isTrip_ne_cleared (ht q hq) c

/-- A raise of a condition code that waits, once every request is taken, has its code in the set with its actions. -/
theorem State.settleWithin_raised (n : Nat) (s : State) {c : Code} {v : Int} {o : Option Origin} (hc : c.isCondition = true)
    (h : .raised c v o ∈ s.requests) (hr : ∀ r ∈ s.requests, r ≠ .cleared c) (hn : s.load ≤ n) :
    (s.settleWithin n).Bears c (c.actions o) := by
  induction n generalizing s with
  | zero =>
    have hlen : s.requests.length ≠ 0 := fun h0 => by
      rw [List.eq_nil_of_length_eq_zero h0] at h
      cases h
    unfold State.load at hn
    omega
  | succ n ih =>
    unfold State.settleWithin
    split
    · rename_i hs
      have hin : s.requests = [] := hs
      rw [hin] at h
      cases h
    · rename_i r rest hs
      have hin : s.requests = r :: rest := hs
      unfold State.load at hn
      rw [hin] at h hr hn
      obtain ⟨l, hl, ht, hlen⟩ := s.serve_requests r (rest := rest)
      have hr' : ∀ q ∈ (State.serve { s with flu := { s.flu with inbox := rest } } r).requests, q ≠ .cleared c := by
        rw [hl]
        intro q hq
        rcases List.mem_append.mp hq with hq | hq
        · exact hr q (List.mem_cons_of_mem _ hq)
        · exact Request.isTrip_ne_cleared (ht q hq) c
      rcases List.mem_cons.mp h with rfl | h
      · refine State.settleWithin_bears n _ ?_ hr'
        unfold State.Bears State.serve
        rw [State.takeRaise_members, if_pos hc]
        exact joinSet_bears c _ _
      · refine ih _ (by rw [hl]; exact List.mem_append_left l h) hr' ?_
        unfold State.load
        rw [hl, List.length_append]
        rw [List.length_cons] at hn
        omega

theorem State.settle_raised (s : State) {c : Code} {v : Int} {o : Option Origin} (hc : c.isCondition = true)
    (h : .raised c v o ∈ s.requests) (hr : ∀ r ∈ s.requests, r ≠ .cleared c) (hn : s.requests.length ≤ 29) :
    s.settle.Bears c (c.actions o) :=
  s.settleWithin_raised 32 hc h hr (by have := s.stc.state.spare_le; unfold State.load; omega)

/-- A code raised at a calm state stands in the condition set with its actions. -/
theorem State.raiseNow_bears (s : State) {c : Code} (v : Int) (o : Option Origin) (hi : s.flu.inbox = [])
    (hc : c.isCondition = true) : (s.raiseNow c v o).Bears c (c.actions o) := by
  have hreq : (s.raise c v o).requests = [.raised c v o] := by
    show s.flu.inbox ++ [_] = _
    rw [hi]
    rfl
  refine State.settle_raised _ (v := v) hc (by rw [hreq]; exact List.mem_singleton.mpr rfl) (fun r hr => ?_) (by rw [hreq, List.length_singleton]; decide)
  rw [hreq, List.mem_singleton] at hr
  rw [hr]
  exact fun h => by cases h

theorem State.Bears.member {s : State} {c : Code} {a : Actions} (h : s.Bears c a) : inMembers c s.flu.members = true := by
  obtain ⟨m, hm, hc, _⟩ := h
  exact List.any_eq_true.mpr ⟨m, hm, by simp [hc]⟩

theorem State.Bears.stringLatch {s : State} {c : Code} {a : Actions} (h : s.Bears c a) (k : s.Indicated)
    (ha : a.stringLatch = true) : s.flu.stringLatch = true := by
  obtain ⟨m, hm, _, hj⟩ := h
  rw [k.2.1]
  refine List.any_eq_true.mpr ⟨m, hm, ?_⟩
  rw [← hj]
  simp [Actions.join, ha]

theorem State.Bears.yawLock {s : State} {c : Code} {a : Actions} (h : s.Bears c a) (k : s.Indicated)
    (ha : a.yawLock = true) : s.flu.yawLock = true := by
  obtain ⟨m, hm, _, hj⟩ := h
  rw [k.2.2.1]
  refine List.any_eq_true.mpr ⟨m, hm, ?_⟩
  rw [← hj]
  simp [Actions.join, ha]

theorem State.Bears.pumpLatch {s : State} {c : Code} {a : Actions} (h : s.Bears c a) (k : s.Indicated)
    (ha : a.pumpLatch = true) : s.flu.pumpLatch = true := by
  obtain ⟨m, hm, _, hj⟩ := h
  rw [k.2.2.2.1]
  refine List.any_eq_true.mpr ⟨m, hm, ?_⟩
  rw [← hj]
  simp [Actions.join, ha]

theorem State.Bears.exponent {s : State} {c : Code} {a : Actions} (h : s.Bears c a) (k : s.Indicated) :
    min 3 a.derate ≤ s.flu.exponent := by
  obtain ⟨m, hm, _, hj⟩ := h
  have hd : a.derate ≤ m.actions.derate := by
    rw [← hj]
    exact Nat.le_max_left _ _
  have hle := (foldl_max_spec (fun m : Member => m.actions.derate) s.flu.members 0).2.1 m hm
  rw [k.1]
  unfold exponentOf
  omega

/-! ### Raises and clears that wait for nothing -/

/-- A raise that leaves no request is the raise that the FLU takes (10 R166). -/
theorem State.raiseNow_eq (s : State) (c : Code) (v : Int) (o : Option Origin) (hi : s.flu.inbox = [])
    (ht : (s.takeRaise c v o).requests = []) : s.raiseNow c v o = s.takeRaise c v o := by
  have hs : ({ s with flu := { s.flu with inbox := [] } } : State) = s := by
    rw [← hi]
  have hraise : (s.raise c v o).flu.inbox = [.raised c v o] := by
    show s.flu.inbox ++ [_] = _
    rw [hi]
    rfl
  have hrest : ({ s.raise c v o with flu := { (s.raise c v o).flu with inbox := [] } } : State) =
      { s with flu := { s.flu with inbox := [] } } := rfl
  unfold State.raiseNow State.settle State.settleWithin
  rw [hraise]
  dsimp only
  rw [hrest, hs, State.serve]
  unfold State.settleWithin
  rw [show (s.takeRaise c v o).flu.inbox = [] from ht]

/-- A clear that leaves no request is the clear that the FLU takes (10 R166). -/
theorem State.clearNow_eq (s : State) (c : Code) (hi : s.flu.inbox = []) (ht : (s.takeClear c).requests = []) :
    s.clearNow c = s.takeClear c := by
  have hs : ({ s with flu := { s.flu with inbox := [] } } : State) = s := by
    rw [← hi]
  have hclear : (s.clear c).flu.inbox = [.cleared c] := by
    show s.flu.inbox ++ [_] = _
    rw [hi]
    rfl
  have hrest : ({ s.clear c with flu := { (s.clear c).flu with inbox := [] } } : State) =
      { s with flu := { s.flu with inbox := [] } } := rfl
  unfold State.clearNow State.settle State.settleWithin
  rw [hclear]
  dsimp only
  rw [hrest, hs, State.serve]
  unfold State.settleWithin
  rw [show (s.takeClear c).flu.inbox = [] from ht]

/-- A raise of a condition code without actions is its joining and its work on the log. -/
theorem State.raiseNow_quiet (s : State) (c : Code) (v : Int) (o : Option Origin) (h : s.Calm)
    (ha : c.actions o = Actions.none) (hc : c.isCondition = true) :
    s.raiseNow c v o =
      State.logCondition { s with flu := { s.flu with members := joinSet c Actions.none s.flu.members } } c
        (clampInt (-32768) 32767 v) := by
  have he := s.takeRaise_quiet c v o h.2 ha hc
  rw [← he]
  refine s.raiseNow_eq c v o h.1 ?_
  rw [he, State.logCondition_requests]
  exact h.1

/-- A raise of an event code without actions is its work on the log. -/
theorem State.raiseNow_event (s : State) (c : Code) (v : Int) (o : Option Origin) (hi : s.flu.inbox = [])
    (ha : (c.actions o).trip = false) (hc : c.isCondition = false) :
    s.raiseNow c v o = s.logEvent c (clampInt (-32768) 32767 v) := by
  have he : s.takeRaise c v o = s.logEvent c (clampInt (-32768) 32767 v) := by
    simp only [State.takeRaise_eq, State.acted, State.joined, ha, hc, Bool.false_eq_true, if_false]
  rw [← he]
  refine s.raiseNow_eq c v o hi ?_
  rw [he, State.logEvent_requests]
  exact hi

/-- Indications that are those of the condition set are given to no reader. -/
theorem State.indicate_still (s : State) (he : s.flu.exponent = exponentOf s.flu.members)
    (hs : s.flu.stringLatch = s.flu.members.any (fun m => m.actions.stringLatch))
    (hy : s.flu.yawLock = s.flu.members.any (fun m => m.actions.yawLock))
    (hp : s.flu.pumpLatch = s.flu.members.any (fun m => m.actions.pumpLatch)) : s.indicate = s := by
  unfold State.indicate
  dsimp only
  rw [← he, ← hs, ← hy, ← hp]
  simp only [if_true]

/-- A member without actions that leaves the set changes no indication. -/
theorem filter_quiet (c : Code) (ms : List Member) (h : ∀ m ∈ ms, m.code = c → m.actions = Actions.none) :
    exponentOf (ms.filter (fun m => m.code != c)) = exponentOf ms ∧
    (ms.filter (fun m => m.code != c)).any (fun m => m.actions.stringLatch) = ms.any (fun m => m.actions.stringLatch) ∧
    (ms.filter (fun m => m.code != c)).any (fun m => m.actions.yawLock) = ms.any (fun m => m.actions.yawLock) ∧
    (ms.filter (fun m => m.code != c)).any (fun m => m.actions.pumpLatch) = ms.any (fun m => m.actions.pumpLatch) := by
  have hf : (ms.filter (fun m => m.code != c)).foldl (fun e m => max e m.actions.derate) 0 =
        ms.foldl (fun e m => max e m.actions.derate) 0 ∧
      (ms.filter (fun m => m.code != c)).any (fun m => m.actions.stringLatch) = ms.any (fun m => m.actions.stringLatch) ∧
      (ms.filter (fun m => m.code != c)).any (fun m => m.actions.yawLock) = ms.any (fun m => m.actions.yawLock) ∧
      (ms.filter (fun m => m.code != c)).any (fun m => m.actions.pumpLatch) = ms.any (fun m => m.actions.pumpLatch) := by
    induction ms with
    | nil => exact ⟨rfl, rfl, rfl, rfl⟩
    | cons m rest ih =>
      obtain ⟨i1, i2, i3, i4⟩ := ih (fun x hx => h x (List.mem_cons_of_mem m hx))
      by_cases hm : m.code = c
      · have ha := h m List.mem_cons_self hm
        rw [List.filter_cons_of_neg (by simp [hm]), i1, i2, i3, i4]
        simp [ha, Actions.none]
      · rw [List.filter_cons_of_pos (by simpa using hm)]
        simp only [List.foldl_cons, List.any_cons, i2, i3, i4, and_true]
        rw [exponentOf_fold, i1, ← exponentOf_fold]
  unfold exponentOf
  exact ⟨by rw [hf.1], hf.2⟩

/-- The log with the entries of a code INACTIVE. -/
def inactiveLog (c : Code) (log : List Entry) : List Entry :=
  log.map (fun e => if e.code = c ∧ e.active = true then { e with active := false } else e)

/-- A clear of a code without actions takes its member and its ACTIVE entries away, and changes nothing else. -/
theorem State.clearNow_quiet (s : State) (c : Code) (h : s.Calm) (ha : ∀ m ∈ s.flu.members, m.code = c → m.actions = Actions.none) :
    s.clearNow c =
      if c.isLatched || !inMembers c s.flu.members then s
      else { s with flu := { s.flu with
        members := s.flu.members.filter (fun m => m.code != c)
        log := inactiveLog c s.flu.log } } := by
  have he : s.takeClear c =
      if c.isLatched || !inMembers c s.flu.members then s
      else { s with flu := { s.flu with
        members := s.flu.members.filter (fun m => m.code != c)
        log := inactiveLog c s.flu.log } } := by
    obtain ⟨q1, q2, q3, q4⟩ := filter_quiet c s.flu.members ha
    obtain ⟨_, h1, h2, h3, h4, _⟩ := h
    unfold State.takeClear
    dsimp only
    rw [State.indicate_still { s with flu := { s.flu with members := s.flu.members.filter (fun m => m.code != c) } }
      (h1.trans q1.symm) (h2.trans q2.symm) (h3.trans q3.symm) (h4.trans q4.symm)]
    rfl
  rw [← he]
  refine s.clearNow_eq c h.1 ?_
  rw [he]
  split <;> exact h.1

/-- The members of a code without actions carry none (10 R165, R167). -/
theorem State.Tabled.quiet {s : State} (h : s.Tabled) {c : Code} (hc : c ≠ .roleConflict) (ha : c.actions none = Actions.none) :
    ∀ m ∈ s.flu.members, m.code = c → m.actions = Actions.none := by
  intro m hm he
  have := (h m hm).2
  rw [if_neg (by rw [he]; exact hc), he, ha] at this
  exact this

end Sys2Proof.Machine
end

section
/-! PROOFS. What work on the fault log leaves as it stands, a sixteenth failed attempt, and the counted frames
(01 R5, R12, R15 to R17). -/

namespace Sys2Proof.Machine

/-! ### The frame of the fault log -/

/-- The FLU without its log and its announcement. -/
def Flu.unlogged (f : Flu) : Flu :=
  { f with
    log := []
    counter := 0
    overflow := false
    pressure := false
    repeats := { critical := none, major := none, minor := none, info := none }
    held := [] }

/-- What the work on the log and the announcement does not touch: every block but the LIF and the FLU, and the FLU without its log. -/
def State.besidesLog (s : State) : Icu × Ptb × Stc × Ywc × Clc × Flu × Levels × Differing × Nat × List Instr :=
  (s.icu, s.ptb, s.stc, s.ywc, s.clc, s.flu.unlogged, s.levels, s.differing, s.draws, s.pending)

theorem State.besidesLog_ite (c : Prop) [Decidable c] (s t : State) :
    (if c then s else t).besidesLog = if c then s.besidesLog else t.besidesLog := apply_ite State.besidesLog c s t

theorem State.request_besidesLog (s : State) (k : Kind) (p : List Byte) : (s.request k p).1.besidesLog = s.besidesLog := by
  unfold State.request
  split <;> rfl

theorem State.requestNotice_besidesLog (s : State) (e : Entry) : (s.requestNotice e).besidesLog = s.besidesLog := by
  have h := s.request_besidesLog .faultNotice (encodeNotice e)
  unfold State.requestNotice
  dsimp only
  generalize (s.request .faultNotice (encodeNotice e)) = r at h ⊢
  split <;> exact h

theorem State.select_besidesLog (s : State) : s.select.besidesLog = s.besidesLog := by
  unfold State.select
  split
  · split
    · exact State.requestNotice_besidesLog _ _
    · rfl
  · rfl

theorem State.removedIf_besidesLog (s : State) (e : Option Entry) : (s.removedIf e).besidesLog = s.besidesLog := by
  unfold State.removedIf State.removed
  split
  · split <;> rfl
  · rfl

theorem State.testPressure_besidesLog (s : State) : s.testPressure.besidesLog = s.besidesLog := rfl

theorem State.makeEntry_besidesLog (s : State) (code : Code) (v : Int) : (s.makeEntry code v).besidesLog = s.besidesLog := by
  unfold State.makeEntry
  dsimp only
  rw [State.besidesLog_ite, State.select_besidesLog, ite_self, State.testPressure_besidesLog, State.removedIf_besidesLog,
    State.removedIf_besidesLog]
  rfl

theorem State.logCondition_besidesLog (s : State) (code : Code) (v : Int) :
    (s.logCondition code v).besidesLog = s.besidesLog := by
  unfold State.logCondition
  split
  · split
    · exact State.makeEntry_besidesLog _ _ _
    · rfl
  · exact s.makeEntry_besidesLog _ _

theorem State.logEvent_besidesLog (s : State) (code : Code) (v : Int) : (s.logEvent code v).besidesLog = s.besidesLog := by
  unfold State.logEvent
  split
  · split
    · rfl
    · exact s.makeEntry_besidesLog _ _
  · exact s.makeEntry_besidesLog _ _

/-- Work on the log and the announcement, after which only the LIF and the FLU differ. -/
structure State.LogWork (s t : State) : Prop where
  icu : t.icu = s.icu
  ptb : t.ptb = s.ptb
  stc : t.stc = s.stc
  ywc : t.ywc = s.ywc
  clc : t.clc = s.clc
  flu : t.flu.unlogged = s.flu.unlogged
  levels : t.levels = s.levels
  differing : t.differing = s.differing
  draws : t.draws = s.draws
  pending : t.pending = s.pending

theorem State.LogWork.of_eq {s t : State} (h : t.besidesLog = s.besidesLog) : s.LogWork t := by
  simp only [State.besidesLog, Prod.mk.injEq] at h
  obtain ⟨h1, h2, h3, h4, h5, h6, h7, h8, h9, h10⟩ := h
  exact ⟨h1, h2, h3, h4, h5, h6, h7, h8, h9, h10⟩

theorem State.LogWork.rest {s t : State} (h : s.LogWork t) : t = { s with lif := t.lif, flu := t.flu } := by
  obtain ⟨h1, h2, h3, h4, h5, _, h7, h8, h9, h10⟩ := h
  rw [← h1, ← h2, ← h3, ← h4, ← h5, ← h7, ← h8, ← h9, ← h10]

theorem State.LogWork.members {s t : State} (h : s.LogWork t) : t.flu.members = s.flu.members := (congrArg Flu.members h.flu :)

theorem State.LogWork.supervisor {s t : State} (h : s.LogWork t) : t.flu.supervisor = s.flu.supervisor :=
  (congrArg Flu.supervisor h.flu :)

theorem State.LogWork.inbox {s t : State} (h : s.LogWork t) : t.flu.inbox = s.flu.inbox := (congrArg Flu.inbox h.flu :)

/-- A raise of a condition code without actions at a calm state: the code joins the set, and the rest is work on the log. -/
theorem State.raiseNow_logWork (s : State) (c : Code) (v : Int) (o : Option Origin) (h : s.Calm)
    (ha : c.actions o = Actions.none) (hc : c.isCondition = true) :
    State.LogWork { s with flu := { s.flu with members := joinSet c Actions.none s.flu.members } } (s.raiseNow c v o) := by
  rw [s.raiseNow_quiet c v o h ha hc]
  exact .of_eq (State.logCondition_besidesLog _ _ _)

/-! ### A sixteenth failed attempt -/

theorem kindCode_clamped (k : Kind) : clampInt (-32768) 32767 (k.code : Int) = k.code := by cases k <;> rfl

/-- The raise of an event code without actions on an empty log, without a supervisor: one entry. -/
theorem State.raiseNow_first (s : State) (c : Code) (v : Int) (hi : s.flu.inbox = []) (ha : (c.actions none).trip = false)
    (hc : c.isCondition = false) (hl : s.flu.log = []) (hs : s.flu.supervisor = false) :
    s.raiseNow c v = { s with flu := { s.flu with
      log := [s.newEntry c (clampInt (-32768) 32767 v)]
      counter := (s.flu.counter + 1) % 4096
      pressure := decide (s.watermark ≤ unackedCount [s.newEntry c (clampInt (-32768) 32767 v)]) } } := by
  rw [s.raiseNow_event c v none hi ha hc, s.logEvent_new _ _ (by rw [hl]; rfl),
    s.makeEntry_appended _ _ (by rw [hl]; decide) hs (by rw [hl]; intro e he; cases he), hl, List.nil_append]

theorem State.discardNotice_unlogged (s : State) (f : QueuedFrame) (hl : s.flu.log = []) : s.discardNotice f = s := by
  refine s.discardNotice_none f (.inr fun n _ => ?_)
  unfold State.inService
  rw [hl]
  rfl

/-- The report of a discarded frame on an empty log: one entry of LINE_TX_FAIL. -/
theorem State.reportDiscard_first (s : State) (f : QueuedFrame) (hi : s.flu.inbox = []) (hl : s.flu.log = [])
    (hs : s.flu.supervisor = false) :
    s.reportDiscard f = { s with flu := { s.flu with
      log := [s.newEntry .lineTxFail f.kind.code]
      counter := (s.flu.counter + 1) % 4096
      pressure := decide (s.watermark ≤ unackedCount [s.newEntry .lineTxFail f.kind.code]) } } := by
  unfold State.reportDiscard
  rw [s.discardNotice_unlogged f hl, s.raiseNow_first _ _ hi rfl rfl hl hs, kindCode_clamped f.kind]

/-- Settles O13, by the two orders of a discard and the STATUS that waits for the place. -/
theorem sixteenthFailure : Obligations.SixteenthFailure := by
  refine ⟨fun s a b f hq hf ho ha hc hh hl hs => ?_, fun s a b f p hq hf hk ho ha hp hi => ?_⟩
  · have h : s.lif.Sends a f b := ⟨hq, hf, ho⟩
    rw [exec_readBackMismatch h, if_pos (by omega)]
    generalize ht : ({ s with lif := s.lif.removeSent, draws := s.draws + 1 } : State) = t
    have hth : t.NothingHeld := by
      rw [← ht, h.removeSent]
      exact hh
    have hr := t.reportDiscard_first f (by rw [← ht]; exact hc.1) (by rw [← ht]; exact hl) (by rw [← ht]; exact hs)
    have hd : s.discardSent f = t.reportDiscard f := by
      have he := s.discardSent_either f (.inr hh.2.2.2.2.1)
      dsimp only at he
      rw [ht, t.placeFree_nothing hth, hr, State.placeFree_nothing (by exact hth), or_self] at he
      rw [he, hr]
    refine ⟨_, rfl, ?_⟩
    rw [hd, hr, ← ht, h.removeSent]
    exact ⟨rfl, rfl, rfl⟩
  · have h : s.lif.Sends a f b := ⟨hq, hf, fun g hg => (ho g hg).1⟩
    rw [exec_readBackMismatch h, if_pos (by omega), s.discardSent_successor f hk (by rw [hp]; rfl), h.removeSent]
    refine ⟨_, rfl, ?_⟩
    unfold State.reportDiscard
    rw [State.discardNotice_none _ f (.inl (by rw [hk]; decide)), hk]
    exact State.placeFree_offered _ ((State.raiseNow_lined _ _ _ _).idle hi)

/-! ### Counted frames -/

/-- A damaged frame that does not set the degraded flag is counted, and nothing else (01 R15, R16). -/
theorem State.damaged_counted (s : State) (h : s.lif.errors + 8 < 96 ∨ s.lif.degraded = true) :
    s.damaged = { s with lif := { s.lif with errors := min 255 (s.lif.errors + 8), lineIdle := false } } := by
  refine if_neg (fun hn => ?_)
  rcases h with h | h
  · omega
  · exact absurd hn.2 (by simp [h])

theorem State.damaged_degrades (s : State) (h : 96 ≤ s.lif.errors + 8) (hd : s.lif.degraded = false) :
    s.damaged = State.raiseNow { s with lif := { s.lif with
      errors := min 255 (s.lif.errors + 8), lineIdle := false, degraded := true } } .lineDegraded (min 255 (s.lif.errors + 8) : Nat) :=
  if_pos ⟨by omega, hd⟩

/-- The state with the degraded flag cleared and LINE_DEGRADED out of the condition set (01 R16). -/
def State.restored (s : State) : State :=
  { s with
    lif := { s.lif with degraded := false }
    flu :=
      if inMembers .lineDegraded s.flu.members then
        { s.flu with
          members := s.flu.members.filter (fun m => m.code != .lineDegraded)
          log := inactiveLog .lineDegraded s.flu.log }
      else s.flu }

/-- The count of a good frame that clears the degraded flag is that of one that finds it clear (01 R16). -/
theorem State.countGood_restored (s : State) (hd : s.lif.degraded = true) (he : s.lif.errors ≤ 64) (hc : s.Calm)
    (ht : s.Tabled) : s.countGood = s.restored.countGood := by
  rw [s.countGood_clears hd he, State.clearNow_quiet _ _ (by exact hc) (by exact ht.quiet (by decide) rfl),
    s.restored.countGood_quiet (fun h => by cases h)]
  unfold State.restored
  cases inMembers .lineDegraded s.flu.members <;> rfl

/-- A good frame from another station depends on the state through its count with the presence refresh alone, and the own number. -/
theorem exec_frame_congr {c : Instr} {kind : Option Kind} {source : Station} (hf : FrameFrom c kind source) {s v : State}
    (ho : source ≠ s.own) (hv : v.own = s.own) (h : v.countGood.refresh source kind = s.countGood.refresh source kind) :
    exec c v = exec c s := by
  have hov : source ≠ v.own := hv ▸ ho
  cases kind with
  | none =>
    obtain ⟨code, rfl⟩ := hf
    have he (x : State) (hx : source ≠ x.own) :
        exec (.unknownKindFrame code source) x = .next (x.countGood.refresh source none) :=
      congrArg Host.Outcome.next (if_neg hx)
    rw [he s ho, he v hov, h]
  | some k =>
    obtain ⟨payload, hl, rfl⟩ := hf
    obtain ⟨deliver, hd⟩ := exec_frameCommand k source payload
    rw [hd, hd]
    simp only [State.receive, if_pos hl, if_neg ho, if_neg hov, h]

theorem State.restored_inactive (s : State) (h : s.LogOrdered) :
    ∀ e ∈ s.restored.flu.log, e.code = .lineDegraded → e.active = false := by
  intro e he hc
  unfold State.restored at he
  split at he
  · obtain ⟨x, _, rfl⟩ := List.mem_map.mp he
    by_cases hx : x.code = .lineDegraded ∧ x.active = true
    · rw [if_pos hx]
    · rw [if_neg hx] at hc ⊢
      exact (Bool.eq_false_or_eq_true x.active).resolve_left (fun ha => hx ⟨hc, ha⟩)
  · rename_i hm
    refine (Bool.eq_false_or_eq_true e.active).resolve_left (fun ha => hm ?_)
    obtain ⟨_, _, _, _, hact⟩ := h
    exact hc ▸ hact e he ha

theorem State.restored_member (s : State) (x : Code) :
    inMembers x s.restored.flu.members = (x != .lineDegraded && inMembers x s.flu.members) := by
  unfold State.restored
  dsimp only
  split
  · rw [inMembers_filter, Bool.and_comm]
  · rename_i hm
    by_cases hx : x = .lineDegraded
    · subst hx
      rw [Bool.not_eq_true] at hm
      rw [hm, Bool.and_false]
    · have hx' : (x != Code.lineDegraded) = true := bne_iff_ne.mpr hx
      rw [hx', Bool.true_and]

theorem State.restored_calm (s : State) (hc : s.Calm) (ht : s.Tabled) : s.restored.Calm := by
  obtain ⟨q1, q2, q3, q4⟩ := filter_quiet .lineDegraded s.flu.members (ht.quiet (by decide) rfl)
  obtain ⟨hi, h1, h2, h3, h4, h5⟩ := hc
  unfold State.restored
  split
  · exact ⟨hi, h1.trans q1.symm, h2.trans q2.symm, h3.trans q3.symm, h4.trans q4.symm, h5⟩
  · exact ⟨hi, h1, h2, h3, h4, h5⟩

theorem State.countGood_errors (s : State) : s.countGood.lif.errors = s.lif.errors - 1 := by
  unfold State.countGood
  dsimp only
  split
  · exact (State.clearNow_lined _ _).errors
  · rfl

theorem State.countGood_degraded (s : State) : s.countGood.lif.degraded = (decide (64 < s.lif.errors) && s.lif.degraded) := by
  unfold State.countGood
  dsimp only
  split
  · rename_i h
    refine (State.clearNow_lined _ _).degraded.trans ?_
    have : ¬ 64 < s.lif.errors := by omega
    simp [this]
  · rename_i h
    show s.lif.degraded = _
    by_cases hd : s.lif.degraded = true
    · have : 64 < s.lif.errors := by
        have : ¬ s.lif.errors - 1 < 64 := fun hn => h ⟨hn, hd⟩
        omega
      simp [this]
    · rw [Bool.not_eq_true] at hd
      rw [hd, Bool.and_false]

/-- Settles O17: damaged frames, frames that restore the line, and frames under the own number. -/
theorem countedFrames : Obligations.CountedFrames := by
  refine ⟨fun s => ⟨fun h => congrArg Host.Outcome.next (s.damaged_counted h), fun h hd hc => ?_⟩,
    fun c kind source s hf ho hd he hc ht hl => ?_, fun kind s hc => ?_⟩
  · refine ⟨s.damaged, rfl, ?_⟩
    rw [s.damaged_degrades h hd]
    generalize hx : ({ s with lif := { s.lif with
      errors := min 255 (s.lif.errors + 8), lineIdle := false, degraded := true } } : State) = x
    have hxc : x.Calm := by
      rw [← hx]
      exact hc
    have hw := x.raiseNow_logWork .lineDegraded (min 255 (s.lif.errors + 8) : Nat) none hxc rfl rfl
    have hlined := x.raiseNow_lined .lineDegraded (min 255 (s.lif.errors + 8) : Nat) none
    refine ⟨hlined.errors.trans (by rw [← hx]), hlined.degraded.trans (by rw [← hx]),
      (x.raiseNow_bears _ none hxc.1 rfl).member, hw.icu.trans ?_, hw.ptb.trans ?_, hw.stc.trans ?_, hw.ywc.trans ?_,
      hw.clc.trans ?_, hw.levels.trans ?_⟩
    all_goals rw [← hx]
  · have hv := s.countGood_restored hd he hc ht
    obtain ⟨t, hs, _⟩ := commandsComplete c s
    have hx : exec c s.restored = exec c s := exec_frame_congr hf ho rfl (congrArg (·.refresh source kind) hv.symm)
    exact ⟨s.restored, t, hx.trans hs, hs, rfl, rfl, rfl, s.restored_calm hc ht,
      s.restored_member, s.restored_inactive hl, rfl⟩
  · have hk := s.countGood_keeps
    have hi : s.countGood.flu.inbox = [] := hk.idle hc.1
    have hb := s.countGood.raiseNow_bears kind.toNat none hi (c := .duplicateStation) rfl
    have hd := (hk.trans (State.raiseNow_keeps _ .duplicateStation kind.toNat none)).indicated hc.2
    have hlined := s.countGood.raiseNow_lined .duplicateStation kind.toNat none
    have houter : (s.duplicate kind.toNat).outer = s.outer := by
      rw [State.duplicate, State.raiseNow_outer]
      unfold State.countGood
      dsimp only
      split
      · rw [State.clearNow_outer]
        rfl
      · rfl
    have hsl := hb.stringLatch hd rfl
    have hyl := hb.yawLock hd rfl
    obtain ⟨_, _, _, _, _, hsr, hyr, _⟩ := hd
    have hdeg := hlined.degraded.trans s.countGood_degraded
    refine ⟨s.duplicate kind.toNat, rfl, State.outer_icu houter, State.outer_ptb houter, State.outer_levels houter,
      hlined.errors.trans s.countGood_errors, fun he => ?_, fun he => ?_, hb.member, hsl, hyl, hsr.trans hsl, hyr.trans hyl⟩
    · refine hdeg.trans ?_
      simp [Nat.not_lt.mpr he]
    · refine hdeg.trans ?_
      simp [he]

end Sys2Proof.Machine
end

section
/-! PROOFS. The records of the peer table: STATUS with the mismatch test, TRIP_NOTICE (03 R44 to R46). -/

namespace Sys2Proof.Machine

/-! ### The mismatching stations -/

theorem State.mem_mismatching (s : State) (n : Station) : n ∈ s.mismatching ↔
    ∃ r, s.peerShowing n = some r ∧ r.phase = .configured ∧ r.serial ≠ s.icu.serial := by
  unfold State.mismatching State.showing
  simp only [List.mem_map, List.mem_filter, List.mem_filterMap, Bool.and_eq_true, beq_iff_eq, bne_iff_ne]
  constructor
  · rintro ⟨⟨m, r⟩, ⟨⟨k, _, hk⟩, hp, hne⟩, rfl⟩
    cases hs : s.peerShowing k with
    | none => rw [hs] at hk; cases hk
    | some x =>
      rw [hs] at hk
      simp only [Option.some.injEq, Prod.mk.injEq] at hk
      obtain ⟨rfl, rfl⟩ := hk
      exact ⟨x, hs, hp, hne⟩
  · rintro ⟨r, hs, hp, hne⟩
    have hn : n ∈ stations := (by decide : ∀ m : Station, m ∈ stations) n
    exact ⟨(n, r), ⟨⟨n, hn, by rw [hs]⟩, hp, hne⟩, rfl⟩

/-- The mismatching stations stand in ascending order. -/
theorem State.mismatching_sorted (s : State) : s.mismatching.Pairwise (fun m n => m < n) := by
  have hst : stations.Pairwise (fun m n => m < n) := by decide
  unfold State.mismatching State.showing
  rw [List.pairwise_map]
  refine List.Pairwise.filter _ (List.Pairwise.filterMap _ (fun m n hmn x hx y hy => ?_) hst)
  cases hm : s.peerShowing m with
  | none => rw [hm] at hx; cases hx
  | some a =>
    cases hn : s.peerShowing n with
    | none => rw [hn] at hy; cases hy
    | some b =>
      rw [hm] at hx
      rw [hn] at hy
      simp only [Option.some.injEq] at hx hy
      rw [← hx, ← hy]
      exact hmn

/-- The lowest mismatching station, and that none below it mismatches. -/
theorem State.mismatching_cons {s : State} {n : Station} {l : List Station} (h : s.mismatching = n :: l) :
    ∃ x, s.peerShowing n = some x ∧ x.phase = .configured ∧ x.serial ≠ s.icu.serial ∧
      ∀ m y, m < n → s.peerShowing m = some y → y.phase = .configured → y.serial = s.icu.serial := by
  obtain ⟨x, hx, hp, hne⟩ := (s.mem_mismatching n).mp (by rw [h]; exact List.mem_cons_self)
  refine ⟨x, hx, hp, hne, fun m y hmn hy hyp => Decidable.not_not.mp (fun hyne => ?_)⟩
  have hm : m ∈ s.mismatching := (s.mem_mismatching m).mpr ⟨y, hy, hyp, hyne⟩
  have hs := s.mismatching_sorted
  rw [h] at hm hs
  rcases List.mem_cons.mp hm with rfl | hm
  · exact Nat.lt_irrefl _ hmn
  · exact Nat.lt_asymm hmn (List.rel_of_pairwise_cons hs hm)

theorem State.serialsDiffer_iff (s : State) : s.SerialsDiffer ↔ s.configured = true ∧ s.mismatching ≠ [] := by
  unfold State.SerialsDiffer
  refine and_congr_right (fun _ => ⟨fun ⟨n, r, h⟩ hn => ?_, fun h => ?_⟩)
  · have hm := (s.mem_mismatching n).mpr ⟨r, h⟩
    rw [hn] at hm
    cases hm
  · obtain ⟨n, hn⟩ := List.exists_mem_of_ne_nil _ h
    obtain ⟨r, hr⟩ := (s.mem_mismatching n).mp hn
    exact ⟨n, r, hr⟩

/-! ### The mismatch test -/

theorem State.mismatchTest_differ {s : State} {n : Station} {l : List Station} (hc : s.configured = true)
    (h : s.mismatching = n :: l) :
    s.mismatchTest = if s.ptb.mismatch then s else (s.setMismatch true).raiseNow .configMismatch n.val := by
  unfold State.mismatchTest
  rw [hc, h]

theorem State.mismatchTest_agree {s : State} (h : ¬ s.SerialsDiffer) :
    s.mismatchTest = if s.ptb.mismatch then (s.setMismatch false).clearNow .configMismatch else s := by
  unfold State.mismatchTest
  split
  · rename_i n l hc hm
    exact absurd ((s.serialsDiffer_iff).mpr ⟨hc, by rw [hm]; exact List.cons_ne_nil _ _⟩) h
  · rfl

/-- The blocks that the mismatch test leaves as they stand: the ICU, the levels, the peers, the string, the yaw and the pumps. -/
structure State.MismatchWork (s t : State) : Prop where
  icu : t.icu = s.icu
  levels : t.levels = s.levels
  entries : t.ptb.entries = s.ptb.entries
  ptb : t.ptb = { s.ptb with mismatch := t.ptb.mismatch }

theorem State.mismatchTest_work (s : State) : s.MismatchWork s.mismatchTest := by
  have raised (b : Bool) (t : State) (h : t.outer = (s.setMismatch b).outer) : s.MismatchWork t := by
    have hp := State.outer_ptb h
    exact ⟨(State.outer_icu h :), (State.outer_levels h :), by rw [hp]; rfl, by rw [hp]; rfl⟩
  have same : s.MismatchWork s := ⟨rfl, rfl, rfl, rfl⟩
  unfold State.mismatchTest
  split
  · split
    · exact same
    · exact raised true _ (State.raiseNow_outer _ _ _ _)
  · split
    · exact raised false _ (State.clearNow_outer _ _)
    · exact same

theorem State.MismatchWork.differ {s t : State} (h : s.MismatchWork t) : t.SerialsDiffer ↔ s.SerialsDiffer := by
  have hs (n : Station) : t.peerShowing n = s.peerShowing n := by
    unfold State.peerShowing State.peer State.own
    rw [h.icu, h.entries]
  unfold State.SerialsDiffer State.configured
  simp only [hs, h.icu]

/-- The mismatch test at a calm state: the flag and CONFIG_MISMATCH follow the serials, and the other blocks stand. -/
theorem State.mismatchTest_tested (s : State) (hc : s.Calm) (ht : s.Tabled) : s.MismatchTested s.mismatchTest ∧
    s.mismatchTest.stc = s.stc ∧ s.mismatchTest.ywc = s.ywc ∧ s.mismatchTest.clc = s.clc ∧
    s.mismatchTest.differing = s.differing ∧ s.mismatchTest.draws = s.draws ∧ s.mismatchTest.pending = s.pending := by
  have hd := s.mismatchTest_work.differ
  by_cases h : s.SerialsDiffer
  · obtain ⟨hcfg, hne⟩ := s.serialsDiffer_iff.mp h
    obtain ⟨n, l, hm⟩ := List.exists_cons_of_ne_nil hne
    unfold State.MismatchTested
    rw [hd, s.mismatchTest_differ hcfg hm]
    split
    · rename_i hf
      refine ⟨⟨iff_of_true hf h, fun c => ?_⟩, rfl, rfl, rfl, rfl, rfl, rfl⟩
      rw [if_neg (fun hx => hx.2 rfl)]
    · rename_i hf
      have hw := (s.setMismatch true).raiseNow_logWork .configMismatch n.val none hc rfl rfl
      refine ⟨⟨iff_of_true (by rw [hw.ptb]; rfl) h, fun c => ?_⟩, hw.stc, hw.ywc, hw.clc, hw.differing, hw.draws, hw.pending⟩
      rw [hw.members, hw.ptb]
      refine (inMembers_joinSet _ _ _ _).trans ?_
      have hf' : true ≠ s.ptb.mismatch := fun e => hf e.symm
      by_cases hx : c = .configMismatch
      · rw [hx, if_pos (show _ ∧ (s.setMismatch true).ptb.mismatch ≠ _ from ⟨rfl, hf'⟩), beq_self_eq_true, Bool.true_or]
        rfl
      · rw [if_neg (fun k => hx k.1), beq_false_of_ne (Ne.symm hx), Bool.false_or]
        rfl
  · unfold State.MismatchTested
    rw [hd, s.mismatchTest_agree h]
    split
    · rename_i hf
      have hm := (s.setMismatch false).clearNow_quiet .configMismatch hc (ht.quiet (by decide) rfl)
      have hptb : ((s.setMismatch false).clearNow .configMismatch).ptb.mismatch = false := by
        rw [hm]
        split <;> rfl
      have hrest (t : State) (hx : t = if Code.configMismatch.isLatched || !inMembers .configMismatch (s.setMismatch false).flu.members
            then s.setMismatch false else { s.setMismatch false with flu := { (s.setMismatch false).flu with
              members := (s.setMismatch false).flu.members.filter (fun m => m.code != .configMismatch)
              log := inactiveLog .configMismatch (s.setMismatch false).flu.log } }) : t.stc = s.stc ∧ t.ywc = s.ywc ∧
          t.clc = s.clc ∧ t.differing = s.differing ∧ t.draws = s.draws ∧ t.pending = s.pending := by
        rw [hx]
        split <;> exact ⟨rfl, rfl, rfl, rfl, rfl, rfl⟩
      refine ⟨⟨iff_of_false (by rw [hptb]; decide) h, fun c => ?_⟩, hrest _ hm⟩
      rw [hptb, hf, hm]
      by_cases hx : c = .configMismatch
      · rw [if_pos (show _ ∧ false ≠ true from ⟨hx, by decide⟩), hx]
        split
        · rename_i hn
          have hl : Code.configMismatch.isLatched = false := rfl
          rw [hl, Bool.false_or, Bool.not_eq_true'] at hn
          exact hn
        · exact (inMembers_filter _ _ _).trans (by simp)
      · refine Eq.trans ?_ (if_neg (fun k => hx k.1)).symm
        split
        · rfl
        · refine (inMembers_filter _ _ _).trans ?_
          rw [bne_iff_ne.mpr hx, Bool.and_true]
          rfl
    · rename_i hf
      refine ⟨⟨iff_of_false hf h, fun c => ?_⟩, rfl, rfl, rfl, rfl, rfl, rfl⟩
      rw [if_neg (fun hx => hx.2 rfl)]

/-! ### The entry of a raise -/

theorem mem_setReport {n : Nat} {r : Report} {log : List Entry} {e : Entry} (h : e ∈ log) :
    ∃ x ∈ setReport n r log, x.code = e.code ∧ x.value = e.value := by
  refine ⟨_, List.mem_map.mpr ⟨e, h, rfl⟩, ?_⟩
  split <;> exact ⟨rfl, rfl⟩

theorem State.requestNotice_log (s : State) (e : Entry) : (s.requestNotice e).flu.log = s.flu.log := by
  unfold State.requestNotice State.request
  split <;> (dsimp only; split <;> rfl)

theorem State.mem_select_log (s : State) {e : Entry} (h : e ∈ s.flu.log) :
    ∃ x ∈ s.select.flu.log, x.code = e.code ∧ x.value = e.value := by
  unfold State.select
  split
  · split
    · unfold State.announce
      rw [State.requestNotice_log]
      exact mem_setReport h
    · exact ⟨e, h, rfl, rfl⟩
  · exact ⟨e, h, rfl, rfl⟩

theorem length_wrapRemoval (n : Nat) (log : List Entry) : (wrapRemoval n log).2.length ≤ log.length := by
  cases log with
  | nil => exact Nat.le_refl _
  | cons e rest =>
    by_cases h : e.number = n
    · rw [show wrapRemoval n (e :: rest) = (some e, rest) from if_pos h]
      exact Nat.le_succ _
    · exact Nat.le_of_eq (by rw [show wrapRemoval n (e :: rest) = (none, e :: rest) from if_neg h])

theorem State.removedIf_log (s : State) (e : Option Entry) : (s.removedIf e).flu.log = s.flu.log := by
  unfold State.removedIf State.removed
  split
  · split <;> rfl
  · rfl

/-- A new entry of a log with a free place stands in it. -/
theorem State.mem_makeEntry (s : State) (code : Code) (v : Int) (hl : s.flu.log.length < 32) :
    ∃ x ∈ (s.makeEntry code v).flu.log, x.code = code ∧ x.value = v := by
  have hst := storeIn_place (e := s.newEntry code v) (Nat.lt_of_le_of_lt (length_wrapRemoval s.flu.counter s.flu.log) hl)
  have hn : (s.newEntry code v).number = s.flu.counter := rfl
  have hmem (g h : Option Entry) (t : State) (ht : t.flu.log = (wrapRemoval s.flu.counter s.flu.log).2 ++ [s.newEntry code v]) :
      s.newEntry code v ∈ ((t.removedIf g).removedIf h).testPressure.flu.log := by
    show _ ∈ ((t.removedIf g).removedIf h).flu.log
    rw [State.removedIf_log, State.removedIf_log, ht]
    exact List.mem_append_right _ (List.mem_singleton.mpr rfl)
  unfold State.makeEntry
  simp only [hn, hst]
  split
  · exact State.mem_select_log _ (hmem _ _ _ rfl)
  · exact ⟨_, hmem _ _ _ rfl, rfl, rfl⟩

/-- A raise of a condition code leaves an entry of the code with the raise's value in a log with a free place. -/
theorem State.mem_logCondition (s : State) (code : Code) (v : Int) (hl : s.flu.log.length < 32) :
    ∃ x ∈ (s.logCondition code v).flu.log, x.code = code ∧ x.value = v := by
  unfold State.logCondition
  split
  · rename_i e he
    split
    · refine State.mem_makeEntry _ code v ?_
      exact Nat.lt_of_le_of_lt (Nat.le_of_eq (List.length_map _)) hl
    · have hm := List.mem_of_getLast? he
      obtain ⟨hlog, hc⟩ := List.mem_filter.mp hm
      exact ⟨_, List.mem_map.mpr ⟨e, hlog, if_pos rfl⟩, (beq_iff_eq.mp hc :), rfl⟩
  · exact s.mem_makeEntry code v hl

theorem station_clamped (n : Station) : clampInt (-32768) 32767 (n.val : Int) = n.val := by
  have := n.isLt
  unfold clampInt
  rw [if_neg (by omega), if_neg (by omega)]

/-! ### The records -/

theorem State.setPeer_peer (s : State) (n : Station) (e : PeerEntry) (m : Station) :
    (s.setPeer n e).peer m = if m = n then e else s.peer m := by
  unfold State.peer State.setPeer
  by_cases h : m = n
  · subst h
    rw [if_pos rfl]
    exact Vector.getElem_set_self _
  · rw [if_neg h]
    exact Vector.getElem_set_ne n.isLt m.isLt (fun e => h (Fin.ext e.symm))

theorem State.heard_peer (s : State) (kind : Option Kind) (source m : Station) (h : m ≠ source) :
    (s.heard kind source).peer m = s.peer m := (s.setPeer_peer source _ m).trans (if_neg h)

theorem exec_status_heard (s : State) (source : Station) (payload : List Byte) {r : StatusRecord}
    (h : s.Hears .status source payload) (hd : decodeStatus payload = some r) :
    exec (.status source payload) s = .next ((s.heard (some .status) source).takeStatus source r) := by
  have he : exec (.status source payload) s = execStatus source payload s := rfl
  rw [he, execStatus, s.receive_heard _ _ _ _ h, hd]

theorem exec_tripNotice_heard (s : State) (source : Station) (cause : TripCause) (st : StringState)
    (h : s.Hears .tripNotice source (encodeTrip cause st)) :
    exec (.tripNotice source (encodeTrip cause st)) s =
      .next ((s.heard (some .tripNotice) source).takeTripNotice source) := by
  have hd : decodeTrip (encodeTrip cause st) = some (cause, st) := by cases cause <;> cases st <;> rfl
  have he : exec (.tripNotice source (encodeTrip cause st)) s = execTripNotice source (encodeTrip cause st) s := rfl
  rw [he, execTripNotice, s.receive_heard _ _ _ _ h, hd]

/-- Settles O20: the record of a STATUS with the mismatch test that follows, and the override of a TRIP_NOTICE. -/
theorem peerRecordsTaken : Obligations.PeerRecordsTaken := by
  refine ⟨fun source payload r s h hd => ⟨_, exec_status_heard s source payload h hd, ?_⟩, fun source cause st s h =>
    exec_tripNotice_heard s source cause st h⟩
  unfold State.takeStatus
  generalize hu : (s.heard (some .status) source).setPeer source { (s.heard (some .status) source).peer source with
    record := some r, standing := .current, serial := if r.phase = .configured then r.serial else 0, tripped := false } = u
  have hpeer (m : Station) : u.peer m = if m = source then
      { (s.heard (some .status) source).peer source with
        record := some r, standing := .current, serial := if r.phase = .configured then r.serial else 0, tripped := false }
      else (s.heard (some .status) source).peer m := by rw [← hu, State.setPeer_peer]
  have hw := u.mismatchTest_work
  have hp (m : Station) : u.mismatchTest.peer m = u.peer m := by
    unfold State.peer
    rw [hw.entries]
  have hsil : ((s.heard (some .status) source).peer source).silence = 0 :=
    congrArg PeerEntry.silence ((s.setPeer_peer source _ source).trans (if_pos rfl))
  rw [hp source, hpeer source, if_pos rfl]
  refine ⟨rfl, rfl, rfl, rfl, hsil, fun n hn => ?_, hw.icu.trans (by rw [← hu]; rfl), hw.levels.trans (by rw [← hu]; rfl),
    fun hc ht => ?_⟩
  · rw [hp n, hpeer n, if_neg hn, s.heard_peer _ _ _ hn]
  · obtain ⟨hm, hstc, hywc, hclc, _⟩ := u.mismatchTest_tested (by rw [← hu]; exact hc) (by rw [← hu]; exact ht)
    refine ⟨?_, hstc.trans (by rw [← hu]; rfl), hywc.trans (by rw [← hu]; rfl), hclc.trans (by rw [← hu]; rfl),
      fun hf ht' hl => ?_⟩
    · have hflag : u.ptb.mismatch = s.ptb.mismatch := by rw [← hu]; rfl
      have hmem : u.flu.members = s.flu.members := by rw [← hu]; rfl
      unfold State.MismatchTested at hm ⊢
      rw [hflag, hmem] at hm
      exact hm
    · have hdiff := hw.differ.mp (hm.1.mp ht')
      obtain ⟨hcfg, hne⟩ := u.serialsDiffer_iff.mp hdiff
      obtain ⟨n, l, hmm⟩ := List.exists_cons_of_ne_nil hne
      have hshow (m : Station) : u.mismatchTest.peerShowing m = u.peerShowing m := by
        unfold State.peerShowing State.own
        rw [hp, hw.icu]
      have hflag : u.ptb.mismatch = false := by rw [← hu]; exact hf
      have hser : u.icu.serial = s.icu.serial := by rw [← hu]; rfl
      have ht : u.mismatchTest = (u.setMismatch true).raiseNow .configMismatch n.val :=
        (u.mismatchTest_differ hcfg hmm).trans (if_neg (by simp [hflag]))
      obtain ⟨x, hx, hxp, hxs, hlow⟩ := State.mismatching_cons hmm
      obtain ⟨e, he, hec, hev⟩ := State.mem_logCondition { u.setMismatch true with flu := { (u.setMismatch true).flu with
        members := joinSet .configMismatch Actions.none (u.setMismatch true).flu.members } } .configMismatch n.val
        (by rw [← hu]; exact hl)
      refine ⟨e, ?_, hec, n, x, hev, (hshow n).trans hx, hxp, hser ▸ hxs, fun m y hmn hy hyp => ?_⟩
      · have hq := (u.setMismatch true).raiseNow_quiet .configMismatch n.val none
          (by rw [← hu]; exact hc) rfl rfl
        rw [station_clamped] at hq
        rw [ht, hq]
        exact he
      · rw [hshow] at hy
        exact hser ▸ hlow m y hmn hy hyp

end Sys2Proof.Machine
end

section
/-! SUPPORT. How the string is driven, what a trip leaves, and what the taking of requests leaves of the string (04, 05). -/

namespace Sys2Proof.Machine

/-! ### Work on the string alone -/

/-- Work that changes nothing beside the STC. -/
def State.OnlyString (s t : State) : Prop := ∃ c, t = { s with stc := c }

theorem State.OnlyString.refl (s : State) : s.OnlyString s := ⟨s.stc, rfl⟩

theorem State.OnlyString.trans {s t u : State} (h : s.OnlyString t) (k : t.OnlyString u) : s.OnlyString u := by
  obtain ⟨c, rfl⟩ := h
  obtain ⟨d, rfl⟩ := k
  exact ⟨d, rfl⟩

theorem State.OnlyString.ite {s t u : State} (c : Prop) [Decidable c] (ht : s.OnlyString t) (hu : s.OnlyString u) :
    s.OnlyString (if c then t else u) := by
  split <;> assumption

theorem State.OnlyString.eq {s t : State} (h : s.OnlyString t) : t = { s with stc := t.stc } := by
  obtain ⟨c, rfl⟩ := h
  rfl

theorem State.OnlyString.settled {s t : State} (h : s.OnlyString t) (hi : s.flu.inbox = []) : t.settle = t := by
  obtain ⟨c, rfl⟩ := h
  exact State.settle_of_empty _ hi

/-- The STC of a driven string: the commands of the new state, the setpoint with its loss, and a link update where the enable
or the setpoint changes (04 R55, R57). -/
def State.drivenStc (s : State) (st : StringState) (v : Nat) : Stc :=
  { (s.setString st).stc with
    setpoint := v
    loss := lossOf v s.prm.lossFraction
    link := if st.isClosed = s.stc.enable ∧ v = s.stc.setpoint then s.stc.link else linkWord st.isClosed v
    linkSends := if st.isClosed = s.stc.enable ∧ v = s.stc.setpoint then s.stc.linkSends else s.stc.linkSends + 1 }

theorem State.drive_eq (s : State) (st : StringState) (v : Nat) : s.drive st v = { s with stc := s.drivenStc st v } := by
  by_cases h : st.isClosed = s.stc.enable ∧ v = s.stc.setpoint
  · have hd : s.drive st v = (s.setString st).setSetpoint v := if_pos h
    rw [hd]
    unfold State.drivenStc
    rw [if_pos h, if_pos h]
    rfl
  · have hd : s.drive st v = ((s.setString st).setSetpoint v).sendLink := if_neg h
    rw [hd]
    unfold State.drivenStc
    rw [if_neg h, if_neg h]
    rfl

theorem State.drive_only (s : State) (st : StringState) (v : Nat) : s.OnlyString (s.drive st v) := ⟨_, s.drive_eq st v⟩

theorem State.enterSync_only (s : State) : s.OnlyString s.enterSync := by
  have h : s.OnlyString s.syncing := (s.drive_only .sync 0).trans ⟨_, rfl⟩
  rw [s.enterSync_eq]
  exact .ite _ (h.trans ⟨_, rfl⟩) h

theorem State.startTest_stays (s : State) (h : s.mayStart = false) : s.startTest = s := if_neg (by simp [h])

theorem State.startTest_starts (s : State) (ho : s.stc.state = .off) (h : s.mayStart = true) : s.startTest = s.enterPrecharge :=
  if_pos ⟨ho, h⟩

/-- Entry to PRECHARGE with no DC link ready and no modulator fault (04 R58). -/
theorem State.enterPrecharge_waits (s : State) (hd : s.levels.dcLink = false) (hm : s.levels.modulatorFault = false) :
    s.enterPrecharge = s.precharging := by
  have hd' : s.precharging.levels.dcLink = false := hd
  have hm' : s.precharging.levels.modulatorFault = false := hm
  simp only [s.enterPrecharge_eq, hd', hm', Bool.false_eq_true, if_false]

theorem State.enterPrecharge_only (s : State) (hm : s.levels.modulatorFault = false) : s.OnlyString s.enterPrecharge := by
  have h : s.OnlyString s.precharging := ⟨_, rfl⟩
  have hu : s.OnlyString (if s.precharging.levels.dcLink then s.precharging.enterSync else s.precharging) :=
    .ite _ (h.trans (State.enterSync_only _)) h
  rw [s.enterPrecharge_eq]
  dsimp only
  generalize (if s.precharging.levels.dcLink then s.precharging.enterSync else s.precharging) = u at hu ⊢
  have hl : u.levels.modulatorFault = false := by
    obtain ⟨c, rfl⟩ := hu
    exact hm
  rw [if_neg (by simp [hl])]
  exact hu

theorem State.startTest_only (s : State) (hm : s.levels.modulatorFault = false) : s.OnlyString s.startTest :=
  .ite _ (s.enterPrecharge_only hm) (.refl s)

theorem State.enterOff_stays (s : State) (h : s.mayStart = false) : s.enterOff = s.drive .off 0 := by
  unfold State.enterOff
  refine State.startTest_stays _ ?_
  rw [s.drive_eq]
  exact h

/-! ### A trip (04 R66 to R68) -/

/-- The string opened by a trip, before what the trip requests and raises. -/
def State.stopped (s : State) : State :=
  let locks := decide (3 ≤ (tripHistory s.flu.seconds s.stc.history).length)
  let opened := ((s.setString (if locks then .locked else .tripped)).setSetpoint 0).sendLink
  { opened with stc := { opened.stc with
    prechargeTimer := none
    syncTimer := none
    zeroHoldTimer := none
    history := tripHistory s.flu.seconds s.stc.history
    coolDownTimer := if locks then opened.stc.coolDownTimer else some (s.prm.coolDown * 1000) } }

/-- An opened string with the notice requested and the cause raised. -/
def State.told (s : State) (c : TripCause) (r : Option (Code × Int)) : State := (s.stopped.requestTrip c).raiseCause r

theorem State.trip_passive (s : State) (c : TripCause) (r : Option (Code × Int)) (h : s.stc.state.isActive = false) :
    s.trip c r = s := if_neg (by simp [h])

theorem State.trip_unlocked (s : State) (c : TripCause) (r : Option (Code × Int)) (h : s.stc.state.isActive = true)
    (hl : (tripHistory s.flu.seconds s.stc.history).length < 3) : s.trip c r = s.told c r := by
  have hd : decide (3 ≤ (tripHistory s.flu.seconds s.stc.history).length) = false := decide_eq_false (by omega)
  unfold State.trip State.told State.stopped
  rw [if_pos h]
  simp only [hd, Bool.false_eq_true, if_false]

theorem State.trip_locks (s : State) (c : TripCause) (r : Option (Code × Int)) (h : s.stc.state.isActive = true)
    (hl : 3 ≤ (tripHistory s.flu.seconds s.stc.history).length) :
    s.trip c r = (s.told c r).raise .repeatedTrips (historySpan (tripHistory s.flu.seconds s.stc.history)) := by
  have hd : decide (3 ≤ (tripHistory s.flu.seconds s.stc.history).length) = true := decide_eq_true hl
  unfold State.trip State.told State.stopped
  rw [if_pos h]
  simp only [hd, if_true]

theorem State.told_string (s : State) (c : TripCause) (r : Option (Code × Int)) : (s.told c r).string = s.stopped.string := by
  rw [State.told, State.raiseCause_string, State.requestTrip_string]

theorem State.trip_string (s : State) (c : TripCause) (r : Option (Code × Int)) (h : s.stc.state.isActive = true) :
    (s.trip c r).string = s.stopped.string := by
  rcases Nat.lt_or_ge (tripHistory s.flu.seconds s.stc.history).length 3 with hl | hl
  · rw [s.trip_unlocked c r h hl, s.told_string]
  · rw [s.trip_locks c r h hl, State.raise_string, s.told_string]

/-- The raise of a trip's cause. -/
def causeRequests : Option (Code × Int) → List Request
  | some (code, v) => [.raised code v none]
  | none => []

theorem State.told_requests (s : State) (c : TripCause) (r : Option (Code × Int)) :
    (s.told c r).requests = s.requests ++ causeRequests r := by
  have h : (s.stopped.requestTrip c).requests = s.requests := by
    rw [State.requestTrip_requests]
    rfl
  unfold State.told
  cases r with
  | none => exact h.trans (List.append_nil _).symm
  | some p => exact congrArg (· ++ _) h

/-! ### A string at rest -/

/-- The STC without its held notice, its limit and its latch. -/
def State.still (s : State) : Stc :=
  { s.stc with heldTrip := none, limit := 0, parts := none, exponent := 0, latch := false }

/-- A string that is TRIPPED or LOCKED with a setpoint of 0. -/
def State.AtStop (s : State) : Prop := (s.stc.state = .tripped ∨ s.stc.state = .locked) ∧ s.stc.setpoint = 0

theorem State.still_of_string {s t : State} (h : t.string = s.string) : t.still = s.still :=
  congrArg (fun c : Stc => { c with heldTrip := none, limit := 0, parts := none, exponent := 0, latch := false }) h

theorem State.AtStop.of_still {s t : State} (k : s.AtStop) (h : t.still = s.still) : t.AtStop := by
  have h1 : t.stc.state = s.stc.state := (congrArg Stc.state h :)
  have h2 : t.stc.setpoint = s.stc.setpoint := (congrArg Stc.setpoint h :)
  unfold State.AtStop
  rw [h1, h2]
  exact k

theorem State.AtStop.passive {s : State} (k : s.AtStop) : s.stc.state.isActive = false := by
  rcases k.1 with h | h <;> rw [h] <;> rfl

theorem State.AtStop.not_off {s : State} (k : s.AtStop) : s.stc.state ≠ .off := by
  rcases k.1 with h | h <;> rw [h] <;> decide

theorem State.AtStop.respondToLimit {s : State} (k : s.AtStop) : s.respondToLimit = s := by
  unfold State.respondToLimit
  rcases k.1 with h | h <;> rw [h]

theorem State.AtStop.cutSetpoint {s : State} (k : s.AtStop) : s.cutSetpoint = s :=
  if_neg (by rw [k.2]; exact Nat.not_lt_zero _)

theorem State.AtStop.formLimit {s : State} (k : s.AtStop) : s.formLimit.still = s.still := by
  unfold State.formLimit
  split
  · dsimp only
    split
    · rfl
    · rw [State.AtStop.cutSetpoint (by exact k), State.AtStop.respondToLimit (by exact k)]
      rfl
  · rfl

theorem State.AtStop.stcLatch {s : State} (k : s.AtStop) (on : Bool) : (s.stcLatch on).still = s.still := by
  unfold State.stcLatch
  split
  · unfold State.stcLatchOn
    dsimp only
    rw [if_neg (by rw [k.passive]; decide), if_neg (fun h => k.not_off h.1)]
    rfl
  · rfl

theorem State.AtStop.indicate {s : State} (k : s.AtStop) : s.indicate.still = s.still := by
  have go {x : State} (hx : x.still = s.still) (c : Prop) [Decidable c] (f : State → State)
      (hf : x.AtStop → (f x).still = x.still) : (if c then x else f x).still = s.still := by
    split
    · exact hx
    · exact (hf (k.of_still hx)).trans hx
  unfold State.indicate
  dsimp only
  generalize hx : ({ s with flu := { s.flu with
    exponent := exponentOf s.flu.members
    stringLatch := s.flu.members.any (fun m => m.actions.stringLatch)
    yawLock := s.flu.members.any (fun m => m.actions.yawLock)
    pumpLatch := s.flu.members.any (fun m => m.actions.pumpLatch) } } : State) = x
  have h0 : x.still = s.still := by
    rw [← hx]
    rfl
  refine go (go (go (go h0 _ (fun y => y.stcDerate _) fun h => ?_) _ (fun y => y.stcLatch _) fun h => h.stcLatch _) _
    (fun y => y.ywcLock _) fun _ => State.still_of_string (by simp)) _ (fun y => y.clcLatch _) fun _ => rfl
  exact State.AtStop.formLimit (by exact h)

theorem State.AtStop.serve {s : State} (k : s.AtStop) (r : Request) : (s.serve r).still = s.still := by
  cases r with
  | raised code v o =>
    have hj : (s.joined code o).still = s.still := by
      unfold State.joined
      split
      · exact State.AtStop.indicate (by exact k)
      · rfl
    have ha : (s.acted code o).still = s.still := by
      unfold State.acted
      split
      · rw [State.stcTripRequest, State.trip_passive _ _ _ (k.of_still hj).passive, hj]
      · exact hj
    rw [State.serve, State.takeRaise_eq]
    split
    · exact (State.still_of_string (by simp)).trans ha
    · exact (State.still_of_string (by simp)).trans ha
  | cleared code =>
    show (s.takeClear code).still = s.still
    unfold State.takeClear
    split
    · rfl
    · exact State.AtStop.indicate (by exact k)

/-- The taking of requests leaves a string at rest as it is, but for its limit and its latch. -/
theorem State.AtStop.settleWithin {s : State} (k : s.AtStop) (n : Nat) : (s.settleWithin n).still = s.still := by
  induction n generalizing s with
  | zero => rfl
  | succ n ih =>
    unfold State.settleWithin
    split
    · rfl
    · rename_i r rest _
      have h := State.AtStop.serve (s := { s with flu := { s.flu with inbox := rest } }) (by exact k) r
      exact (ih (State.AtStop.of_still (by exact k) h)).trans h

theorem State.AtStop.settle {s : State} (k : s.AtStop) : s.settle.still = s.still := k.settleWithin 32

/-! ### What is given to the string -/

/-- The indications that the STC keeps as they are given to it, with its flags of what it has raised. -/
def State.given (s : State) : Bool × FlowState × Option Int × Bool × Bool × Timer :=
  (s.stc.permit, s.stc.flow, s.stc.theta, s.stc.overtemp, s.stc.contactorFault, s.stc.shareTimer)

theorem State.given_of_string {s t : State} (h : t.string = s.string) : t.given = s.given :=
  (congrArg (fun c : Stc => (c.permit, c.flow, c.theta, c.overtemp, c.contactorFault, c.shareTimer)) h :)

theorem State.drive_given (s : State) (st : StringState) (v : Nat) : (s.drive st v).given = s.given := by
  rw [s.drive_eq]
  rfl

theorem State.trip_given (s : State) (c : TripCause) (r : Option (Code × Int)) : (s.trip c r).given = s.given := by
  cases h : s.stc.state.isActive with
  | false => rw [s.trip_passive c r h]
  | true => exact (State.given_of_string (s.trip_string c r h)).trans rfl

theorem State.enterSync_given (s : State) : s.enterSync.given = s.given := by
  have h : s.syncing.given = s.given := s.drive_given _ _
  rw [s.enterSync_eq]
  split
  · exact h
  · exact h

theorem State.startTest_given (s : State) : s.startTest.given = s.given := by
  have hp : s.precharging.given = s.given := rfl
  have hu : (if s.precharging.levels.dcLink then s.precharging.enterSync else s.precharging).given = s.given := by
    split
    · exact (State.enterSync_given _).trans hp
    · exact hp
  unfold State.startTest
  split
  · rw [s.enterPrecharge_eq]
    dsimp only
    generalize (if s.precharging.levels.dcLink then s.precharging.enterSync else s.precharging) = u at hu ⊢
    split
    · exact (State.trip_given _ _ _).trans hu
    · exact hu
  · rfl

theorem State.formLimit_given (s : State) : s.formLimit.given = s.given := by
  have hc (x : State) : x.cutSetpoint.given = x.given := by
    unfold State.cutSetpoint
    split <;> rfl
  have hr (x : State) : x.respondToLimit.given = x.given := by
    unfold State.respondToLimit
    split
    · exact x.startTest_given
    all_goals rfl
  unfold State.formLimit
  split
  · dsimp only
    split
    · rfl
    · exact (hr _).trans (hc _)
  · rfl

theorem State.stcLatch_given (s : State) (on : Bool) : (s.stcLatch on).given = s.given := by
  unfold State.stcLatch
  split
  · unfold State.stcLatchOn
    dsimp only
    split
    · exact State.trip_given _ _ _
    · split
      · exact State.drive_given _ _ _
      · rfl
  · rfl

theorem State.indicate_given (s : State) : s.indicate.given = s.given := by
  have go {x : State} (hx : x.given = s.given) (c : Prop) [Decidable c] (f : State → State)
      (hf : (f x).given = x.given) : (if c then x else f x).given = s.given := by
    split
    · exact hx
    · exact hf.trans hx
  unfold State.indicate
  dsimp only
  generalize hx : ({ s with flu := { s.flu with
    exponent := exponentOf s.flu.members
    stringLatch := s.flu.members.any (fun m => m.actions.stringLatch)
    yawLock := s.flu.members.any (fun m => m.actions.yawLock)
    pumpLatch := s.flu.members.any (fun m => m.actions.pumpLatch) } } : State) = x
  have h0 : x.given = s.given := by
    rw [← hx]
    rfl
  refine go (go (go (go h0 _ (fun y => y.stcDerate _) ?_) _ (fun y => y.stcLatch _) (State.stcLatch_given _ _)) _
    (fun y => y.ywcLock _) (State.given_of_string (by simp))) _ (fun y => y.clcLatch _) rfl
  exact State.formLimit_given _

theorem State.serve_given (s : State) (r : Request) : (s.serve r).given = s.given := by
  cases r with
  | raised code v o =>
    have hj : (s.joined code o).given = s.given := by
      unfold State.joined
      split
      · exact State.indicate_given _
      · rfl
    have ha : (s.acted code o).given = s.given := by
      unfold State.acted
      split
      · exact (State.trip_given _ _ _).trans hj
      · exact hj
    rw [State.serve, State.takeRaise_eq]
    split
    · exact (State.given_of_string (by simp)).trans ha
    · exact (State.given_of_string (by simp)).trans ha
  | cleared code =>
    show (s.takeClear code).given = s.given
    unfold State.takeClear
    split
    · rfl
    · exact State.indicate_given _

theorem State.settleWithin_given (n : Nat) (s : State) : (s.settleWithin n).given = s.given := by
  induction n generalizing s with
  | zero => rfl
  | succ n ih =>
    unfold State.settleWithin
    split
    · rfl
    · exact (ih _).trans (State.serve_given _ _)

theorem State.settle_given (s : State) : s.settle.given = s.given := s.settleWithin_given 32

/-! ### Urgent requests and the blocks -/

theorem length_displaced {kind : Kind} {q rest : List QueuedFrame} {f : QueuedFrame} (h : displaced kind q = some (f, rest)) :
    q.length = rest.length + 1 := by
  obtain ⟨a, b, hq, hr, _⟩ := displaced_some h
  rw [hq, hr, List.length_append, List.length_append, List.length_cons]
  omega

theorem Lif.length_beginIfIdle (l : Lif) : l.beginIfIdle.queue.length = l.queue.length := by
  unfold Lif.beginIfIdle
  split
  · rfl
  · rename_i h
    split
    · rw [h]
      rfl
    · rfl

theorem State.length_enqueue (s : State) (k : Kind) (p : List Byte) :
    (s.enqueue k p).lif.queue.length = s.lif.queue.length + 1 :=
  (Lif.length_beginIfIdle _).trans (length_insertFrame _ _)

theorem State.discardNotice_queue (s : State) (f : QueuedFrame) (h : s.hasPlace = false) :
    (s.discardNotice f).lif.queue = s.lif.queue := by
  have hsel (x : State) (hx : x.hasPlace = false) : x.select.lif.queue = x.lif.queue := by
    unfold State.select
    split
    · split
      · rename_i e _
        obtain ⟨t, ht, _, hr⟩ := State.requestNotice_held { x with flu := { x.flu with
          log := setReport e.number .inService x.flu.log } } e (by exact hx)
        have : x.announce e = t := ht
        rw [this, hr]
      · rfl
    · rfl
  unfold State.discardNotice
  split
  · unfold State.noticeDiscarded
    split
    · exact hsel _ (by exact h)
    · rfl
  · rfl

theorem State.discardNotice_besidesLog (s : State) (f : QueuedFrame) : (s.discardNotice f).besidesLog = s.besidesLog := by
  unfold State.discardNotice
  split
  · unfold State.noticeDiscarded
    split
    · exact State.select_besidesLog _
    · rfl
  · rfl

/-- An urgent request leaves every block but the LIF and the FLU as it stands, the YWC's held requests apart. -/
structure State.UrgentWork (s t : State) : Prop where
  icu : t.icu = s.icu
  ptb : t.ptb = s.ptb
  stc : t.stc = s.stc
  ywc : t.ywc = { s.ywc with held := t.ywc.held }
  clc : t.clc = s.clc
  flu : t.flu.unlogged = s.flu.unlogged
  levels : t.levels = s.levels
  differing : t.differing = s.differing
  draws : t.draws = s.draws
  pending : t.pending = s.pending

theorem State.LogWork.urgent {s t : State} (h : s.LogWork t) : s.UrgentWork t :=
  { icu := h.icu, ptb := h.ptb, stc := h.stc, ywc := by rw [h.ywc], clc := h.clc, flu := h.flu, levels := h.levels,
    differing := h.differing, draws := h.draws, pending := h.pending }

theorem State.UrgentWork.trans {s t u : State} (h : s.UrgentWork t) (k : t.UrgentWork u) : s.UrgentWork u :=
  ⟨k.icu.trans h.icu, k.ptb.trans h.ptb, k.stc.trans h.stc, by rw [k.ywc, h.ywc], k.clc.trans h.clc, k.flu.trans h.flu,
    k.levels.trans h.levels, k.differing.trans h.differing, k.draws.trans h.draws, k.pending.trans h.pending⟩

theorem State.requestUrgent_work (s : State) (k : Kind) (p : List Byte) : s.UrgentWork (s.requestUrgent k p).1 := by
  have h0 : s.UrgentWork s := ⟨rfl, rfl, rfl, rfl, rfl, rfl, rfl, rfl, rfl, rfl⟩
  cases hp : s.hasPlace with
  | true =>
    rw [s.requestUrgent_place k p hp]
    exact ⟨rfl, rfl, rfl, rfl, rfl, rfl, rfl, rfl, rfl, rfl⟩
  | false =>
    cases hd : displaced k s.lif.queue with
    | none =>
      rw [s.requestUrgent_none k p hp hd]
      exact h0
    | some found =>
      obtain ⟨f, rest⟩ := found
      rw [s.requestUrgent_some k p f rest hp hd]
      generalize ht : State.enqueue { s with lif := { s.lif with queue := rest } } k p = t
      have hw : s.UrgentWork t := by
        rw [← ht]
        exact ⟨rfl, rfl, rfl, rfl, rfl, rfl, rfl, rfl, rfl, rfl⟩
      have hfull : t.hasPlace = false := by
        refine State.hasPlace_false ?_
        have hq : ¬ s.lif.queue.length < 8 := fun h => by
          rw [(State.hasPlace_iff s).mpr h] at hp
          cases hp
        rw [← ht, State.length_enqueue]
        have := length_displaced hd
        show 8 ≤ rest.length + 1
        omega
      have hn : (t.discardNotice f).hasPlace = false := by
        unfold State.hasPlace
        rw [t.discardNotice_queue f hfull]
        exact hfull
      dsimp only
      rw [State.placeFree_full _ hn]
      exact (hw.trans (State.LogWork.urgent (.of_eq (t.discardNotice_besidesLog f)))).trans
        ⟨rfl, rfl, rfl, rfl, rfl, rfl, rfl, rfl, rfl, rfl⟩

end Sys2Proof.Machine
end

section
/-! PROOFS. A DEMAND with the permits it gives (03 R47, R49; 04 R58 to R65; 07 R129). -/

namespace Sys2Proof.Machine

/-! ### The permit indications -/

theorem State.stcPermit_off (s : State) (permit : Bool) (h : s.stc.state = .off) :
    s.stcPermit permit = State.startTest { s with stc := { s.stc with permit := permit } } := by
  unfold State.stcPermit
  cases permit <;> simp only [h]

theorem State.stcPermit_stays (s : State) (permit : Bool)
    (h : permit = true ∧ s.stc.state ≠ .off ∨ permit = false ∧ s.stc.state ∈ [StringState.stopping, .tripped, .locked]) :
    s.stcPermit permit = { s with stc := { s.stc with permit := permit } } := by
  unfold State.stcPermit
  rcases h with ⟨rfl, h⟩ | ⟨rfl, h⟩
  · cases hs : s.stc.state
    case off => exact absurd hs h
    all_goals simp only [hs]
  · cases hs : s.stc.state
    case stopping | tripped | locked => simp only [hs]
    all_goals exact absurd (hs ▸ h) (by decide)

/-- A run permit taken away from a string that would start or runs (04 R61, R63, R65). -/
theorem State.stcPermit_precharge (s : State) (h : s.stc.state = .precharge) : s.stcPermit false =
    State.drive { s with stc := { s.stc with permit := false, prechargeTimer := none } } .off 0 := by
  have he : s.stcPermit false = State.enterOff { s with stc := { s.stc with permit := false, prechargeTimer := none } } := by
    unfold State.stcPermit
    simp only [h]
  rw [he]
  refine State.enterOff_stays _ ?_
  unfold State.mayStart
  simp only [Bool.and_false, Bool.false_and]

theorem State.stcPermit_sync (s : State) (h : s.stc.state = .sync) : s.stcPermit false =
    State.drive { s with stc := { s.stc with permit := false, syncTimer := none } } .stopping 0 := by
  unfold State.stcPermit
  simp only [h]

theorem State.stcPermit_run (s : State) (h : s.stc.state = .run) : s.stcPermit false =
    State.drive { s with stc := { s.stc with permit := false, zeroHoldTimer := none } } .stopping s.stc.setpoint := by
  unfold State.stcPermit
  simp only [h]

/-- A permit indication keeps the permit, and then tests the start, drives the string, or does no more. -/
theorem State.stcPermit_shape (s : State) (permit : Bool) : ∃ c : Stc, c.permit = permit ∧ c.state = s.stc.state ∧
    (s.stcPermit permit = State.startTest { s with stc := c } ∨ s.stcPermit permit = { s with stc := c } ∨
      ∃ st v, st.spare ≤ s.stc.state.spare ∧ s.stcPermit permit = State.drive { s with stc := c } st v) := by
  have stays (h : permit = true ∧ s.stc.state ≠ .off ∨
      permit = false ∧ s.stc.state ∈ [StringState.stopping, .tripped, .locked]) := s.stcPermit_stays permit h
  cases hs : s.stc.state
  case off => exact ⟨{ s.stc with permit := permit }, rfl, hs, .inl (s.stcPermit_off permit hs)⟩
  case stopping | tripped | locked =>
    exact ⟨{ s.stc with permit := permit }, rfl, hs, .inr (.inl (stays (by cases permit <;> simp [hs])))⟩
  all_goals cases permit
  case precharge.false =>
    exact ⟨{ s.stc with permit := false, prechargeTimer := none }, rfl, hs, .inr (.inr ⟨.off, 0, by decide, s.stcPermit_precharge hs⟩)⟩
  case sync.false =>
    exact ⟨{ s.stc with permit := false, syncTimer := none }, rfl, hs, .inr (.inr ⟨.stopping, 0, by decide, s.stcPermit_sync hs⟩)⟩
  case run.false =>
    exact ⟨{ s.stc with permit := false, zeroHoldTimer := none }, rfl, hs,
      .inr (.inr ⟨.stopping, _, by decide, s.stcPermit_run hs⟩)⟩
  all_goals exact ⟨{ s.stc with permit := true }, rfl, hs, .inr (.inl (stays (.inl ⟨rfl, by rw [hs]; decide⟩)))⟩

/-- Without a modulator fault a permit indication changes nothing beside the STC. -/
theorem State.stcPermit_only (s : State) (permit : Bool) (hm : s.levels.modulatorFault = false) :
    s.OnlyString (s.stcPermit permit) := by
  obtain ⟨c, _, _, h | h | ⟨st, v, _, h⟩⟩ := s.stcPermit_shape permit
  · rw [h]
    exact State.OnlyString.trans ⟨c, rfl⟩ (State.startTest_only _ hm)
  · rw [h]
    exact ⟨c, rfl⟩
  · rw [h]
    exact State.OnlyString.trans ⟨c, rfl⟩ (State.drive_only _ _ _)

/-- A permit indication hands the FLU the raises of a trip at most. -/
theorem State.stcPermit_onward (s : State) (permit : Bool) : s.Onward (s.stcPermit permit) := by
  obtain ⟨c, _, hc, h | h | ⟨st, v, hst, h⟩⟩ := s.stcPermit_shape permit
  · rw [h]
    exact State.Onward.from (s' := { s with stc := c }) rfl hc (State.startTest_onward _)
  · rw [h]
    exact .of_eq rfl (Nat.le_of_eq (by rw [hc]))
  · rw [h, State.drive_eq]
    exact .of_eq rfl hst

theorem State.stcPermit_permit (s : State) (permit : Bool) : (s.stcPermit permit).stc.permit = permit := by
  have given {t u : State} (h : t.given = u.given) : t.stc.permit = u.stc.permit := congrArg (fun g => g.1) h
  obtain ⟨c, hp, _, h | h | ⟨st, v, _, h⟩⟩ := s.stcPermit_shape permit
  · rw [h]
    exact (given (State.startTest_given _)).trans hp
  · rw [h]
    exact hp
  · rw [h]
    exact (given (State.drive_given _ _ _)).trans hp

/-! ### Halts -/

theorem State.requestYaw_urgent (s : State) (k : Kind) (r : Ref) (p : List Byte) : s.UrgentWork (s.requestYaw k r p) := by
  have h : s.UrgentWork (if k = .yawHalt then s.requestUrgent k p else s.request k p).1 := by
    split
    · exact s.requestUrgent_work k p
    · exact State.LogWork.urgent (.of_eq (s.request_besidesLog k p))
  unfold State.requestYaw
  dsimp only
  generalize (if k = .yawHalt then s.requestUrgent k p else s.request k p) = x at h ⊢
  split
  · exact h
  · exact h.trans ⟨rfl, rfl, rfl, rfl, rfl, rfl, rfl, rfl, rfl, rfl⟩

/-- What a halt leaves of a block's state: everything beside the YWC, and there the held requests apart what taking the halt leaves. -/
structure State.HaltWork (s t : State) (y : Ywc) : Prop where
  icu : t.icu = s.icu
  ptb : t.ptb = s.ptb
  stc : t.stc = s.stc
  ywc : t.ywc = { y with held := t.ywc.held }
  clc : t.clc = s.clc
  flu : t.flu.unlogged = s.flu.unlogged
  levels : t.levels = s.levels
  differing : t.differing = s.differing
  draws : t.draws = s.draws
  pending : t.pending = s.pending

/-- The YWC after a halt for a ref, as a function of what it was (07 R125). -/
def haltedYwc (y : Ywc) (drives holdoff : Nat) (r : Ref) : Ywc :=
  if y.moveRef = some r ∨ y.proposalRef = some r then
    let x := if y.participant = .answered then y.enter .idle drives
      else if y.participant ∈ [.releasing, .released, .driving] then y.enter .stopping drives
      else y
    if y.proposalRef = some r then
      { x with proposal := none, answerTimer := none, releaseTimer := none, holdoffTimer := some (holdoff * 1000) }
    else x
  else y

theorem State.takeHalt_eq (s : State) (r : Ref) :
    s.takeHalt r = { s with ywc := haltedYwc s.ywc s.icu.straps.drives s.prm.holdoff r } := by
  have h : s.haltParticipant = { s with ywc := if s.ywc.participant = .answered then s.ywc.enter .idle s.icu.straps.drives
      else if s.ywc.participant ∈ [.releasing, .released, .driving] then s.ywc.enter .stopping s.icu.straps.drives
      else s.ywc } := by
    unfold State.haltParticipant
    cases hp : s.ywc.participant <;> rfl
  unfold State.takeHalt haltedYwc
  rw [h]
  dsimp only
  (repeat' split) <;> rfl

theorem haltedYwc_held (y : Ywc) (drives holdoff : Nat) (r : Ref) (l : List HeldYaw) :
    haltedYwc { y with held := l } drives holdoff r = { haltedYwc y drives holdoff r with held := l } := by
  unfold haltedYwc
  have hm : ({ y with held := l } : Ywc).moveRef = y.moveRef := rfl
  have hp : ({ y with held := l } : Ywc).proposalRef = y.proposalRef := rfl
  rw [hm, hp]
  dsimp only
  (repeat' split) <;> rfl

theorem haltedYwc_permit (y : Ywc) (drives holdoff : Nat) (r : Ref) : (haltedYwc y drives holdoff r).permit = y.permit := by
  unfold haltedYwc
  dsimp only
  (repeat' split) <;> rfl

/-- A halt for the record's ref clears it with its timers and starts the holdoff (07 R125). -/
theorem haltedYwc_record (y : Ywc) (drives holdoff : Nat) {r : Ref} (h : y.proposalRef = some r) :
    (haltedYwc y drives holdoff r).proposal = none ∧ (haltedYwc y drives holdoff r).answerTimer = none ∧
      (haltedYwc y drives holdoff r).releaseTimer = none ∧
      (haltedYwc y drives holdoff r).holdoffTimer = some (holdoff * 1000) := by
  unfold haltedYwc
  rw [if_pos (Or.inr h)]
  dsimp only
  rw [if_pos h]
  exact ⟨rfl, rfl, rfl, rfl⟩

theorem State.ownHalt_halts (s : State) (r : Ref) (e : HaltReason) :
    s.HaltWork (s.ownHalt r e) (haltedYwc s.ywc s.icu.straps.drives s.prm.holdoff r) := by
  have h := s.requestYaw_urgent .yawHalt r (encodeHalt r e)
  unfold State.ownHalt
  generalize s.requestYaw .yawHalt r (encodeHalt r e) = t at h
  have hi := h.icu
  have hy := h.ywc
  have hprm : t.prm = s.prm := by
    unfold State.prm
    rw [hi]
  rw [State.takeHalt_eq, hi, hprm]
  exact ⟨rfl, h.ptb, h.stc, by rw [hy, haltedYwc_held], h.clc, h.flu, h.levels, h.differing, h.draws, h.pending⟩

/-! ### The demand -/

theorem exec_demand_heard (s : State) (source : Station) (payload : List Byte) {f : DemandFields}
    (h : s.Hears .demand source payload) (hd : decodeDemand payload = some f) :
    exec (.demand source payload) s = .next ((s.heard (some .demand) source).takeDemand f) := by
  have he : exec (.demand source payload) s = execDemand source payload s := rfl
  rw [he, execDemand, s.receive_heard _ _ _ _ h, hd]

/-- The demand record with a demand's fields brought into range (03 R47). -/
def demandOf (f : DemandFields) (maxPower : Nat) : Demand :=
  { power := min f.power maxPower, ramp := max 1 (min f.ramp 5000), run := f.run, yaw := f.yaw, fresh := true }

/-- The state with the demand record replaced and SUPERVISOR_LOST cleared, before the permits are given. -/
def State.demanded (s : State) (f : DemandFields) : State :=
  let t : State := { s with ptb := { s.ptb with demand := demandOf f s.prm.maxPower } }
  if inMembers .supervisorLost t.flu.members then t.clearNow .supervisorLost else t

theorem State.takeDemand_eq (s : State) (f : DemandFields) :
    s.takeDemand f = (s.demanded f).givePermits s.effectiveRun s.effectiveYaw := rfl

/-- What the demand comes to before the permits, at a calm state: only the PTB, the condition set and the log differ. -/
theorem State.demanded_calm (s : State) (f : DemandFields) (hc : s.Calm) (ht : s.Tabled) :
    (s.demanded f).Calm ∧ inMembers .supervisorLost (s.demanded f).flu.members = false ∧
      s.demanded f = { s with ptb := { s.ptb with demand := demandOf f s.prm.maxPower }, flu := (s.demanded f).flu } := by
  unfold State.demanded
  generalize hx : ({ s with ptb := { s.ptb with demand := demandOf f s.prm.maxPower } } : State) = x
  have hxc : x.Calm := by
    rw [← hx]
    exact hc
  have hxt : x.Tabled := by
    rw [← hx]
    exact ht
  have hk := x.clearNow_keeps .supervisorLost
  dsimp only
  cases hm : inMembers .supervisorLost x.flu.members with
  | false =>
    rw [if_neg (by decide)]
    exact ⟨hxc, hm, by rw [← hx]⟩
  | true =>
    have hq := x.clearNow_quiet .supervisorLost hxc (hxt.quiet (by decide) rfl)
    rw [hm, if_neg (by decide)] at hq
    rw [if_pos rfl]
    refine ⟨⟨hk.idle hxc.1, hk.indicated hxc.2⟩, ?_, ?_⟩
    · rw [hq]
      exact (inMembers_filter _ _ _).trans (by simp)
    · rw [hq, ← hx]

/-- A demand that passes is from a configured station's supervisor (01 R19). -/
theorem State.Hears.configured {s : State} {kind : Kind} {source : Station} {payload : List Byte} (h : s.Hears kind source payload)
    (hk : kind = .demand ∨ kind = .faultAck) : s.configured = true := by
  obtain ⟨_, _, _, _, hp⟩ := h
  cases hc : s.configured with
  | true => rfl
  | false => rw [s.passes_false (.inr ⟨hk, hc⟩)] at hp; cases hp

/-- The run permit given where it changes. -/
def State.runGiven (s : State) (run : Bool) : State := if s.effectiveRun = run then s else (s.stcPermit s.effectiveRun).settle

/-- The yaw permit given where it changes. -/
def State.yawGiven (s : State) (yaw : Bool) : State := if s.effectiveYaw = yaw then s else (s.ywcPermit s.effectiveYaw).settle

theorem State.givePermits_eq (s : State) (run yaw : Bool) : s.givePermits run yaw = (s.runGiven run).yawGiven yaw := rfl

theorem Request.isTrip_raised {c : Code} (hc : c ≠ .repeatedTrips) (hk : c.isCondition = true) (v : Int) (o : Option Origin) :
    (Request.raised c v o).isTrip = false := by
  cases c <;> simp_all [Request.isTrip, Code.isCondition]

theorem State.runGiven_outer (s : State) (run : Bool) : (s.runGiven run).outer = s.outer := by
  unfold State.runGiven
  split
  · rfl
  · rw [State.settle_outer, State.stcPermit_outer]

theorem State.runGiven_keeps (s : State) (run : Bool) : s.Keeps (s.runGiven run) :=
  .ite _ (fun _ => .refl s) (fun _ => s.stcPermit_keeps _)

/-- A condition code out of the set stays out when the run permit is given, REPEATED_TRIPS apart. -/
theorem State.runGiven_absent (s : State) (run : Bool) {c : Code} (hc : c ≠ .repeatedTrips) (hk : c.isCondition = true)
    (hi : s.flu.inbox = []) (hm : inMembers c s.flu.members = false) : inMembers c (s.runGiven run).flu.members = false := by
  unfold State.runGiven
  split
  · exact hm
  · obtain ⟨l, hl, ht, _⟩ := s.stcPermit_onward s.effectiveRun
    refine State.settle_absent c hc hk _ ?_ (fun r hr v o he => ?_)
    · rw [State.members_of_standing (State.stcPermit_standing _ _)]
      exact hm
    · have hs : s.requests = [] := hi
      rw [hl, hs, List.nil_append] at hr
      have h := ht r hr
      rw [he, Request.isTrip_raised hc hk] at h
      cases h

/-- The yaw permit at a state that no request waits in: the YWC alone changes, and the queue. -/
theorem State.yawGiven_work (s : State) (yaw : Bool) (hi : s.flu.inbox = []) :
    (s.effectiveYaw = yaw → s.yawGiven yaw = s) ∧
    (s.effectiveYaw ≠ yaw → s.yawGiven yaw = s.ywcPermit s.effectiveYaw) ∧ (s.yawGiven yaw).stc = s.stc ∧
      (s.yawGiven yaw).flu.members = s.flu.members ∧ (s.yawGiven yaw).outer = s.outer := by
  have hset : (s.ywcPermit s.effectiveYaw).settle = s.ywcPermit s.effectiveYaw := by
    refine State.settle_of_empty _ ?_
    exact (s.ywcPermit_requests s.effectiveYaw).trans hi
  refine ⟨fun h => if_pos h, fun h => (if_neg h).trans hset, ?_⟩
  unfold State.yawGiven
  split
  · exact ⟨rfl, rfl, rfl⟩
  · rw [hset]
    refine ⟨?_, State.members_of_standing (s.ywcPermit_standing _), s.ywcPermit_outer _⟩
    unfold State.ywcPermit
    dsimp only
    split
    · rfl
    · unfold State.haltProposal
      split
      · exact (State.ownHalt_halts _ _ _).stc
      · rfl

/-- A yaw permit: given, or given up with the proposal that stands (07 R129). -/
theorem State.ywcPermit_ywc (s : State) (permit : Bool) : (s.ywcPermit permit).ywc.permit = permit ∧
    (permit = true ∨ s.ywc.proposal = none → (s.ywcPermit permit).ywc = { s.ywc with permit := permit }) ∧
    (permit = false → s.ywc.proposal.isSome = true → (s.ywcPermit permit).ywc.proposal = none ∧
      (s.ywcPermit permit).ywc.answerTimer = none ∧ (s.ywcPermit permit).ywc.releaseTimer = none ∧
      (s.ywcPermit permit).ywc.holdoffTimer = some (s.prm.holdoff * 1000)) := by
  cases permit with
  | true => exact ⟨rfl, fun _ => rfl, fun h => by cases h⟩
  | false =>
    have he : s.ywcPermit false = State.haltProposal { s with ywc := { s.ywc with permit := false } } .abandoned := rfl
    rw [he]
    unfold State.haltProposal
    cases hp : s.ywc.proposal with
    | none =>
      have hr : ({ s.ywc with permit := false } : Ywc).proposalRef = none := by simp [Ywc.proposalRef, hp]
      rw [show State.ywc { s with ywc := { s.ywc with permit := false } } = { s.ywc with permit := false } from rfl, hr]
      exact ⟨rfl, fun _ => rfl, fun _ h => by cases h⟩
    | some r =>
      have hr : ({ s.ywc with permit := false } : Ywc).proposalRef = some r.ref := by simp [Ywc.proposalRef, hp]
      rw [show State.ywc { s with ywc := { s.ywc with permit := false } } = { s.ywc with permit := false } from rfl, hr]
      have hw := (State.ownHalt_halts { s with ywc := { s.ywc with permit := false } } r.ref .abandoned).ywc
      dsimp only at hw ⊢
      obtain ⟨h1, h2, h3, h4⟩ := haltedYwc_record { s.ywc with permit := false } s.icu.straps.drives s.prm.holdoff hr
      rw [hw]
      exact ⟨haltedYwc_permit _ _ _ _, fun h => (by rcases h with h | h <;> cases h), fun _ _ => ⟨h1, h2, h3, h4⟩⟩

/-- Settles O21: the record and SUPERVISOR_LOST first, then the run permit at the string and the yaw permit at the yaw. -/
theorem demandTaken : Obligations.DemandTaken := by
  intro source payload f s h hd hc ht
  refine ⟨_, exec_demand_heard s source payload h hd, ?_⟩
  have hcfg := h.configured (.inl rfl)
  generalize hu : s.heard (some .demand) source = u
  obtain ⟨hdc, hdm, hde⟩ := u.demanded_calm f (by rw [← hu]; exact hc) (by rw [← hu]; exact ht)
  rw [u.takeDemand_eq, State.givePermits_eq]
  generalize hx : u.demanded f = x at hdc hdm hde
  have hxicu : x.icu = s.icu := by rw [hde, ← hu]; rfl
  have hxstc : x.stc = s.stc := by rw [hde, ← hu]; rfl
  have hxywc : x.ywc = s.ywc := by rw [hde, ← hu]; rfl
  have hxlev : x.levels = s.levels := by rw [hde, ← hu]; rfl
  have hxdem : x.ptb.demand = demandOf f s.prm.maxPower := by rw [hde, ← hu]; rfl
  have hxwind : x.ptb.wind = s.ptb.wind := by rw [hde, ← hu]; rfl
  have hrun0 : u.effectiveRun = s.effectiveRun := by rw [← hu]; rfl
  have hyaw0 : u.effectiveYaw = s.effectiveYaw := by rw [← hu]; rfl
  have hprm : x.prm = s.prm := by unfold State.prm; rw [hxicu]
  have hxcfg : x.configured = true := by unfold State.configured; rw [hxicu]; exact hcfg
  have hrun : x.effectiveRun = f.run := by
    unfold State.effectiveRun State.demandFresh
    rw [hxcfg, hxdem]
    rfl
  rw [hrun0, hyaw0]
  -- the run permit
  generalize hy : x.runGiven s.effectiveRun = y
  have hyo : y.outer = x.outer := by rw [← hy, State.runGiven_outer]
  have hyk : x.Keeps y := by rw [← hy]; exact State.runGiven_keeps _ _
  have hym : inMembers .supervisorLost y.flu.members = false := by
    rw [← hy]
    exact State.runGiven_absent _ _ (by decide) rfl hdc.1 hdm
  have hyaw : y.effectiveYaw = f.yaw := by
    unfold State.effectiveYaw State.configured State.demandFresh State.prm
    rw [State.outer_icu hyo, State.outer_ptb hyo, hxdem]
    exact (congrArg (· && _) hxcfg).trans rfl
  have hyprm : y.prm = s.prm := by unfold State.prm; rw [State.outer_icu hyo, hxicu]
  obtain ⟨wsame, wgiven, wstc, wmem, wouter⟩ := y.yawGiven_work s.effectiveYaw (hyk.idle hdc.1)
  rw [hyaw] at wsame wgiven
  have hto := wouter.trans hyo
  refine ⟨?_, by rw [wmem]; exact hym, ?_, (State.outer_icu hto).trans hxicu, (State.outer_levels hto).trans hxlev,
    fun he => ?_, fun he => ?_, fun hm => ?_⟩
  · rw [State.outer_ptb hto, hxdem]
    refine (Demand.mk.injEq _ _ _ _ _ _ _ _ _ _).mpr ⟨?_, ?_, rfl, rfl, rfl⟩
    · rw [Nat.min_def]
    · (repeat' split) <;> omega
  · rw [State.outer_ptb hto, hxwind]
  · rw [wstc, ← hy]
    unfold State.runGiven
    rw [if_pos (hrun.trans he), hxstc]
  · have hyg : y = (x.stcPermit f.run).settle := by
      rw [← hy]
      unfold State.runGiven
      rw [hrun, if_neg he]
    have only (hm : x.levels.modulatorFault = false) : y = x.stcPermit f.run := by
      rw [hyg]
      exact (x.stcPermit_only f.run hm).settled hdc.1
    have driven {z : State} {st : StringState} {v : Nat} (hz : x.stcPermit f.run = z.drive st v) (hi : z.flu.inbox = []) :
        y = z.drive st v := by
      rw [hyg, hz]
      exact (z.drive_only st v).settled hi
    rw [wstc]
    refine ⟨?_, fun hf => ⟨fun hs => ?_, fun hs => ?_, fun hs => ?_⟩, fun hf ho hdl hm hw => ?_, fun hw => ?_⟩
    · have hg : y.given = (x.stcPermit f.run).given := by rw [hyg, State.settle_given]
      exact (congrArg (fun g => g.1) hg).trans (State.stcPermit_permit _ _)
    · rw [driven ((congrArg x.stcPermit hf).trans (x.stcPermit_run (by rw [hxstc]; exact hs))) hdc.1, State.drive_eq, hxstc]
      exact ⟨rfl, rfl, rfl⟩
    · rw [driven ((congrArg x.stcPermit hf).trans (x.stcPermit_sync (by rw [hxstc]; exact hs))) hdc.1, State.drive_eq]
      exact ⟨rfl, rfl, rfl⟩
    · rw [driven ((congrArg x.stcPermit hf).trans (x.stcPermit_precharge (by rw [hxstc]; exact hs))) hdc.1, State.drive_eq]
      exact ⟨rfl, rfl, rfl⟩
    · obtain ⟨hflow, hlim, hlat⟩ := hw
      have hxm : x.levels.modulatorFault = false := by rw [hxlev]; exact hm
      have hmay : State.mayStart { x with stc := { x.stc with permit := f.run } } = true := by
        have hc' : State.configured { x with stc := { x.stc with permit := f.run } } = true := hxcfg
        unfold State.mayStart
        rw [hc', hxstc]
        simp [hf, hflow, hlim, hlat]
      rw [only hxm, x.stcPermit_off f.run (by rw [hxstc]; exact ho),
        State.startTest_starts _ (by rw [hxstc]; exact ho) hmay,
        State.enterPrecharge_waits _ (by rw [hxlev]; exact hdl) (by rw [hxlev]; exact hm)]
      exact ⟨rfl, rfl, congrArg (fun p : Params => some p.prechargeTime) hprm⟩
    · have hst : x.stcPermit f.run = { x with stc := { x.stc with permit := f.run } } := by
        by_cases ho : s.stc.state = .off
        · rw [x.stcPermit_off f.run (by rw [hxstc]; exact ho)]
          refine State.startTest_stays _ ?_
          unfold State.mayStart
          rw [hxstc]
          rcases hw with ⟨hf, h | h | h | h⟩ | ⟨hf, _⟩
          · exact absurd ho h
          · have : (s.stc.flow == FlowState.flowOk) = false := by simpa using h
            simp [this]
          · simp [h]
          · simp [h]
          · simp [hf]
        · refine x.stcPermit_stays f.run ?_
          rw [hxstc]
          rcases hw with ⟨hf, _⟩ | ⟨hf, hmem⟩
          · exact .inl ⟨hf, ho⟩
          · refine .inr ⟨hf, ?_⟩
            rcases List.mem_cons.mp hmem with h | h
            · exact absurd h ho
            · exact h
      rw [hyg, hst, State.settle_of_empty _ (by exact hdc.1), hxstc]
  · have hyy : y.ywc = s.ywc := by
      rw [← hy]
      unfold State.runGiven
      split
      · exact hxywc
      · have ho := x.stcPermit_only x.effectiveRun (by rw [hxlev]; exact hm)
        rw [ho.settled hdc.1, ho.eq]
        exact hxywc
    refine ⟨fun he => ?_, fun he => ?_⟩
    · rw [wsame he, hyy]
    · rw [wgiven he]
      have hw := y.ywcPermit_ywc f.yaw
      rw [hyy, hyprm] at hw
      exact hw

end Sys2Proof.Machine
end

section
/-! PROOFS. The feedbacks, trips, stops and share rounds of the string (04, 05). -/

namespace Sys2Proof.Machine

/-! ### Feedbacks (04 R60, R62, R71) -/

theorem exec_dcLinkReady (s : State) (h : s.levels.dcLink = false) : exec (.dcLinkReady true) s = .next
    (if s.stc.state = .precharge then State.enterSync { s with levels := { s.levels with dcLink := true } }
      else { s with levels := { s.levels with dcLink := true } }) := by
  simp [exec, execDcLinkReady, h]

theorem exec_gridSyncAchieved (s : State) (h : s.levels.gridSync = false) : exec (.gridSyncAchieved true) s = .next
    (if s.stc.state = .sync then State.enterRun { s with levels := { s.levels with gridSync := true } }
      else { s with levels := { s.levels with gridSync := true } }) := by
  simp [exec, execGridSyncAchieved, h]

theorem linkWord_zero : linkWord true 0 = 0x8000#16 ∧ linkWord false 0 = 0 := by decide

/-- Settles O28, by the entries to SYNC and RUN and the contactor check. -/
theorem stringFeedbacks : Obligations.StringFeedbacks := by
  refine ⟨fun s hd hg hs he => ?_, fun s hg hs => ?_, fun s hd hs => ?_, fun s hg hs => ?_, fun s => ⟨fun h => ?_, fun h => ?_⟩⟩
  · have hsame : ¬ (StringState.sync.isClosed = s.stc.enable ∧ 0 = s.stc.setpoint) := by simp [he, StringState.isClosed]
    rw [exec_dcLinkReady s hd, if_pos hs, State.enterSync_eq, if_neg (by rw [State.syncing, State.drive_eq]; simp [hg]),
      State.syncing, State.drive_eq]
    refine ⟨_, rfl, rfl, rfl, rfl, rfl, rfl, rfl, rfl, ?_, ?_, rfl, rfl⟩
    · exact (if_neg hsame).trans linkWord_zero.1
    · exact if_neg hsame
  · rw [exec_gridSyncAchieved s hg, if_pos hs]
    exact ⟨_, rfl, rfl, rfl, rfl, rfl, rfl, rfl, rfl, rfl⟩
  · rw [exec_dcLinkReady s hd, if_neg hs]
  · rw [exec_gridSyncAchieved s hg, if_neg hs]
  · simp [exec, execMainContactorFeedbackChange, contactorCheck, contactorPeriod, h]
  · have hne : ¬ s.stc.mainCommand = s.levels.contactorClosed := fun e => h e.symm
    simp [exec, execMainContactorFeedbackChange, contactorCheck, hne]

/-! ### Trips (04 R66 to R68) -/

/-- A command that trips the string comes to a trip and the taking of what it raises. -/
theorem exec_trips (s : State) (c : Instr) (ha : s.stc.state.isActive = true)
    (hc : c = .prechargeTimerExpiry ∧ s.stc.prechargeTimer.isSome = true ∨
      c = .syncTimerExpiry ∧ s.stc.syncTimer.isSome = true ∨
      c = .modulatorFaultFeedback true ∧ s.levels.modulatorFault = false ∨
      c = .contactorCheckExpiry ∧ s.stc.contactorTimer.isSome = true) :
    ∃ (x : State) (cause : TripCause) (r : Option (Code × Int)), exec c s = .next (x.trip cause r).settle ∧ x.icu = s.icu ∧
      x.ptb = s.ptb ∧ x.flu = s.flu ∧ x.stc.state = s.stc.state ∧ x.stc.history = s.stc.history ∧
      x.stc.linkSends = s.stc.linkSends := by
  rcases hc with ⟨rfl, h⟩ | ⟨rfl, h⟩ | ⟨rfl, h⟩ | ⟨rfl, h⟩
  · exact ⟨_, _, _, congrArg Host.Outcome.next (if_pos h), rfl, rfl, rfl, rfl, rfl, rfl⟩
  · exact ⟨_, _, _, congrArg Host.Outcome.next (if_pos h), rfl, rfl, rfl, rfl, rfl, rfl⟩
  · exact ⟨_, _, _, congrArg Host.Outcome.next (if_neg (by rw [h]; decide)), rfl, rfl, rfl, rfl, rfl, rfl⟩
  · have hf : State.contactorFound { s with stc := { s.stc with contactorTimer := none } } =
        State.trip { s with stc := { s.stc with contactorTimer := none, contactorFault := true } } .contactorFeedback
          (if s.stc.contactorFault then none else some (.contactorFeedback, contactorValue s.levels.contactorClosed)) :=
      if_pos ha
    exact ⟨_, _, _, congrArg Host.Outcome.next ((if_pos h).trans (congrArg State.settle hf)), rfl, rfl, rfl, rfl, rfl, rfl⟩

/-- The string that a trip opens is at rest. -/
theorem State.stopped_atStop (s : State) : s.stopped.AtStop := by
  refine ⟨?_, rfl⟩
  show (if _ then StringState.locked else .tripped) = _ ∨ (if _ then StringState.locked else .tripped) = _
  split
  · exact .inr rfl
  · exact .inl rfl

/-- What a trip leaves of the string once every request has been taken. -/
theorem State.trip_settled (s : State) (c : TripCause) (r : Option (Code × Int)) (h : s.stc.state.isActive = true) :
    (s.trip c r).settle.still = s.stopped.still := by
  have ht := State.still_of_string (s.trip_string c r h)
  exact (s.stopped_atStop.of_still ht).settle.trans ht

theorem causeRequests_raised (r : Option (Code × Int)) : ∀ q ∈ causeRequests r, ∃ c v o, q = .raised c v o := by
  cases r with
  | none => exact fun q hq => by cases hq
  | some p => exact fun q hq => ⟨_, _, _, List.mem_singleton.mp hq⟩

theorem length_causeRequests (r : Option (Code × Int)) : (causeRequests r).length ≤ 1 := by
  cases r with
  | none => exact Nat.zero_le 1
  | some p => exact Nat.le_refl 1

/-- A third trip leaves REPEATED_TRIPS in the condition set. -/
theorem State.trip_repeated (s : State) (c : TripCause) (r : Option (Code × Int)) (hi : s.flu.inbox = [])
    (h : s.stc.state.isActive = true) (hl : 3 ≤ (tripHistory s.flu.seconds s.stc.history).length) :
    (s.trip c r).settle.Bears .repeatedTrips (Code.actions none .repeatedTrips) := by
  have hs : s.requests = [] := hi
  have hr : (s.trip c r).requests =
      causeRequests r ++ [.raised .repeatedTrips (historySpan (tripHistory s.flu.seconds s.stc.history)) none] := by
    rw [s.trip_locks c r h hl]
    refine (congrArg (· ++ _) (s.told_requests c r)).trans ?_
    rw [hs, List.nil_append]
  refine State.settle_raised _ rfl (v := historySpan (tripHistory s.flu.seconds s.stc.history)) ?_ (fun q hq => ?_) ?_
  · rw [hr]
    exact List.mem_append_right _ (List.mem_singleton.mpr rfl)
  · rw [hr] at hq
    rcases List.mem_append.mp hq with hq | hq
    · obtain ⟨_, _, _, rfl⟩ := causeRequests_raised r q hq
      exact Request.noConfusion
    · rw [List.mem_singleton.mp hq]
      exact Request.noConfusion
  · rw [hr, List.length_append, List.length_singleton]
    have := length_causeRequests r
    omega

/-- Settles O29: the opened string is at rest, and the taking of the raises leaves it so. -/
theorem tripsOpenString : Obligations.TripsOpenString := by
  intro s c hc ha hcmd
  obtain ⟨x, cause, r, he, hicu, hptb, hflu, hst, hhist, hlink⟩ := exec_trips s c ha hcmd
  have hax : x.stc.state.isActive = true := by rw [hst]; exact ha
  have hstill := x.trip_settled cause r hax
  have hprm : x.prm = s.prm := by unfold State.prm; rw [hicu]
  have ho : (x.trip cause r).settle.outer = x.outer := by rw [State.settle_outer, State.trip_outer]
  have hh : tripHistory s.flu.seconds s.stc.history = tripHistory x.flu.seconds x.stc.history := by rw [hflu, hhist]
  have hloss : lossOf 0 x.prm.lossFraction = 0 := by simp [lossOf]
  have hlinkWord := linkWord_zero.2
  rw [hh]
  refine ⟨fun hl => ⟨_, he, ?_, (State.outer_icu ho).trans hicu, (State.outer_ptb ho).trans hptb⟩, fun hl => ⟨_, he, ?_⟩⟩
  · have hd : decide (3 ≤ (tripHistory x.flu.seconds x.stc.history).length) = false := decide_eq_false (by omega)
    have hx : x.stopped.stc.state = .tripped ∧ x.stopped.stc.prechargeCommand = false ∧
        x.stopped.stc.mainCommand = false ∧ x.stopped.stc.enable = false ∧ x.stopped.stc.link = linkWord false 0 ∧
        x.stopped.stc.coolDownTimer = some (x.prm.coolDown * 1000) := by
      unfold State.stopped
      rw [hd]
      exact ⟨rfl, rfl, rfl, rfl, rfl, rfl⟩
    obtain ⟨h1, h2, h3, h4, h7, h12⟩ := hx
    exact ⟨(congrArg Stc.state hstill :).trans h1, (congrArg Stc.prechargeCommand hstill :).trans h2,
      (congrArg Stc.mainCommand hstill :).trans h3, (congrArg Stc.enable hstill :).trans h4, (congrArg Stc.setpoint hstill :),
      (congrArg Stc.loss hstill :).trans hloss, ((congrArg Stc.link hstill :).trans h7).trans hlinkWord,
      (congrArg Stc.linkSends hstill :).trans (congrArg (· + 1) hlink), (congrArg Stc.prechargeTimer hstill :),
      (congrArg Stc.syncTimer hstill :), (congrArg Stc.zeroHoldTimer hstill :),
      ((congrArg Stc.coolDownTimer hstill :).trans h12).trans (by rw [hprm]), (congrArg Stc.history hstill :)⟩
  · have hd : decide (3 ≤ (tripHistory x.flu.seconds x.stc.history).length) = true := decide_eq_true hl
    have hx : x.stopped.stc.state = .locked ∧ x.stopped.stc.mainCommand = false ∧
        x.stopped.stc.prechargeCommand = false ∧ x.stopped.stc.enable = false := by
      unfold State.stopped
      rw [hd]
      exact ⟨rfl, rfl, rfl, rfl⟩
    obtain ⟨h1, h2, h3, h4⟩ := hx
    have hb := x.trip_repeated cause r (by rw [hflu]; exact hc.1) hax hl
    have hk : s.Keeps (x.trip cause r).settle := by
      obtain ⟨t, ht, hk⟩ := exec_keeps c s (by rcases hcmd with ⟨rfl, _⟩ | ⟨rfl, _⟩ | ⟨rfl, _⟩ | ⟨rfl, _⟩ <;> simp)
        (by rcases hcmd with ⟨rfl, _⟩ | ⟨rfl, _⟩ | ⟨rfl, _⟩ | ⟨rfl, _⟩ <;> simp)
      rw [he] at ht
      injection ht with ht
      rw [ht]
      exact hk
    exact ⟨(congrArg Stc.state hstill :).trans h1, (congrArg Stc.setpoint hstill :), (congrArg Stc.mainCommand hstill :).trans h2,
      (congrArg Stc.prechargeCommand hstill :).trans h3, (congrArg Stc.enable hstill :).trans h4, hb.member,
      hb.stringLatch (hk.indicated hc.2) rfl, (State.outer_icu ho).trans hicu, (State.outer_ptb ho).trans hptb⟩

end Sys2Proof.Machine
end

section
/-! PROOFS. Cool-down, stopping, share rounds and their allocations (04 R58, R59, R64, R65, R74; 05 R86 to R92). -/

namespace Sys2Proof.Machine

/-! ### A latch that comes on in OFF (04 R59) -/

theorem exponentOf_joinSet (c : Code) (a : Actions) (ms : List Member) (h : a.derate = 0) :
    exponentOf (joinSet c a ms) = exponentOf ms := by
  have hf : (joinSet c a ms).foldl (fun e m => max e m.actions.derate) 0 = ms.foldl (fun e m => max e m.actions.derate) 0 := by
    induction ms with
    | nil => simp [joinSet, h]
    | cons m rest ih =>
      unfold joinSet
      split
      · simp [Actions.join, h]
      · simp only [List.foldl_cons]
        rw [exponentOf_fold, ih, ← exponentOf_fold]
  unfold exponentOf
  rw [hf]

/-- Indications formed again where the string-latch comes on and the exponent stands: the string takes the latch. -/
theorem State.indicate_latches (s : State) (he : exponentOf s.flu.members = s.flu.exponent) (hl : s.flu.stringLatch = false)
    (hs : s.flu.members.any (fun m => m.actions.stringLatch) = true) :
    ∃ f, s.indicate.string = (State.stcLatch { s with flu := f } true).string := by
  unfold State.indicate
  dsimp only
  rw [if_pos he, hs, hl]
  simp only [Bool.true_eq_false, if_false]
  have clc (x : State) (b : Bool) : (x.clcLatch b).string = x.string := rfl
  rw [State.string_ite, clc, ite_self, State.string_ite, State.ywcLock_string, ite_self]
  exact ⟨_, rfl⟩

/-- DUPLICATE_STATION raised while a configured string is OFF and unlatched locks it, its history kept (04 R59). -/
theorem State.raiseNow_locks (s : State) (v : Int) (hc : s.Calm) (ho : s.stc.state = .off) (hl : s.stc.latch = false)
    (hcfg : s.configured = true) :
    (s.raiseNow .duplicateStation v).stc.state = .locked ∧
      (s.raiseNow .duplicateStation v).stc.history = s.stc.history := by
  obtain ⟨hi, h1, h2, _, _, _, h6, _, _⟩ := hc
  have hfl : s.flu.stringLatch = false := by rw [← h6]; exact hl
  generalize hx : ({ s with flu := { s.flu with
    inbox := [], members := joinSet .duplicateStation (Code.actions none .duplicateStation) s.flu.members } } : State) = x
  have hb := joinSet_bears .duplicateStation (Code.actions none .duplicateStation) s.flu.members
  obtain ⟨m, hm, _, hj⟩ := hb
  have hany : x.flu.members.any (fun m => m.actions.stringLatch) = true := by
    rw [← hx]
    refine List.any_eq_true.mpr ⟨m, hm, ?_⟩
    rw [← hj]
    rfl
  have hexp : exponentOf x.flu.members = x.flu.exponent := by
    rw [← hx]
    exact (exponentOf_joinSet _ _ _ rfl).trans h1.symm
  obtain ⟨f, hf⟩ := x.indicate_latches hexp (by rw [← hx]; exact hfl) hany
  have hlatch : State.stcLatch { x with flu := f } true =
      State.drive { x with flu := f, stc := { x.stc with latch := true } } .locked 0 := by
    have ha : StringState.isActive x.stc.state = false := by rw [← hx]; exact congrArg StringState.isActive ho
    have hc : x.stc.state = .off ∧ x.configured = true := by rw [← hx]; exact ⟨ho, hcfg⟩
    unfold State.stcLatch State.stcLatchOn
    rw [if_pos rfl]
    dsimp only
    rw [ha, if_neg (by decide)]
    exact if_pos hc
  rw [hlatch, State.drive_eq] at hf
  have hstate : x.indicate.stc.state = .locked := (congrArg Stc.state hf :)
  have hset : x.indicate.stc.setpoint = 0 := (congrArg Stc.setpoint hf :)
  have hhist : x.indicate.stc.history = s.stc.history := (congrArg Stc.history hf :).trans (by rw [← hx]; rfl)
  -- the raise is served first, and what follows finds the string locked
  have hserve : State.serve { s.raise .duplicateStation v with flu := { (s.raise .duplicateStation v).flu with inbox := [] } }
      (.raised .duplicateStation v none) = x.indicate.logCondition .duplicateStation (clampInt (-32768) 32767 v) := by
    rw [← hx]
    rfl
  have hraise : (s.raise .duplicateStation v).flu.inbox = [.raised .duplicateStation v none] := by
    show s.flu.inbox ++ [_] = _
    rw [hi]
    rfl
  have hsettle : s.raiseNow .duplicateStation v =
      State.settleWithin 31 (x.indicate.logCondition .duplicateStation (clampInt (-32768) 32767 v)) := by
    rw [← hserve]
    show State.settleWithin (31 + 1) _ = _
    rw [State.settleWithin, hraise]
  have hlog := State.still_of_string (x.indicate.logCondition_string .duplicateStation (clampInt (-32768) 32767 v))
  have hstop : x.indicate.AtStop := ⟨.inr hstate, hset⟩
  have hstill := ((hstop.of_still hlog).settleWithin 31).trans hlog
  rw [hsettle]
  exact ⟨(congrArg Stc.state hstill :).trans hstate, (congrArg Stc.history hstill :).trans hhist⟩

/-- The count of a good frame at a calm state changes the LIF and the FLU alone. -/
theorem State.countGood_calm (s : State) (hc : s.Calm) (ht : s.Tabled) : ∃ l f, s.countGood = { s with lif := l, flu := f } := by
  unfold State.countGood
  dsimp only
  split
  · rw [State.clearNow_quiet _ _ (by exact hc) (by exact ht.quiet (by decide) rfl)]
    split <;> exact ⟨_, _, rfl⟩
  · exact ⟨_, _, rfl⟩

/-- A frame under the own number locks a configured string that is OFF and unlatched. -/
theorem exec_ownNumberFrame_locks (s : State) (kind : BitVec 6) (hc : s.Calm) (ht : s.Tabled) (ho : s.stc.state = .off)
    (hl : s.stc.latch = false) (hcfg : s.configured = true) :
    ∃ u, exec (.ownNumberFrame kind) s = .next u ∧ u.stc.state = .locked ∧ u.stc.history = s.stc.history := by
  obtain ⟨l, f, hg⟩ := s.countGood_calm hc ht
  have hk := s.countGood_keeps
  obtain ⟨h1, h2⟩ := s.countGood.raiseNow_locks kind.toNat ⟨hk.idle hc.1, hk.indicated hc.2⟩ (by rw [hg]; exact ho)
    (by rw [hg]; exact hl) (by rw [hg]; exact hcfg)
  exact ⟨_, rfl, h1, h2.trans (by rw [hg])⟩

/-! ### Cool-down and stopping -/

/-- The string of an expired cool-down, its held notice dropped, before it leaves TRIPPED (04 R73, R74). -/
def State.cooled (s : State) : State :=
  State.noteHolders { s with stc := { s.stc with coolDownTimer := none, heldTrip := none } }

theorem exec_coolDownExpiry (s : State) (latchArrives : Bool) (ht : s.stc.coolDownTimer.isSome = true)
    (hs : s.stc.state = .tripped) : exec (.coolDownExpiry latchArrives) s = .next (State.settle
      (if s.stc.latch then s.cooled.drive .locked 0 else if latchArrives then s.cooled.drive .off 0 else s.cooled.enterOff)) :=
  congrArg Host.Outcome.next ((if_pos ht).trans (if_pos hs))

/-- A stopping string driven one stop ramp step down (04 R65). -/
theorem State.shareInStopping_step (s : State) (h : s.stc.setpoint - rampStep s.prm.stopRamp s.period ≠ 0) :
    s.shareInStopping = (s.setSetpoint (s.stc.setpoint - rampStep s.prm.stopRamp s.period)).sendLink := by
  unfold State.shareInStopping
  rw [if_neg (by omega)]
  exact if_neg h

/-- A stopping string whose setpoint comes to 0 opens, where it may not start again (04 R65). -/
theorem State.shareInStopping_opens (s : State) (h : s.stc.setpoint - rampStep s.prm.stopRamp s.period = 0)
    (hm : s.mayStart = false) : ∃ c : Stc, s.shareInStopping = State.drive { s with stc := c } .off 0 := by
  unfold State.shareInStopping
  split
  · exact ⟨s.stc, s.enterOff_stays hm⟩
  · exact ⟨((s.setSetpoint (s.stc.setpoint - rampStep s.prm.stopRamp s.period)).sendLink).stc,
      (if_pos h).trans (State.enterOff_stays _ hm)⟩

theorem exec_shareRoundExpiry (s : State) (h : s.stc.shareTimer.isSome = true) : exec .shareRoundExpiry s =
    .next (State.shareRound { s with stc := { s.stc with shareTimer := some s.period } }).settle :=
  congrArg Host.Outcome.next (if_pos h)

/-- Settles O30: what a cool-down, a stopping round and the zero-limit hold make of the string. -/
theorem stringStops : Obligations.StringStops := by
  refine ⟨fun la s hc ht htim hs hen hsp => ?_, fun s hc htim hs => ?_, fun s hc htim hs => ?_⟩
  · rw [exec_coolDownExpiry s la htim hs]
    have settled (st : StringState) : (s.cooled.drive st 0).settle = s.cooled.drive st 0 :=
      (s.cooled.drive_only st 0).settled hc.1
    refine ⟨fun hl => ?_, fun hl hw => ?_, fun hla hmay hdl hmf => ?_⟩
    · rw [hl, if_pos rfl, settled, State.drive_eq]
      exact ⟨_, rfl, rfl, rfl, rfl, rfl, rfl, rfl⟩
    · have he : (if s.stc.latch then s.cooled.drive .locked 0
          else if la then s.cooled.drive .off 0 else s.cooled.enterOff) = s.cooled.drive .off 0 := by
        rw [hl, if_neg (by decide)]
        split
        · rfl
        · rename_i hna
          exact s.cooled.enterOff_stays (hw.resolve_left hna)
      rw [he, settled, State.drive_eq]
      refine ⟨_, rfl, rfl, ⟨rfl, rfl, rfl, rfl, rfl⟩, fun hcfg kind => ?_⟩
      exact exec_ownNumberFrame_locks _ kind (by exact hc) (by exact ht) rfl (by exact hl) (by exact hcfg)
    · have hl : s.stc.latch = false := by
        unfold State.mayStart at hmay
        cases h : s.stc.latch
        · rfl
        · rw [h] at hmay
          simp at hmay
      have he : (if s.stc.latch then s.cooled.drive .locked 0
          else if la then s.cooled.drive .off 0 else s.cooled.enterOff) = (s.cooled.drive .off 0).precharging := by
        rw [hl, if_neg (by decide), hla, if_neg (by decide), State.enterOff, State.drive_eq]
        rw [State.startTest_starts _ rfl (by exact hmay), State.enterPrecharge_waits _ (by exact hdl) (by exact hmf)]
      rw [he, State.settle_of_empty _ (by rw [State.drive_eq]; exact hc.1), State.drive_eq]
      exact ⟨_, rfl, rfl, ⟨rfl, rfl, rfl, rfl, rfl⟩, rfl, rfl⟩
  · rw [exec_shareRoundExpiry s htim]
    generalize hx : ({ s with stc := { s.stc with shareTimer := some s.period } } : State) = x
    have hstep : rampStep x.prm.stopRamp x.period = max 1 (s.prm.stopRamp * s.period / 1000) := by rw [← hx]; rfl
    have hxs : x.shareRound = x.shareInStopping := by
      have hst : x.stc.state = .stopping := by rw [← hx]; exact hs
      unfold State.shareRound
      rw [hst]
    have hxp : x.stc.setpoint = s.stc.setpoint := by rw [← hx]
    have hxi : x.flu.inbox = [] := by rw [← hx]; exact hc.1
    refine ⟨fun hlt => ?_, fun hle hmay => ?_⟩
    · rw [hxs, x.shareInStopping_step (by rw [hxp, hstep]; omega), hxp, hstep, State.settle_of_empty _ (by exact hxi), ← hx]
      exact ⟨_, rfl, hs, rfl, rfl, rfl⟩
    · obtain ⟨c, hd⟩ := x.shareInStopping_opens (by rw [hxp, hstep]; omega) (by rw [← hx]; exact hmay)
      rw [hxs, hd, State.drive_eq, State.settle_of_empty _ (by exact hxi), ← hx]
      exact ⟨_, rfl, rfl, rfl, rfl, rfl, rfl⟩
  · have he : exec .zeroLimitHoldExpiry s = .next (State.raiseNow
        (State.drive { s with stc := { s.stc with zeroHoldTimer := none } } .stopping 0) .zeroLimitStop 0) :=
      congrArg Host.Outcome.next ((if_pos htim).trans (if_pos hs))
    rw [he, State.drive_eq]
    generalize hx : ({ s with stc := _ } : State) = x
    rw [State.raiseNow_event x _ _ _ (by rw [← hx]; exact hc.1) rfl rfl]
    have hw := State.LogWork.of_eq (x.logEvent_besidesLog .zeroLimitStop (clampInt (-32768) 32767 0))
    rw [← hx] at hw
    subst hx
    exact ⟨_, rfl, (congrArg Stc.state hw.stc :), (congrArg Stc.setpoint hw.stc :), (congrArg Stc.zeroHoldTimer hw.stc :),
      hw.members, hw.icu, hw.ptb⟩

/-! ### A share round in RUN -/

theorem ramped_eq (s a step limit : Nat) (hs : s ≤ limit) (ha : a ≤ limit) :
    ramped s a step limit = if s < a then min a (s + step) else max a (s - step) := by
  unfold ramped
  dsimp only
  (repeat' split) <;> omega

/-- Settles O31: the setpoint after the round, with the link update of a change. -/
theorem shareRoundInRun : Obligations.ShareRoundInRun := by
  intro s hc htim hs hsp a step ha
  have hx : State.shareRound { s with stc := { s.stc with shareTimer := some s.period } } =
      State.shareInRun { s with stc := { s.stc with shareTimer := some s.period } } := by
    unfold State.shareRound
    simp only [hs]
  have hr := ramped_eq s.stc.setpoint a step s.stc.limit hsp ha
  rw [exec_shareRoundExpiry s htim, hx]
  generalize hn : (if s.stc.setpoint < a then min a (s.stc.setpoint + step) else max a (s.stc.setpoint - step)) = n at hr ⊢
  have hshare : State.shareInRun { s with stc := { s.stc with shareTimer := some s.period } } =
      if n = s.stc.setpoint then
        State.setSetpoint { s with stc := { s.stc with shareTimer := some s.period, target := a } } n
      else (State.setSetpoint { s with stc := { s.stc with shareTimer := some s.period, target := a } } n).sendLink := by
    rw [← hr]
    rfl
  rw [hshare]
  split
  · rename_i h
    rw [State.settle_of_empty _ (by exact hc.1)]
    refine ⟨_, rfl, rfl, rfl, rfl, rfl, ?_, hs, rfl, rfl, rfl, rfl⟩
    exact (if_pos h).symm ▸ rfl
  · rename_i h
    rw [State.settle_of_empty _ (by exact hc.1)]
    refine ⟨_, rfl, rfl, rfl, rfl, rfl, ?_, hs, rfl, rfl, rfl, rfl⟩
    exact (congrArg (s.stc.linkSends + ·) (if_neg h)).symm

/-! ### Allocations (05 R88, R89) -/

theorem insertSharer_perm (x : Sharer) (l : List Sharer) : (insertSharer x l).Perm (x :: l) := by
  induction l with
  | nil => exact .refl _
  | cons y ys ih =>
    unfold insertSharer
    split
    · exact .refl _
    · exact (ih.cons y).trans (.swap x y ys)

theorem walkOrder_perm (l : List Sharer) : (walkOrder l).Perm l := by
  induction l with
  | nil => exact .refl _
  | cons x xs ih => exact (insertSharer_perm x _).trans (ih.cons x)

theorem insertSharer_sorted (x : Sharer) (l : List Sharer) (h : l.Pairwise (fun a b => a.limit ≤ b.limit)) :
    (insertSharer x l).Pairwise (fun a b => a.limit ≤ b.limit) := by
  induction l with
  | nil => exact List.pairwise_singleton _ _
  | cons y ys ih =>
    obtain ⟨hy, hys⟩ := List.pairwise_cons.mp h
    unfold insertSharer
    split
    · rename_i hb
      have hxy : x.limit ≤ y.limit := by
        simp only [Sharer.before, Bool.or_eq_true, Bool.and_eq_true, decide_eq_true_eq, beq_iff_eq] at hb
        omega
      refine List.pairwise_cons.mpr ⟨fun z hz => ?_, h⟩
      rcases List.mem_cons.mp hz with rfl | hz
      · exact hxy
      · exact Nat.le_trans hxy (hy z hz)
    · rename_i hb
      have hyx : y.limit ≤ x.limit := by
        simp only [Sharer.before, Bool.or_eq_true, Bool.and_eq_true, decide_eq_true_eq, beq_iff_eq] at hb
        omega
      refine List.pairwise_cons.mpr ⟨fun z hz => ?_, ih hys⟩
      rcases List.mem_cons.mp ((insertSharer_perm x ys).mem_iff.mp hz) with rfl | hz
      · exact hyx
      · exact hy z hz

theorem walkOrder_sorted (l : List Sharer) : (walkOrder l).Pairwise (fun a b => a.limit ≤ b.limit) := by
  induction l with
  | nil => exact List.Pairwise.nil
  | cons x xs ih => exact insertSharer_sorted x _ ih

/-- The number of participants of a list with a lower station number. -/
def stationRank (l : List Sharer) (x : Sharer) : Nat := (l.filter (fun y => decide (y.station < x.station))).length

theorem stationRank_lt {l : List Sharer} {x y : Sharer} (hx : x ∈ l) (h : x.station < y.station) :
    stationRank l x < stationRank l y := by
  have hsub : (l.filter (fun z => decide (z.station < x.station))).Sublist (l.filter (fun z => decide (z.station < y.station))) := by
    have he : l.filter (fun z => decide (z.station < x.station)) =
        (l.filter (fun z => decide (z.station < y.station))).filter (fun z => decide (z.station < x.station)) := by
      rw [List.filter_filter]
      refine List.filter_congr (fun z _ => ?_)
      rw [← Bool.decide_and]
      exact decide_eq_decide.mpr ⟨fun hz => ⟨hz, by omega⟩, And.left⟩
    rw [he]
    exact List.filter_sublist
  refine Nat.lt_of_le_of_ne hsub.length_le (fun he => ?_)
  have heq := hsub.eq_of_length he
  have hmem : x ∈ l.filter (fun z => decide (z.station < y.station)) := List.mem_filter.mpr ⟨hx, decide_eq_true h⟩
  rw [← heq] at hmem
  have := of_decide_eq_true (List.mem_filter.mp hmem).2
  omega

theorem stationRank_lt_length {l : List Sharer} {x : Sharer} (hx : x ∈ l) : stationRank l x < l.length := by
  refine Nat.lt_of_le_of_ne (List.length_filter_le _ _) (fun he => ?_)
  have heq := List.filter_sublist.eq_of_length he
  have hmem : x ∈ l.filter (fun z => decide (z.station < x.station)) := by rw [heq]; exact hx
  have := of_decide_eq_true (List.mem_filter.mp hmem).2
  omega

/-- Participants with distinct stations have the ranks from 0 on, each once. -/
theorem stationRank_perm {l : List Sharer} (h : (l.map (·.station)).Nodup) :
    (l.map (stationRank l)).Perm (List.range l.length) := by
  have hnd : (l.map (stationRank l)).Nodup := by
    rw [List.Nodup, List.pairwise_map] at h ⊢
    refine List.Pairwise.imp_of_mem (fun {x y} hx hy hne he => ?_) h
    rcases Nat.lt_or_gt_of_ne hne with hlt | hlt
    · have := stationRank_lt hx hlt
      omega
    · have := stationRank_lt hy hlt
      omega
  have hsub : l.map (stationRank l) ⊆ List.range l.length := by
    intro n hn
    obtain ⟨x, hx, rfl⟩ := List.mem_map.mp hn
    exact List.mem_range.mpr (stationRank_lt_length hx)
  refine (List.perm_ext_iff_of_nodup hnd List.nodup_range).mpr fun n => ⟨fun hn => hsub hn, fun hn => ?_⟩
  refine Decidable.byContradiction fun hc => ?_
  have hlen := (List.nodup_cons.mpr ⟨hc, hnd⟩).length_le_of_subset (List.cons_subset.mpr ⟨hn, hsub⟩)
  rw [List.length_cons, List.length_range, List.length_map] at hlen
  omega

/-- The shares of a division into k parts with r of them one larger. -/
theorem sum_parts (q r k : Nat) (h : r ≤ k) : ((List.range k).map (fun i => if i < r then q + 1 else q)).sum = q * k + r := by
  have hs (n : Nat) : ((List.range n).map (fun i => if i < r then q + 1 else q)).sum = q * n + min r n := by
    induction n with
    | zero => simp
    | succ n ih =>
      rw [List.range_succ, List.map_append, List.sum_append, ih, List.map_cons, List.map_nil, List.sum_cons, List.sum_nil,
        Nat.mul_succ]
      split <;> omega
  rw [hs]
  omega

/-- The power that a participant of the divided rest has (05 R89). -/
def dividedPower (rm k : Nat) (l : List Sharer) (x : Sharer) : Nat :=
  if stationRank l x < rm - rm / k * k then rm / k + 1 else rm / k

theorem divideRest_eq (rm k : Nat) (l : List Sharer) :
    divideRest rm k l = l.map (fun x => { station := x.station, power := dividedPower rm k l x }) := rfl

theorem sum_divideRest (rm : Nat) (l : List Sharer) (h : (l.map (·.station)).Nodup) (hl : l ≠ []) :
    ((divideRest rm l.length l).map (·.power)).sum = rm := by
  have hk : 0 < l.length := List.length_pos_iff.mpr hl
  have hmod : rm - rm / l.length * l.length = rm % l.length := by
    have := Nat.div_add_mod rm l.length
    rw [Nat.mul_comm] at this
    omega
  have hp := (stationRank_perm h).map (fun i => if i < rm % l.length then rm / l.length + 1 else rm / l.length)
  have he : (divideRest rm l.length l).map (·.power) =
      (l.map (stationRank l)).map (fun i => if i < rm % l.length then rm / l.length + 1 else rm / l.length) := by
    rw [divideRest_eq, List.map_map, List.map_map]
    refine List.map_congr_left (fun x _ => ?_)
    show dividedPower rm l.length l x = _
    unfold dividedPower
    rw [hmod]
    rfl
  rw [he, hp.sum_nat, sum_parts _ _ _ (Nat.le_of_lt (Nat.mod_lt rm hk)), Nat.mul_comm]
  exact Nat.div_add_mod rm l.length

/-- A participant's allocation: its own station, within its limit. -/
def Sharer.Served (x : Sharer) (y : Share) : Prop := y.station = x.station ∧ y.power ≤ x.limit

/-- Shares that serve the participants of a list: one for each, and none for another. -/
def Serves (l : List Sharer) (w : List Share) : Prop := (∀ x ∈ l, ∃ y ∈ w, x.Served y) ∧ ∀ y ∈ w, ∃ x ∈ l, x.Served y

theorem Serves.cons {l : List Sharer} {w : List Share} {x : Sharer} {y : Share} (hxy : x.Served y) (h : Serves l w) :
    Serves (x :: l) (y :: w) := by
  obtain ⟨hl, hw⟩ := h
  refine ⟨fun z hz => ?_, fun z hz => ?_⟩
  · rcases List.mem_cons.mp hz with rfl | hz
    · exact ⟨y, List.mem_cons_self, hxy⟩
    · obtain ⟨u, hu, hzu⟩ := hl z hz
      exact ⟨u, List.mem_cons_of_mem _ hu, hzu⟩
  · rcases List.mem_cons.mp hz with rfl | hz
    · exact ⟨x, List.mem_cons_self, hxy⟩
    · obtain ⟨u, hu, huz⟩ := hw z hz
      exact ⟨u, List.mem_cons_of_mem _ hu, huz⟩

theorem Serves.of_map {l : List Sharer} {f : Sharer → Share} (h : ∀ x ∈ l, x.Served (f x)) : Serves l (l.map f) := by
  refine ⟨fun x hx => ⟨f x, List.mem_map_of_mem hx, h x hx⟩, fun y hy => ?_⟩
  obtain ⟨x, hx, rfl⟩ := List.mem_map.mp hy
  exact ⟨x, hx, h x hx⟩

theorem Sharer.eq_of_station {l : List Sharer} (hn : (l.map (·.station)).Nodup) {x y : Sharer} (hx : x ∈ l) (hy : y ∈ l)
    (h : x.station = y.station) : x = y := by
  induction l with
  | nil => cases hx
  | cons z zs ih =>
    obtain ⟨hz, hzs⟩ := List.nodup_cons.mp hn
    rcases List.mem_cons.mp hx with hxz | hxs <;> rcases List.mem_cons.mp hy with hyz | hys
    · rw [hxz, hyz]
    · exact absurd (List.mem_map.mpr ⟨y, hys, by rw [← h, hxz]⟩) hz
    · exact absurd (List.mem_map.mpr ⟨x, hxs, by rw [h, hyz]⟩) hz
    · exact ih hzs hxs hys

/-- The walk serves each participant within its limit, and in sum what there is to allocate. -/
theorem walk_spec (rm : Nat) (l : List Sharer) (hs : l.Pairwise (fun a b => a.limit ≤ b.limit))
    (hn : (l.map (·.station)).Nodup) (hrm : rm ≤ (l.map (·.limit)).sum) :
    ((walk rm l.length l).map (·.power)).sum = rm ∧ Serves l (walk rm l.length l) := by
  induction l generalizing rm with
  | nil => exact ⟨(Nat.le_zero.mp hrm).symm, .of_map (f := fun x => { station := x.station, power := 0 }) nofun⟩
  | cons x xs ih =>
    obtain ⟨hx, hxs⟩ := List.pairwise_cons.mp hs
    unfold walk
    split
    · rename_i hle
      rw [List.map_cons, List.sum_cons] at hrm
      have hlim : x.limit ≤ rm := Nat.le_trans (Nat.le_mul_of_pos_right _ (Nat.succ_pos _)) hle
      obtain ⟨hsum, hserved⟩ := ih (rm - x.limit) hxs (List.nodup_cons.mp hn).2 (by omega)
      refine ⟨?_, .cons ⟨rfl, Nat.le_refl _⟩ hserved⟩
      rw [List.map_cons, List.sum_cons]
      have : ((walk (rm - x.limit) xs.length xs).map (·.power)).sum = rm - x.limit := hsum
      show x.limit + ((walk (rm - x.limit) xs.length xs).map (·.power)).sum = rm
      omega
    · rename_i hlt
      have hq : rm / (x :: xs).length < x.limit := (Nat.div_lt_iff_lt_mul (Nat.succ_pos _)).mpr (Nat.lt_of_not_le hlt)
      refine ⟨sum_divideRest rm _ hn (List.cons_ne_nil _ _), ?_⟩
      rw [divideRest_eq]
      refine .of_map fun y hy => ?_
      have hxy : x.limit ≤ y.limit := by
        rcases List.mem_cons.mp hy with rfl | hy
        · exact Nat.le_refl _
        · exact hx y hy
      refine ⟨rfl, ?_⟩
      show dividedPower _ _ _ _ ≤ _
      unfold dividedPower
      split <;> omega

/-- Settles O33: the walk over the participants in ascending order of their limits. -/
theorem allocationSums : Obligations.AllocationSums := by
  intro demand xs hn
  have hp := walkOrder_perm xs
  have hsum : ((walkOrder xs).map (·.limit)).sum = (xs.map (·.limit)).sum := (hp.map _).sum_nat
  have hrm : min demand (limitSum xs) ≤ ((walkOrder xs).map (·.limit)).sum := by
    rw [hsum]
    exact Nat.min_le_right _ _
  have hnd : ((walkOrder xs).map (·.station)).Nodup := (hp.map _).nodup_iff.mpr hn
  obtain ⟨hs, hserved⟩ := walk_spec _ _ (walkOrder_sorted xs) hnd hrm
  rw [hp.length_eq] at hs hserved
  refine ⟨hs, fun x hx => ?_, fun x hx y hy he => ?_⟩
  · obtain ⟨y, hy, hst, _⟩ := hserved.1 x (hp.mem_iff.mpr hx)
    exact ⟨y, hy, hst⟩
  · obtain ⟨z, hz, hst, hpow⟩ := hserved.2 y hy
    have hzx : z = x := Sharer.eq_of_station hn (hp.mem_iff.mp hz) hx (hst.symm.trans he)
    rw [← hzx]
    exact hpow

end Sys2Proof.Machine
end

section
/-! SUPPORT. What the view tests and the settling leave of the CLC, and the LIF's count and timers through the
configured indication. -/

namespace Sys2Proof.Machine

/-! ### The CLC through a settling -/

/-- The CLC without what the FLU's indications and the place-free indication reach: the latch, the start hold and the held
request. -/
def State.loop (s : State) : Clc := { s.clc with heldPump := none, latch := false, startHold := none }

theorem State.loop_of_coolant {s t : State} (h : t.coolant = s.coolant) : t.loop = s.loop :=
  (congrArg (fun c : Clc => { c with heldPump := none, latch := false, startHold := none }) h :)

theorem State.indicate_loop (s : State) : s.indicate.loop = s.loop := by
  have go {x : State} (hx : x.loop = s.loop) (c : Prop) [Decidable c] (f : State → State)
      (hf : (f x).loop = x.loop) : (if c then x else f x).loop = s.loop := by
    split
    · exact hx
    · exact hf.trans hx
  unfold State.indicate
  dsimp only
  generalize hx : ({ s with flu := { s.flu with
    exponent := exponentOf s.flu.members
    stringLatch := s.flu.members.any (fun m => m.actions.stringLatch)
    yawLock := s.flu.members.any (fun m => m.actions.yawLock)
    pumpLatch := s.flu.members.any (fun m => m.actions.pumpLatch) } } : State) = x
  have h0 : x.loop = s.loop := by
    rw [← hx]
    rfl
  exact go (go (go (go h0 _ (fun y => y.stcDerate _) (State.loop_of_coolant (State.stcDerate_coolant _ _))) _
    (fun y => y.stcLatch _) (State.loop_of_coolant (State.stcLatch_coolant _ _))) _
    (fun y => y.ywcLock _) (State.loop_of_coolant (by simp))) _ (fun y => y.clcLatch _) rfl

theorem State.serve_loop (s : State) (r : Request) : (s.serve r).loop = s.loop := by
  cases r with
  | raised code v o =>
    have hj : (s.joined code o).loop = s.loop := by
      unfold State.joined
      split
      · exact State.indicate_loop _
      · rfl
    have ha : (s.acted code o).loop = s.loop := by
      unfold State.acted
      split
      · exact (State.loop_of_coolant (by simp)).trans hj
      · exact hj
    rw [State.serve, State.takeRaise_eq]
    split
    · exact (State.loop_of_coolant (by simp)).trans ha
    · exact (State.loop_of_coolant (by simp)).trans ha
  | cleared code =>
    show (s.takeClear code).loop = s.loop
    unfold State.takeClear
    split
    · rfl
    · exact State.indicate_loop _

theorem State.settleWithin_loop (n : Nat) (s : State) : (s.settleWithin n).loop = s.loop := by
  induction n generalizing s with
  | zero => rfl
  | succ n ih =>
    unfold State.settleWithin
    split
    · rfl
    · exact (ih _).trans (State.serve_loop _ _)

theorem State.settle_loop (s : State) : s.settle.loop = s.loop := s.settleWithin_loop 32

/-! ### The view tests -/

/-- What every view test keeps, the view tests keep. -/
theorem State.viewTests_keep {P : State → Prop} (hs : ∀ x, P x → P x.startTests) (hb : ∀ x, P x → P x.bothRunningTest)
    (ho : ∀ x, P x → P x.outgoingTest) (hf : ∀ x, P x → P x.flowTest) (n : Nat) (s : State) (h : P s) :
    P (State.viewTests n s) := by
  induction n generalizing s with
  | zero => exact h
  | succ n ih =>
    unfold State.viewTests
    dsimp only
    split
    · exact ih _ (hs _ h)
    · split
      · exact ih _ (hb _ (hs _ h))
      · split
        · exact ih _ (ho _ (hb _ (hs _ h)))
        · exact hf _ (ho _ (hb _ (hs _ h)))

/-- The CLC without the pump owner's record, the flow state and its timer, and what the FLU reaches: the loop view, the
vote and the fan bank with the timers of the rounds. -/
def Clc.aside (c : Clc) : Clc :=
  { c with
    owner := .noPump, pumpOutput := false, duty := 0, incoming := false, heldPump := none, startHold := none
    confirmTimer := none, dutyTimer := none, handoffTimer := none, flow := .flowOk, lostFlag := false, graceTimer := none
    latch := false }

theorem State.aside_of_coolant {s t : State} (h : t.coolant = s.coolant) : t.clc.aside = s.clc.aside := (congrArg Clc.aside h :)

theorem State.aside_of_loop {s t : State} (h : t.loop = s.loop) : t.clc.aside = s.clc.aside := (congrArg Clc.aside h :)

theorem State.requestPump_coolant (s : State) : s.requestPump.coolant = s.coolant := by
  unfold State.requestPump
  split
  · exact s.request_coolant _ _
  · rfl

theorem State.requestPump_loop (s : State) : s.requestPump.loop = s.loop := State.loop_of_coolant s.requestPump_coolant

theorem State.changeOwner_aside (s : State) (o : PumpOwner) : (s.changeOwner o).clc.aside = s.clc.aside :=
  (State.aside_of_coolant (s.setOwner o).requestPump_coolant).trans rfl

theorem State.enterStarting_aside (s : State) : s.enterStarting.clc.aside = s.clc.aside := by
  unfold State.enterStarting
  dsimp only
  split
  · exact (State.changeOwner_aside _ _).trans (s.changeOwner_aside _)
  · exact s.changeOwner_aside _

theorem State.holdStart_aside (s : State) : s.holdStart.clc.aside = s.clc.aside := by
  unfold State.holdStart
  (repeat' split) <;> rfl

theorem State.startTests_aside (s : State) : s.startTests.clc.aside = s.clc.aside := by
  unfold State.startTests
  split
  · rfl
  · split
    · exact s.enterStarting_aside
    · rfl
  · split
    · exact s.enterStarting_aside
    · exact s.holdStart_aside

theorem State.bothRunningTest_aside (s : State) : s.bothRunningTest.clc.aside = s.clc.aside := by
  unfold State.bothRunningTest
  split
  · exact s.changeOwner_aside _
  · rfl

theorem State.outgoingTest_aside (s : State) : s.outgoingTest.clc.aside = s.clc.aside := by
  unfold State.outgoingTest
  split
  · dsimp only
    split
    · exact s.changeOwner_aside _
    · split
      · exact State.changeOwner_aside _ _
      · rfl
  · rfl

theorem State.setFlow_aside (s : State) (f : FlowState) : (s.setFlow f).clc.aside = s.clc.aside :=
  (State.aside_of_coolant (State.stcFlow_coolant { s with clc := { s.clc with flow := f } } f)).trans rfl

theorem State.flowTest_aside (s : State) : s.flowTest.clc.aside = s.clc.aside := by
  unfold State.flowTest
  split
  · split
    · exact State.setFlow_aside _ _
    · exact State.setFlow_aside _ _
    · dsimp only
      split
      · exact s.setFlow_aside _
      · exact s.setFlow_aside _
    · rfl
  · rfl

theorem State.viewTests_aside (n : Nat) (s : State) : (State.viewTests n s).clc.aside = s.clc.aside :=
  State.viewTests_keep (P := fun x => x.clc.aside = s.clc.aside) (fun x h => x.startTests_aside.trans h)
    (fun x h => x.bothRunningTest_aside.trans h) (fun x h => x.outgoingTest_aside.trans h)
    (fun x h => x.flowTest_aside.trans h) n s rfl

/-! ### The share timer through the view tests -/

theorem State.stcFlow_shareTimer (s : State) (f : FlowState) : (s.stcFlow f).stc.shareTimer = s.stc.shareTimer := by
  have h : (s.stcFlow f).given = State.given { s with stc := { s.stc with flow := f } } :=
    (State.startTest_given _).trans (State.formLimit_given _)
  exact (congrArg (fun g => g.2.2.2.2.2) h :)

theorem State.flowTest_shareTimer (s : State) : s.flowTest.stc.shareTimer = s.stc.shareTimer := by
  unfold State.flowTest
  split
  · split
    · exact State.stcFlow_shareTimer _ _
    · exact State.stcFlow_shareTimer _ _
    · dsimp only
      split
      · exact State.stcFlow_shareTimer _ _
      · exact State.stcFlow_shareTimer _ _
    · rfl
  · rfl

theorem State.shareTimer_of_string {s t : State} (h : t.string = s.string) : t.stc.shareTimer = s.stc.shareTimer :=
  (congrArg Stc.shareTimer h :)

theorem State.viewTests_shareTimer (n : Nat) (s : State) : (State.viewTests n s).stc.shareTimer = s.stc.shareTimer :=
  State.viewTests_keep (P := fun x => x.stc.shareTimer = s.stc.shareTimer)
    (fun x h => (State.shareTimer_of_string x.startTests_string).trans h)
    (fun x h => (State.shareTimer_of_string x.bothRunningTest_string).trans h)
    (fun x h => (State.shareTimer_of_string x.outgoingTest_string).trans h) (fun x h => x.flowTest_shareTimer.trans h) n s rfl

theorem State.settle_shareTimer (s : State) : s.settle.stc.shareTimer = s.stc.shareTimer :=
  (congrArg (fun g => g.2.2.2.2.2) s.settle_given :)

/-! ### The line through the blocks' configured indications -/

theorem State.requestPump_lined (s : State) : s.Lined s.requestPump := by
  unfold State.requestPump
  split
  · exact (s.request_lined _ _).held rfl
  · exact .refl s

theorem State.changeOwner_lined (s : State) (o : PumpOwner) : s.Lined (s.changeOwner o) :=
  (State.requestPump_lined _).after (.of_eq rfl)

theorem State.enterRunning_lined (s : State) : s.Lined s.enterRunning := (State.changeOwner_lined _ _).after (.of_eq rfl)

theorem State.enterStarting_lined (s : State) : s.Lined s.enterStarting :=
  .ite _ ((s.changeOwner_lined _).trans (State.enterRunning_lined _)) (s.changeOwner_lined _)

theorem State.startTests_lined (s : State) : s.Lined s.startTests := by
  unfold State.startTests
  split
  · exact .refl s
  · exact .ite _ s.enterStarting_lined (.refl s)
  · exact .ite _ s.enterStarting_lined (.ite _ (.ite _ (.refl s) (.of_eq rfl)) (.of_eq rfl))

theorem State.bothRunningTest_lined (s : State) : s.Lined s.bothRunningTest := .ite _ (s.changeOwner_lined _) (.refl s)

theorem State.outgoingTest_lined (s : State) : s.Lined s.outgoingTest := by
  unfold State.outgoingTest
  split
  · exact .ite _ (s.changeOwner_lined _) (.ite _ s.enterRunning_lined (.refl s))
  · exact .refl s

theorem State.stcFlow_lined (s : State) (f : FlowState) : s.Lined (s.stcFlow f) :=
  (State.startTest_lined _).after ((State.formLimit_lined _).after (.of_eq rfl))

theorem State.setFlow_lined (s : State) (f : FlowState) : s.Lined (s.setFlow f) :=
  (State.stcFlow_lined _ _).after (.of_eq rfl)

theorem State.flowTest_lined (s : State) : s.Lined s.flowTest := by
  unfold State.flowTest
  split
  · split
    · exact (State.setFlow_lined _ _).after (.of_eq rfl)
    · exact (State.setFlow_lined _ _).after (.of_eq rfl)
    · exact .ite _ ((s.setFlow_lined _).trans (.of_eq rfl)) (s.setFlow_lined _)
    · exact .refl s
  · exact .refl s

theorem State.viewTests_lined (n : Nat) (s : State) : s.Lined (State.viewTests n s) :=
  State.viewTests_keep (P := fun x => s.Lined x) (fun x h => h.trans x.startTests_lined)
    (fun x h => h.trans x.bothRunningTest_lined) (fun x h => h.trans x.outgoingTest_lined)
    (fun x h => h.trans x.flowTest_lined) n s (.refl s)

theorem State.stcConfigured_lined (s : State) : s.Lined s.stcConfigured :=
  have h : s.Lined (State.formLimit { s with stc := { s.stc with shareTimer := some s.period } }) :=
    (State.formLimit_lined _).after (.of_eq rfl)
  .ite _ (h.trans (State.drive_lined _ _ _)) (h.trans (State.startTest_lined _))

theorem State.stcPermit_lined (s : State) (permit : Bool) : s.Lined (s.stcPermit permit) := by
  obtain ⟨c, _, _, h | h | ⟨st, v, _, h⟩⟩ := s.stcPermit_shape permit
  · rw [h]
    exact (State.startTest_lined _).after (.of_eq rfl)
  · rw [h]
    exact .of_eq rfl
  · rw [h]
    exact (State.drive_lined _ _ _).after (.of_eq rfl)

theorem State.ywcPermit_lined (s : State) (permit : Bool) : s.Lined (s.ywcPermit permit) :=
  .ite _ (.of_eq rfl) ((State.haltProposal_lined _ _).after (.of_eq rfl))

theorem State.givePermits_lined (s : State) (run yaw : Bool) : s.Lined (s.givePermits run yaw) := by
  have h : s.Lined (if s.effectiveRun = run then s else (s.stcPermit s.effectiveRun).settle) :=
    .ite _ (.refl s) ((s.stcPermit_lined _).trans (State.settle_lined _))
  exact .ite _ h ((h.trans (State.ywcPermit_lined _ _)).trans (State.settle_lined _))

theorem State.mismatchTest_lined (s : State) : s.Lined s.mismatchTest := by
  unfold State.mismatchTest
  split
  · exact .ite _ (.refl s) ((State.raiseNow_lined _ _ _ _).after (.of_eq rfl))
  · exact .ite _ ((State.clearNow_lined _ _).after (.of_eq rfl)) (.refl s)

theorem State.supervisorIndication_lined (s : State) (present : Bool) : s.Lined (s.supervisorIndication present) :=
  .ite _ (.refl s) (.ite _ ((State.select_lined _).after (.of_eq rfl)) ((State.noteHolders_lined _).after (.of_eq rfl)))

theorem State.ptbConfigured_lined (s : State) : s.Lined s.ptbConfigured := by
  unfold State.ptbConfigured
  dsimp only
  generalize hx : ({ s with ptb := { s.ptb with silenceTimer := some s.period } } : State) = x
  have h0 : s.Lined x := by
    rw [← hx]
    exact .of_eq rfl
  have h1 := h0.trans (x.supervisorIndication_lined (x.isPresent s.prm.supervisor))
  refine ((State.Lined.ite _ h1 (h1.trans (State.raiseNow_lined _ _ _ _))).trans (State.mismatchTest_lined _)).trans
    (State.givePermits_lined _ _ _)

theorem State.takeTurn_only (s : State) : ∃ y, s.takeTurn = { s with ywc := y } := by
  unfold State.takeTurn
  dsimp only
  split
  · exact ⟨s.ywc, rfl⟩
  · exact ⟨_, rfl⟩

theorem State.takeTwist_only (s : State) : ∃ y, s.takeTwist = { s with ywc := y } := by
  unfold State.takeTwist
  split
  · exact ⟨s.ywc, rfl⟩
  · exact ⟨_, rfl⟩

/-- The configured indication at the YWC changes the YWC alone. -/
theorem State.ywcConfigured_only (s : State) : ∃ y, s.ywcConfigured = { s with ywc := y } := by
  unfold State.ywcConfigured
  split
  · obtain ⟨y, hy⟩ := State.takeTurn_only { s with ywc := { s.ywc with checkTimer := some s.period } }
    obtain ⟨z, hz⟩ := State.takeTwist_only (State.takeTurn { s with ywc := { s.ywc with checkTimer := some s.period } })
    exact ⟨z, hz.trans (by rw [hy])⟩
  · exact ⟨s.ywc, rfl⟩

theorem State.ywcConfigured_lif (s : State) : s.ywcConfigured.lif = s.lif := by
  obtain ⟨y, h⟩ := s.ywcConfigured_only
  rw [h]

theorem State.configuredIndication_statusTimer (s : State) : s.configuredIndication.lif.statusTimer = some s.period := by
  have h : s.lifConfigured.testPressure.Lined s.lifConfigured.testPressure.ptbConfigured := State.ptbConfigured_lined _
  have h0 : s.lifConfigured.testPressure.lif.statusTimer = some s.period := rfl
  unfold State.configuredIndication
  dsimp only
  generalize s.lifConfigured.testPressure = w at h h0
  generalize w.ptbConfigured = x at h
  have hx := (h.trans x.stcConfigured_lined).trans (State.settle_lined _)
  generalize x.stcConfigured.settle = y at hx
  have hy : w.Lined y.ywcConfigured := hx.trans (.of_eq y.ywcConfigured_lif)
  generalize y.ywcConfigured = z at hy
  have hz : w.Lined z.clcConfigured := (State.viewTests_lined 8 _).after (hy.trans (.of_eq rfl))
  exact (hz.trans (State.settle_lined _)).statusTimer.trans h0

/-! ### The other timers of the rounds -/

theorem State.ywcConfigured_outer (s : State) : s.ywcConfigured.outer = s.outer := by
  obtain ⟨y, h⟩ := s.ywcConfigured_only
  rw [h]
  rfl

theorem State.stcConfigured_outer (s : State) : s.stcConfigured.outer = s.outer := by
  unfold State.stcConfigured
  dsimp only
  split
  · exact (State.drive_outer _ _ _).trans (State.formLimit_outer _)
  · exact (State.startTest_outer _).trans (State.formLimit_outer _)

theorem State.clcConfigured_outer (s : State) : s.clcConfigured.outer = s.outer := State.viewTests_outer _ 8

/-- What follows the PTB's configured indication leaves the ICU, the PTB and the levels. -/
theorem State.configuredIndication_outer (s : State) :
    s.configuredIndication.outer = s.lifConfigured.testPressure.ptbConfigured.outer := by
  unfold State.configuredIndication
  dsimp only
  rw [State.settle_outer, State.clcConfigured_outer, State.ywcConfigured_outer, State.settle_outer, State.stcConfigured_outer]

theorem State.givePermits_outer (s : State) (run yaw : Bool) : (s.givePermits run yaw).outer = s.outer := by
  have h : (if s.effectiveRun = run then s else (s.stcPermit s.effectiveRun).settle).outer = s.outer := by
    split
    · rfl
    · exact (State.settle_outer _).trans (s.stcPermit_outer _)
  unfold State.givePermits
  dsimp only
  generalize (if s.effectiveRun = run then s else (s.stcPermit s.effectiveRun).settle) = t at h ⊢
  split
  · exact h
  · exact (State.settle_outer _).trans ((State.ywcPermit_outer _ _).trans h)

theorem State.ptbConfigured_work (s : State) : s.ptbConfigured.icu = s.icu ∧
    s.ptbConfigured.levels = s.levels ∧ s.ptbConfigured.ptb.silenceTimer = some s.period := by
  unfold State.ptbConfigured
  dsimp only
  generalize hx : ({ s with ptb := { s.ptb with silenceTimer := some s.period } } : State) = x
  generalize hy : (if (x.supervisorIndication (x.isPresent s.prm.supervisor)).isPresent s.prm.supervisor = true then
    x.supervisorIndication (x.isPresent s.prm.supervisor)
    else (x.supervisorIndication (x.isPresent s.prm.supervisor)).raiseNow .supervisorLost s.prm.supervisor.val) = y
  have hyo : y.outer = x.outer := by
    rw [← hy]
    split
    · exact x.supervisorIndication_outer _
    · exact (State.raiseNow_outer _ _ _ _).trans (x.supervisorIndication_outer _)
  have hm := y.mismatchTest_work
  have hg := y.mismatchTest.givePermits_outer false false
  have htimer : y.mismatchTest.ptb.silenceTimer = y.ptb.silenceTimer := by rw [hm.ptb]
  exact ⟨(State.outer_icu hg).trans (hm.icu.trans ((State.outer_icu hyo).trans (by rw [← hx]))),
    (State.outer_levels hg).trans (hm.levels.trans ((State.outer_levels hyo).trans (by rw [← hx]))),
    (congrArg Ptb.silenceTimer (State.outer_ptb hg)).trans (htimer.trans
      ((congrArg Ptb.silenceTimer (State.outer_ptb hyo)).trans (by rw [← hx])))⟩

theorem State.stcConfigured_shareTimer (s : State) : s.stcConfigured.stc.shareTimer = some s.period := by
  have h : s.stcConfigured.given = State.given { s with stc := { s.stc with shareTimer := some s.period } } := by
    unfold State.stcConfigured
    dsimp only
    split
    · exact (State.drive_given _ _ _).trans (State.formLimit_given _)
    · exact (State.startTest_given _).trans (State.formLimit_given _)
  exact (congrArg (fun g => g.2.2.2.2.2) h :)

theorem State.ywcConfigured_stc (s : State) : s.ywcConfigured.stc = s.stc := by
  obtain ⟨y, h⟩ := s.ywcConfigured_only
  rw [h]

/-- What the configured indication leaves of the ICU and the levels, and the timers that it starts (02 R25). -/
theorem State.configuredIndication_timers (s : State) : s.configuredIndication.icu = s.icu ∧
    s.configuredIndication.levels = s.levels ∧ s.configuredIndication.lif.statusTimer = some s.period ∧
    s.configuredIndication.ptb.silenceTimer = some s.period ∧ s.configuredIndication.stc.shareTimer = some s.period ∧
    s.configuredIndication.clc.sampleTimer = some s.period := by
  have ho := s.configuredIndication_outer
  obtain ⟨hi, hl, ht⟩ := s.lifConfigured.testPressure.ptbConfigured_work
  have hperiod (x : State) (h : x.icu = s.icu) : x.period = s.period := by
    unfold State.period State.configured State.prm
    rw [h]
  refine ⟨(State.outer_icu ho).trans hi, (State.outer_levels ho).trans hl, s.configuredIndication_statusTimer,
    (congrArg Ptb.silenceTimer (State.outer_ptb ho)).trans ht, ?_⟩
  unfold State.configuredIndication
  dsimp only
  generalize s.lifConfigured.testPressure.ptbConfigured = x at hi
  have hxi : x.stcConfigured.settle.ywcConfigured.icu = s.icu := by
    refine (State.outer_icu (State.ywcConfigured_outer _)).trans ((State.outer_icu (State.settle_outer _)).trans ?_)
    exact (State.outer_icu (State.stcConfigured_outer _)).trans hi
  have hxt : x.stcConfigured.settle.ywcConfigured.stc.shareTimer = some s.period := by
    rw [State.ywcConfigured_stc, State.settle_shareTimer, State.stcConfigured_shareTimer, hperiod x hi]
  generalize x.stcConfigured.settle.ywcConfigured = y at hxi hxt
  rw [State.settle_shareTimer, ← hperiod y hxi]
  refine ⟨(State.viewTests_shareTimer 8 _).trans (hxt.trans (congrArg some (hperiod y hxi).symm)), ?_⟩
  exact (congrArg Clc.sampleTimer ((State.aside_of_loop (State.settle_loop _)).trans (State.viewTests_aside 8 _)) :)

end Sys2Proof.Machine
end

section
/-! PROOFS. The configuration parts, the record's outcome and the two resets (02 R25 to R37). -/

namespace Sys2Proof.Machine

/-! ### Parts -/

theorem State.takePart_configured (s : State) (f : PartFields) (h : s.configured = true) : s.takePart f = s := by
  unfold State.takePart
  rw [h]
  rfl

/-- A part for this station in phase UNCONFIGURED, of an index up to 5. -/
theorem State.takePart_targeted (s : State) (f : PartFields) (hc : s.configured = false) (ht : s.targeted f.target = true)
    (h5 : f.index ≤ 5) : s.takePart f =
      if f.index = 0 then
        if f.serial = 0 then s else s.setAssembly { serial := f.serial, next := 1, bytes := f.bytes }
      else s.takeLaterPart f := by
  unfold State.takePart
  rw [hc, ht, decide_eq_false (by omega)]
  rfl

/-- A later part in turn. -/
theorem State.takePart_inTurn (s : State) (f : PartFields) (a : Assembly) (hc : s.configured = false)
    (ht : s.targeted f.target = true) (h0 : f.index ≠ 0) (h5 : f.index ≤ 5) (ha : s.icu.assembly = some a)
    (hn : f.index = a.next) (hs : f.serial = a.serial) : s.takePart f =
      if f.index = 5 then s.validateRecord { a with next := a.next + 1, bytes := a.bytes ++ f.bytes }
      else s.setAssembly { a with next := a.next + 1, bytes := a.bytes ++ f.bytes } := by
  rw [s.takePart_targeted f hc ht h5, if_neg h0]
  unfold State.takeLaterPart
  rw [ha]
  exact if_pos ⟨hn, hs⟩

theorem State.takeLaterPart_out (s : State) (f : PartFields)
    (h : ∀ a, s.icu.assembly = some a → f.index ≠ a.next ∨ f.serial ≠ a.serial) : s.takeLaterPart f = s := by
  unfold State.takeLaterPart
  split
  · rfl
  · rename_i a ha
    exact if_neg fun k => (h a ha).elim (fun e => e k.1) (fun e => e k.2)

/-- The parts that change nothing (02 R26 to R28). -/
theorem State.takePart_ignored (s : State) (f : PartFields)
    (h : s.targeted f.target = false ∨ 5 < f.index ∨ f.index = 0 ∧ f.serial = 0 ∨
      f.index ≠ 0 ∧ (∀ a, s.icu.assembly = some a → f.index ≠ a.next ∨ f.serial ≠ a.serial)) : s.takePart f = s := by
  unfold State.takePart
  split
  · rfl
  · rename_i hk
    simp only [Bool.or_eq_true, Bool.not_eq_true', decide_eq_true_eq, not_or, Bool.not_eq_true] at hk
    obtain ⟨⟨_, ht⟩, h5⟩ := hk
    rcases h with h | h | ⟨h0, hs⟩ | ⟨h0, ha⟩
    · exact absurd h ht
    · exact absurd h h5
    · rw [if_pos h0, if_pos hs]
    · rw [if_neg h0]
      exact s.takeLaterPart_out f ha

theorem exec_configPart_heard (source : Station) (payload : List Byte) (f : PartFields) (s : State)
    (h : s.Hears .configPart source payload) (hd : decodePart payload = some f) :
    exec (.configPart source payload) s = .next ((s.heard (some .configPart) source).takePart f) := by
  have he : exec (.configPart source payload) s = execConfigPart source payload s := rfl
  rw [he, execConfigPart, s.receive_heard _ _ _ _ h, hd]

/-- Settles O24: the parts that begin, extend or leave the assembly. -/
theorem configParts : Obligations.ConfigParts := by
  refine ⟨fun f s hc => ⟨fun ht h0 hs => ?_, fun a ha ht h0 h5 hn hs => ?_, s.takePart_ignored f⟩,
    exec_configPart_heard, fun source payload s h hc => ?_⟩
  · dsimp only
    rw [s.takePart_targeted f hc ht (by omega), if_pos h0, if_neg hs]
    rfl
  · dsimp only
    rw [s.takePart_inTurn f a hc ht h0 (by omega) ha hn hs, if_neg (by omega)]
    rfl
  · have he : exec (.configPart source payload) s = execConfigPart source payload s := rfl
    rw [he, execConfigPart, s.receive_heard _ _ _ _ h]
    split
    · rw [State.takePart_configured _ _ (by exact hc)]
    · rfl

/-! ### The outcome of a record -/

theorem State.validateRecord_rejects (s : State) (a : Assembly) (n : Nat) (h : validate s.own (decodeRecord a.bytes) = some n) :
    s.validateRecord a = s.rejectRecord n := by
  unfold State.validateRecord
  dsimp only
  rw [h]

theorem State.validateRecord_accepts (s : State) (a : Assembly) (h : validate s.own (decodeRecord a.bytes) = none) :
    s.validateRecord a = s.accept a.serial (decodeRecord a.bytes) := by
  unfold State.validateRecord
  dsimp only
  rw [h]

theorem State.rejectRecord_leaves (s : State) (n : Nat) :
    (s.rejectRecord n).icu = { s.icu with assembly := none, reject := n } ∧ (s.rejectRecord n).levels = s.levels := by
  unfold State.rejectRecord
  generalize hx : ({ s with icu := { s.icu with assembly := none, reject := n } } : State) = x
  have ho := x.raiseNow_outer .configRejected n none
  exact ⟨(State.outer_icu ho).trans (by rw [← hx]), (State.outer_levels ho).trans (by rw [← hx])⟩

/-- Settles O25: part 5 in turn, rejected or accepted. -/
theorem recordOutcome : Obligations.RecordOutcome := by
  intro source payload f a s h hd hc ht h5 ha hn hs p
  have he := exec_configPart_heard source payload f s h hd
  generalize hu : s.heard (some .configPart) source = u at he
  have hicu : u.icu = s.icu := by rw [← hu]; rfl
  have hlev : u.levels = s.levels := by rw [← hu]; rfl
  have hown : u.own = s.own := by rw [← hu]; rfl
  rw [u.takePart_inTurn f a (by rw [← hu]; exact hc) (by rw [← hu]; exact ht) (by omega) (by omega)
    (by rw [hicu]; exact ha) (by omega) hs, if_pos h5] at he
  refine ⟨fun n hv => ⟨_, he, ?_⟩, fun hv => ⟨_, he, ?_⟩⟩
  · rw [u.validateRecord_rejects _ n (by rw [hown]; exact hv), ← hicu, ← hlev]
    exact u.rejectRecord_leaves n
  · rw [u.validateRecord_accepts _ (by rw [hown]; exact hv), ← hicu, ← hlev]
    unfold State.accept
    generalize hx : ({ u with icu := { u.icu with
      phase := .configured, assembly := none, params := some p, serial := a.serial, reject := 0 } } : State) = x
    obtain ⟨hi, hl, hstatus, hsilence, hshare, hsample⟩ := x.configuredIndication_timers
    have hp : x.period = p.statusInterval := by rw [← hx]; rfl
    rw [hp] at hstatus hsilence hshare hsample
    exact ⟨hi.trans (by rw [← hx]), hstatus, hsilence, hshare, hsample, hl.trans (by rw [← hx])⟩

/-! ### Resets -/

/-- A PUMP_STATE that finds a place (08 R134). -/
theorem State.requestPump_place (s : State) (p : Pump) (ho : s.ownPump = some p) (h : s.hasPlace = true) :
    s.requestPump = State.noteHolders { s.enqueue .pumpState (encodePump p s.clc.owner s.clc.duty) with
      clc := { s.clc with heldPump := none } } := by
  unfold State.requestPump
  rw [ho]
  dsimp only
  rw [s.request_place _ _ h]
  rfl

/-- The report at the end of a reset, on a LIF at its reset values with nothing held (08 R134, R149). -/
theorem State.reportAtReset_eq (s : State) (hl : s.lif = Lif.atReset) (ht : s.stc.heldTrip = none) (hy : s.ywc.held = [])
    (hf : s.flu.held = []) (hp : s.clc.heldPump = none) : s.reportAtReset = { s with lif := { Lif.atReset with queue :=
      match s.icu.straps.pumpRole with
      | .noRole => []
      | .a => [s.newFrame .pumpState (encodePump .a s.clc.owner s.clc.duty)]
      | .b => [s.newFrame .pumpState (encodePump .b s.clc.owner s.clc.duty)] } } := by
  have reported (p : Pump) (ho : s.ownPump = some p) : s.reportAtReset =
      { s with lif := { Lif.atReset with queue := [s.newFrame .pumpState (encodePump p s.clc.owner s.clc.duty)] } } := by
    have hclc : ({ s.clc with heldPump := none } : Clc) = s.clc := by rw [← hp]
    have hplace : s.hasPlace = true := by
      unfold State.hasPlace
      rw [hl]
      rfl
    rw [State.reportAtReset, s.requestPump_place p ho hplace, hclc, s.enqueue_busy _ _ (by rw [hl]; rfl), hl]
    unfold State.noteHolders
    dsimp only
    rw [ht, hy, hf, hp]
    rfl
  cases hr : s.icu.straps.pumpRole with
  | noRole =>
    have ho : s.ownPump = none := by
      unfold State.ownPump
      rw [hr]
    have h : s.reportAtReset = s := by
      unfold State.reportAtReset State.requestPump
      rw [ho]
    rw [h]
    show s = { s with lif := Lif.atReset }
    rw [← hl]
  | a => exact reported .a (by unfold State.ownPump; rw [hr])
  | b => exact reported .b (by unfold State.ownPump; rw [hr])

theorem unackedCount_lineReset (f : Flu) : unackedCount f.lineReset.log = unackedCount f.log := by
  have h (e : Entry) : ((if e.report = .inService then Report.pending else e.report) != .acked) = (e.report != .acked) := by
    cases e.report <;> rfl
  unfold unackedCount
  show ((f.log.map _).filter _).length = _
  rw [List.filter_map, List.length_map]
  exact congrArg List.length (List.filter_congr fun e _ => h e)

theorem State.fullReset_eq (s : State) (pins : BitVec 10) (first : Levels) :
    s.fullReset pins first =
      { s with
        icu := Icu.atReset (latchStraps pins)
        lif := { Lif.atReset with queue := (s.fullReset pins first).lif.queue }
        ptb := Ptb.atReset
        stc := Stc.atReset first.contactorClosed
        ywc := Ywc.atReset (latchStraps pins).drives
        clc := Clc.atReset (latchStraps pins).pumpRole
        flu := Flu.atReset
        levels := first
        differing := Differing.none } := by
  unfold State.fullReset
  dsimp only
  rw [State.reportAtReset_eq _ rfl rfl rfl rfl rfl]

/-- Settles O26: every block at its full-reset values. -/
theorem fullResetLeaves : Obligations.FullResetLeaves := by
  intro pins first s x
  have h : exec (.fullReset pins first) s = .next (s.fullReset pins first) := rfl
  have hq : (s.fullReset pins first).lif.queue = match x.pumpRole with
      | .noRole => []
      | .a => [(s.fullReset pins first).newFrame .pumpState (encodePump .a .standby 0)]
      | .b => [(s.fullReset pins first).newFrame .pumpState (encodePump .b .standby 0)] := by
    unfold State.fullReset
    dsimp only
    rw [State.reportAtReset_eq _ rfl rfl rfl rfl rfl]
    show (match (latchStraps pins).pumpRole with | .noRole => _ | .a => _ | .b => _) = _
    cases hp : (latchStraps pins).pumpRole with
    | noRole | a | b => rfl
  refine ⟨_, h, ?_⟩
  generalize hv : s.fullReset pins first = v at hq
  have he := s.fullReset_eq pins first
  rw [hv] at he
  rw [he] at hq ⊢
  refine ⟨rfl, rfl, rfl, rfl, rfl, rfl, rfl, rfl, rfl, rfl, rfl, ?_⟩
  split <;> rename_i hp <;> simp only [hp] at hq <;> exact hq

/-- The state of a line reset, with its log, its position and its one report (02 R35). -/
theorem State.lineReset_eq (s : State) : s.lineReset =
    { s with
      icu := Icu.atReset s.icu.straps
      lif := { Lif.atReset with queue :=
        match s.icu.straps.pumpRole with
        | .noRole => []
        | .a => [s.newFrame .pumpState (encodePump .a .standby 0)]
        | .b => [s.newFrame .pumpState (encodePump .b .standby 0)] }
      ptb := Ptb.atReset
      stc := Stc.atReset s.levels.contactorClosed
      ywc := s.ywc.lineReset s.icu.straps.drives
      clc := Clc.atReset s.icu.straps.pumpRole
      flu := { s.flu.lineReset with pressure := decide (32 ≤ unackedCount s.flu.log) } } := by
  have hp : State.testPressure { s with
      icu := Icu.atReset s.icu.straps
      lif := Lif.atReset
      ptb := Ptb.atReset
      stc := Stc.atReset s.levels.contactorClosed
      ywc := s.ywc.lineReset s.icu.straps.drives
      clc := Clc.atReset s.icu.straps.pumpRole
      flu := s.flu.lineReset } = { s with
      icu := Icu.atReset s.icu.straps
      lif := Lif.atReset
      ptb := Ptb.atReset
      stc := Stc.atReset s.levels.contactorClosed
      ywc := s.ywc.lineReset s.icu.straps.drives
      clc := Clc.atReset s.icu.straps.pumpRole
      flu := { s.flu.lineReset with pressure := decide (32 ≤ unackedCount s.flu.log) } } := by
    rw [← unackedCount_lineReset]
    rfl
  unfold State.lineReset
  rw [hp, State.reportAtReset_eq _ rfl rfl rfl rfl rfl]
  dsimp only [Icu.atReset]
  cases hr : s.icu.straps.pumpRole with
  | noRole | a | b => rfl

theorem exec_stationReset_heard (s : State) (source : Station) (target : Byte) (h : s.Hears .stationReset source [target]) :
    exec (.stationReset source [target]) s = .next (
      if (s.heard (some .stationReset) source).targeted target.toNat then (s.heard (some .stationReset) source).lineReset
      else s.heard (some .stationReset) source) := by
  have he : exec (.stationReset source [target]) s = execStationReset source [target] s := rfl
  rw [he, execStationReset, s.receive_heard _ _ _ _ h]
  rfl

/-- Settles O27: what a line reset keeps and clears, and the reset for another station. -/
theorem lineResetKeeps : Obligations.LineResetKeeps := by
  intro source target s h
  have he := exec_stationReset_heard s source target h
  generalize hu : s.heard (some .stationReset) source = u at he
  have ht : u.targeted target.toNat = (target.toNat == s.own.val || target.toNat == 8) := by rw [← hu]; rfl
  rw [ht] at he
  refine ⟨fun ⟨h1, h2⟩ => ?_, fun hor => ⟨u.lineReset, ?_, ?_⟩⟩
  · rw [he, if_neg (by simp [h1, h2])]
  · rw [he, if_pos (by simpa using hor)]
  · rw [u.lineReset_eq, ← hu]
    refine ⟨rfl, rfl, rfl, rfl, rfl, rfl, rfl, rfl, rfl, rfl, rfl, rfl, ?_, rfl, rfl, rfl⟩
    show (match s.icu.straps.pumpRole with | .noRole => _ | .a => _ | .b => _)
    cases hr : s.icu.straps.pumpRole with
    | noRole | a | b =>
      refine Eq.trans ?_ (congrArg (fun r : Role => match r with
        | .noRole => []
        | .a => [s.newFrame .pumpState (encodePump .a .standby 0)]
        | .b => [s.newFrame .pumpState (encodePump .b .standby 0)]) hr)
      rfl

end Sys2Proof.Machine
end

section
/-! PROOFS. Tooth steps, the ends of a move and the halts (06 R95; 07 R123 to R125). -/

namespace Sys2Proof.Machine

/-! ### Yaw requests and own halts on a busy line with a place -/

theorem hasPlace_of_lt {s : State} (h : s.lif.queue.length < 8) : s.hasPlace = true := decide_eq_true h

/-- A yaw request that finds a place on a busy line puts its frame into the queue and does nothing else. -/
theorem State.requestYaw_busy (s : State) (k : Kind) (r : Ref) (p : List Byte) (hq : s.lif.queue.length < 8)
    (hi : s.lif.lineIdle = false) : s.requestYaw k r p =
      { s with lif := { s.lif with queue := insertFrame (s.newFrame k p) s.lif.queue } } := by
  have h : (if k = .yawHalt then s.requestUrgent k p else s.request k p) = (s.enqueue k p, true) := by
    rw [s.requestUrgent_place k p (hasPlace_of_lt hq), s.request_place k p (hasPlace_of_lt hq), ite_self]
  unfold State.requestYaw
  dsimp only
  rw [h, if_pos rfl, s.enqueue_busy k p hi]

/-- A halt of the own station on such a line. -/
theorem State.ownHalt_busy (s : State) (r : Ref) (e : HaltReason) (hq : s.lif.queue.length < 8)
    (hi : s.lif.lineIdle = false) : s.ownHalt r e =
      { s with
        lif := { s.lif with queue := insertFrame (s.newFrame .yawHalt (encodeHalt r e)) s.lif.queue }
        ywc := haltedYwc s.ywc s.icu.straps.drives s.prm.holdoff r } := by
  rw [State.ownHalt, s.requestYaw_busy _ _ _ hq hi, State.takeHalt_eq]
  rfl

theorem State.haltMove_ref (s : State) (e : HaltReason) {r : Ref} (h : s.ywc.moveRef = some r) :
    s.haltMove e = s.ownHalt r e := by
  unfold State.haltMove
  rw [h]

theorem State.haltProposal_ref (s : State) (e : HaltReason) {r : Ref} (h : s.ywc.proposalRef = some r) :
    s.haltProposal e = s.ownHalt r e := by
  unfold State.haltProposal
  rw [h]

/-! ### The YWC after a halt -/

section
variable (y : Ywc) (drives holdoff : Nat) (r : Ref)

/-- The participant's part of a halt that is taken (07 R125). -/
def haltedPart (y : Ywc) (drives : Nat) : Ywc :=
  if y.participant = .answered then y.enter .idle drives
  else if y.participant ∈ [.releasing, .released, .driving] then y.enter .stopping drives
  else y

theorem haltedYwc_taken (h : y.moveRef = some r ∨ y.proposalRef = some r) : haltedYwc y drives holdoff r =
    { haltedPart y drives with
      proposal := (haltedYwc y drives holdoff r).proposal
      answerTimer := (haltedYwc y drives holdoff r).answerTimer
      releaseTimer := (haltedYwc y drives holdoff r).releaseTimer
      holdoffTimer := (haltedYwc y drives holdoff r).holdoffTimer } := by
  unfold haltedYwc
  rw [if_pos h]
  dsimp only
  split <;> rfl

/-- A halt for another ref than the record's leaves the record with its timers and the holdoff. -/
theorem haltedYwc_other (h : y.proposalRef ≠ some r) : (haltedYwc y drives holdoff r).proposal = y.proposal ∧
    (haltedYwc y drives holdoff r).answerTimer = y.answerTimer ∧
    (haltedYwc y drives holdoff r).releaseTimer = y.releaseTimer ∧
    (haltedYwc y drives holdoff r).holdoffTimer = y.holdoffTimer := by
  unfold haltedYwc
  simp only [h, if_false]
  (repeat' split) <;> exact ⟨rfl, rfl, rfl, rfl⟩

theorem haltedPart_answered (h : y.participant = .answered) : haltedPart y drives = y.enter .idle drives := if_pos h

theorem haltedPart_moving (h : y.participant ∈ [Participant.releasing, .released, .driving]) :
    haltedPart y drives = y.enter .stopping drives := by
  unfold haltedPart
  rw [if_neg (by rintro e; rw [e] at h; simp at h), if_pos h]

theorem haltedPart_still (h : y.participant ∈ [Participant.idle, .stopping, .braking]) : haltedPart y drives = y := by
  unfold haltedPart
  rw [if_neg (by rintro e; rw [e] at h; simp at h), if_neg (by
    simp only [List.mem_cons, List.not_mem_nil, or_false] at h ⊢
    rcases h with h | h | h <;> simp [h])]

theorem haltedPart_position : (haltedPart y drives).position = y.position ∧ (haltedPart y drives).twist = y.twist ∧
    (haltedPart y drives).window = y.window := by
  unfold haltedPart
  (repeat' split) <;> exact ⟨rfl, rfl, rfl⟩

end

/-! ### A step and its tests -/

theorem clampInt_eq (lo hi v : Int) (h : lo ≤ hi) : clampInt lo hi v = max lo (min hi v) := by
  unfold clampInt
  (repeat' split) <;> omega

theorem State.countMove_eq (s : State) (cw : Bool) : s.countMove cw = { s with ywc := { s.ywc with
    move := if s.ywc.participant = .driving ∧ s.ywc.move.isSome = true then
        s.ywc.move.map (fun m => { m with count := if m.clockwise = cw then m.count + 1 else m.count - 1 })
      else s.ywc.move
    stallTimer := if s.ywc.participant = .driving ∧ s.ywc.move.isSome = true then some 3000 else s.ywc.stallTimer } } := by
  unfold State.countMove
  split
  · rename_i m hp hm
    rw [hp, hm]
    rfl
  · rename_i hn
    have hne : ¬ (s.ywc.participant = .driving ∧ s.ywc.move.isSome = true) := by
      rintro ⟨hp, hm⟩
      obtain ⟨m, hm⟩ := Option.isSome_iff_exists.mp hm
      exact hn m hp hm
    simp only [if_neg hne]

theorem State.countRecord_eq (s : State) (cw : Bool) : s.countRecord cw = { s with ywc := { s.ywc with
    proposal := s.ywc.proposal.map (fun r =>
      if r.phase = .moving then { r with count := if r.clockwise = cw then r.count + 1 else r.count - 1 } else r) } } := by
  have same : s = { s with ywc := { s.ywc with proposal := s.ywc.proposal } } := rfl
  unfold State.countRecord
  cases hp : s.ywc.proposal with
  | none =>
    rw [hp] at same
    exact same
  | some r =>
    rw [hp] at same
    dsimp only [Option.map_some]
    split
    · rfl
    · exact same

/-- A step counted is the state in which the stop conditions are tested. -/
theorem State.stepped_eq (s : State) (channel : Channel) :
    let cw := stepIsClockwise channel (changeTooth s.levels channel).toothA (changeTooth s.levels channel).toothB
    ((State.countStep { s with levels := changeTooth s.levels channel } cw).countMove cw).countRecord cw =
      s.stepped channel := by
  have htwist (cw : Bool) : stepTwist s.ywc.twist cw =
      max (-131072) (min 131071 (if cw then s.ywc.twist + 1 else s.ywc.twist - 1)) := clampInt_eq _ _ _ (by decide)
  dsimp only
  rw [State.countRecord_eq, State.countMove_eq]
  unfold State.stepped State.countStep
  simp only [htwist]
  cases channel with
  | a => rfl
  | b =>
    rw [Bool.beq_comm (a := (changeTooth s.levels .b).toothB)]
    rfl

theorem exec_toothStep (channel : Channel) (s : State) (h : s.hasSensors = true) :
    exec (.toothStep channel) s = .next (s.stepped channel).motionTests := by
  rw [← s.stepped_eq channel]
  exact congrArg Host.Outcome.next (if_pos h)

theorem State.reached_iff (s : State) : s.ywc.reached = true ↔ s.Reached := by
  unfold Ywc.reached State.Reached
  cases h : s.ywc.proposal with
  | none => simp
  | some r => simp

theorem State.overrun_iff (s : State) : s.ywc.overrun s.prm.overrunMargin = true ↔ s.Overrun := by
  unfold Ywc.overrun State.Overrun
  split
  · rename_i m hp hm
    simp [hp, hm]
  · rename_i hn
    constructor
    · intro h
      cases h
    · rintro ⟨hp, m, hm, _⟩
      exact absurd hm (hn m hp)

theorem increasesTwist_iff (w : Int) (clockwise : Bool) :
    increasesTwist w clockwise = true ↔ (if clockwise then 0 ≤ w else w ≤ 0) := by
  cases clockwise <;> simp [increasesTwist]

theorem State.overtwisted_iff (s : State) : s.ywc.overtwisted s.prm.twistLimit = true ↔ s.Overtwisted := by
  unfold Ywc.overtwisted State.Overtwisted
  split
  · rename_i m hp hm
    simp only [hp, hm, Bool.and_eq_true, decide_eq_true_eq, increasesTwist_iff, true_and]
    exact ⟨fun ⟨⟨hk, hi⟩, hl⟩ => ⟨hk, hl, m, rfl, hi⟩, fun ⟨hk, hl, m', hm', hi⟩ => by cases hm'; exact ⟨⟨hk, hi⟩, hl⟩⟩
  · rename_i hn
    constructor
    · intro h
      cases h
    · rintro ⟨hp, _, _, m, hm, _⟩
      exact absurd hm (hn m hp)

/-- Settles O34: a step that meets no stop condition. -/
theorem toothSteps : Obligations.ToothSteps := by
  intro channel s h v hr ho ht
  rw [exec_toothStep channel s h]
  unfold State.motionTests
  rw [if_neg (by rw [State.reached_iff]; exact hr), if_neg (by rw [State.overrun_iff]; exact ho),
    if_neg (by rw [State.overtwisted_iff]; exact ht)]

/-- Settles O35: the first stop condition that holds, and the halt that it brings. -/
theorem moveEnds : Obligations.MoveEnds := by
  intro channel s ref e h hq hi v hcond
  have hrefs : v.ywc.moveRef = some ref ∨ v.ywc.proposalRef = some ref := by
    rcases hcond with ⟨_, hr, _⟩ | ⟨_, _, hr, _⟩ | ⟨_, _, _, hr, _⟩
    · exact .inr hr
    · exact .inl hr
    · exact .inl hr
  have htests : v.motionTests = v.ownHalt ref e := by
    unfold State.motionTests
    rcases hcond with ⟨hr, hp, rfl⟩ | ⟨hr, ho, hm, rfl⟩ | ⟨hr, ho, ht, hm, rfl⟩
    · rw [if_pos ((State.reached_iff v).mpr hr), v.haltProposal_ref _ hp]
    · rw [if_neg (by rw [State.reached_iff]; exact hr), if_pos ((State.overrun_iff v).mpr ho), v.haltMove_ref _ hm]
    · rw [if_neg (by rw [State.reached_iff]; exact hr), if_neg (by rw [State.overrun_iff]; exact ho),
        if_pos ((State.overtwisted_iff v).mpr ht), v.haltMove_ref _ hm]
  rw [exec_toothStep channel s h, htests, v.ownHalt_busy ref e hq hi]
  have hy := haltedYwc_taken v.ywc v.icu.straps.drives v.prm.holdoff ref hrefs
  have still (hp : s.ywc.participant ≠ .driving) : v.ywc.move = s.ywc.move := if_neg fun k => hp k.1
  refine ⟨_, rfl, rfl, fun hp => ?_, fun hp => ?_, fun hp => haltedYwc_record _ _ _ hp, fun hp => ?_, ?_, ?_, rfl⟩
  · rw [haltedPart_moving v.ywc _ hp] at hy
    dsimp only
    rw [hy]
    exact ⟨rfl, rfl, rfl, rfl, rfl, rfl⟩
  · rw [haltedPart_still v.ywc _ hp] at hy
    dsimp only
    rw [hy]
    exact ⟨rfl, still (by rintro k; rw [k] at hp; simp at hp), rfl, rfl⟩
  · obtain ⟨h1, _, _, h4⟩ := haltedYwc_other v.ywc v.icu.straps.drives v.prm.holdoff ref hp
    exact ⟨h1, h4⟩
  · exact (congrArg Ywc.position hy :).trans (haltedPart_position _ _).1
  · exact (congrArg Ywc.twist hy :).trans (haltedPart_position _ _).2.1

/-! ### A halt received -/

theorem exec_yawHalt_heard (source : Station) (ref : Ref) (e : HaltReason) (s : State)
    (h : s.Hears .yawHalt source (encodeHalt ref e)) (hr : ref.InRange) :
    exec (.yawHalt source (encodeHalt ref e)) s = .next ((s.heard (some .yawHalt) source).takeHalt ref) := by
  have he : exec (.yawHalt source (encodeHalt ref e)) s = execYawHalt source (encodeHalt ref e) s := rfl
  rw [he, execYawHalt, s.receive_heard _ _ _ _ h, decodeHalt_encodeHalt ref e hr]

/-- Settles O46: every row of the halt. -/
theorem haltTaken : Obligations.HaltTaken := by
  intro source ref e s payload h hr u
  have he := exec_yawHalt_heard source ref e s h hr
  rw [State.takeHalt_eq] at he
  have hu : haltedYwc u.ywc u.icu.straps.drives u.prm.holdoff ref =
      haltedYwc s.ywc s.icu.straps.drives s.prm.holdoff ref := rfl
  rw [hu] at he
  refine ⟨fun hm hp => ?_, fun hrefs => ⟨_, he, ?_⟩⟩
  · have hy : haltedYwc s.ywc s.icu.straps.drives s.prm.holdoff ref = s.ywc := if_neg fun k => k.elim hm hp
    exact he.trans (by rw [hy]; rfl)
  · have hy := haltedYwc_taken s.ywc s.icu.straps.drives s.prm.holdoff ref hrefs
    refine ⟨fun hp => ?_, fun hp => ?_, fun hp => ?_, fun hp => haltedYwc_record _ _ _ hp,
      fun hp => haltedYwc_other _ _ _ _ hp, ?_, ?_, ?_, rfl⟩
    · rw [haltedPart_answered s.ywc _ hp] at hy
      dsimp only
      rw [hy]
      exact ⟨rfl, rfl, rfl, rfl, rfl⟩
    · rw [haltedPart_moving s.ywc _ hp] at hy
      dsimp only
      rw [hy]
      exact ⟨rfl, rfl, rfl, rfl, rfl, rfl, rfl, rfl⟩
    · rw [haltedPart_still s.ywc _ hp] at hy
      exact hy
    · exact (congrArg Ywc.position hy :).trans (haltedPart_position _ _).1
    · exact (congrArg Ywc.twist hy :).trans (haltedPart_position _ _).2.1
    · exact (congrArg Ywc.window hy :).trans (haltedPart_position _ _).2.2

end Sys2Proof.Machine
end

section
/-! PROOFS. The agreement on a move: proposals, answers, the decision, the commit, the drive and the brakes (07 R114 to
R127). -/

namespace Sys2Proof.Machine

/-! ### Answers to a proposal -/

theorem State.requestAnswer_busy (s : State) (r : Ref) (a : Answer) (e : Refusing) (hq : s.lif.queue.length < 8)
    (hi : s.lif.lineIdle = false) : s.requestAnswer r a e =
      { s with lif := { s.lif with
        queue := insertFrame (s.newFrame .yawAnswer (encodeAnswer r a s.icu.straps.drives e)) s.lif.queue } } :=
  s.requestYaw_busy _ _ _ hq hi

/-- The direction that a path names, and the free value that a path of 0 draws (log entry 8). -/
theorem State.pathClockwise_spec (s : State) (path : Int) : ∃ (cw : Bool) (d : Nat),
    s.pathClockwise path = (cw, { s with draws := d }) ∧ (0 < path → cw = true) ∧ (path < 0 → cw = false) := by
  unfold State.pathClockwise
  split
  · exact ⟨true, s.draws, rfl, fun _ => rfl, fun h => by omega⟩
  · split
    · exact ⟨false, s.draws, rfl, fun h => by omega, fun _ => rfl⟩
    · exact ⟨_, _, rfl, fun h => by omega, fun h => by omega⟩

/-- The conditions under which an IDLE station answers READY (07 R114). -/
def State.Ready (s : State) (path : Int) : Prop :=
  0 < s.icu.straps.drives ∧ s.configured = true ∧ s.ywc.lock = false ∧ s.levels.brakeApplied = true ∧
    (s.ywc.known = true → (s.ywc.twist + path).natAbs ≤ s.prm.twistLimit)

/-- The first row of the refusal table that applies (07 R114). -/
def State.refuses (s : State) : Refusing :=
  if s.icu.straps.drives = 0 then .noDrives
  else if s.configured = false ∨ s.ywc.lock = true then .lockedOut
  else if s.levels.brakeApplied = false then .brake
  else .twist

theorem State.refusal_ready (s : State) (path : Int) (h : s.Ready path) : s.refusal path = none := by
  obtain ⟨hd, hc, hl, hb, ht⟩ := h
  unfold State.refusal
  rw [if_neg (by omega), hc, hl, hb, if_neg (by decide), if_neg (by decide), if_neg]
  rintro ⟨hk, hw⟩
  have := ht hk
  omega

theorem State.refusal_refuses (s : State) (path : Int) (h : ¬ s.Ready path) : s.refusal path = some s.refuses := by
  unfold State.refusal State.refuses
  simp only [Bool.or_eq_true, Bool.not_eq_true']
  by_cases h1 : s.icu.straps.drives = 0
  · rw [if_pos h1, if_pos h1]
  by_cases h2 : s.configured = false ∨ s.ywc.lock = true
  · rw [if_neg h1, if_neg h1, if_pos h2, if_pos h2]
  by_cases h3 : s.levels.brakeApplied = false
  · rw [if_neg h1, if_neg h1, if_neg h2, if_neg h2, if_pos h3, if_pos h3]
  rw [if_neg h1, if_neg h1, if_neg h2, if_neg h2, if_neg h3, if_neg h3]
  split
  · rfl
  · rename_i h4
    rw [not_or, Bool.not_eq_false, Bool.not_eq_true] at h2
    refine absurd ⟨by omega, h2.1, h2.2, by simpa using h3, fun hk => ?_⟩ h
    refine Decidable.byContradiction fun hw => ?_
    exact h4 ⟨hk, by omega⟩

theorem exec_yawPropose_heard (source : Station) (number : Nat) (path : Int) (target : Nat) (purpose : Purpose) (s : State)
    (h : s.Hears .yawPropose source (encodePropose number path target purpose)) (hn : number < 256)
    (hl : -8388608 ≤ path) (hu : path < 8388608) (ht : target < 65536) :
    exec (.yawPropose source (encodePropose number path target purpose)) s = .next
      ((s.heard (some .yawPropose) source).answerProposal { proposer := source.val, number := number } path) := by
  have he : exec (.yawPropose source (encodePropose number path target purpose)) s =
    execYawPropose source (encodePropose number path target purpose) s := rfl
  rw [he, execYawPropose, s.receive_heard _ _ _ _ h, decodePropose_encodePropose _ _ _ _ hn hl hu ht]

/-- A proposal at an IDLE station without a record, on a busy line with a place. -/
theorem State.answerIdle_ready (s : State) (ref : Ref) (path : Int) (h : s.Ready path) (hq : s.lif.queue.length < 8)
    (hi : s.lif.lineIdle = false) : ∃ (cw : Bool) (d : Nat), (0 < path → cw = true) ∧ (path < 0 → cw = false) ∧
      s.answerIdle ref path =
        { s with
          lif := { s.lif with
            queue := insertFrame (s.newFrame .yawAnswer (encodeAnswer ref .ready s.icu.straps.drives .noReason)) s.lif.queue }
          ywc := Ywc.enter { s.ywc with move := some { ref := ref, path := path, clockwise := cw, count := 0 } } .answered
            s.icu.straps.drives
          draws := d } := by
  obtain ⟨cw, d, hp, h1, h2⟩ := s.pathClockwise_spec path
  refine ⟨cw, d, h1, h2, ?_⟩
  unfold State.answerIdle
  rw [s.refusal_ready path h]
  dsimp only
  rw [hp, State.requestAnswer_busy _ _ _ _ (by exact hq) (by exact hi)]
  rfl

theorem State.answerProposal_idle (s : State) (ref : Ref) (path : Int) (hp : s.ywc.participant = .idle)
    (hr : s.ywc.proposal = none) : s.answerProposal ref path = s.answerIdle ref path := by
  unfold State.answerProposal
  rw [hr]
  dsimp only
  unfold State.answerWithout
  rw [hp]

/-- Settles O39: READY, or the refusal of the first row that applies. -/
theorem proposalAnswered : Obligations.ProposalAnswered := by
  intro source number path target purpose s payload h hn hl hu ht hp hr hq ref u ready
  have he := exec_yawPropose_heard source number path target purpose s h hn hl hu ht
  rw [State.answerProposal_idle _ _ _ (by exact hp) (by exact hr)] at he
  refine ⟨fun hready => ?_, fun hnot => ?_⟩
  · obtain ⟨cw, d, h1, h2, ha⟩ := u.answerIdle_ready ref path hready hq rfl
    rw [ha] at he
    exact ⟨_, _, he, rfl, rfl, rfl, rfl, h1, h2, rfl, rfl, rfl, rfl, rfl⟩
  · have ha : u.answerIdle ref path = u.requestAnswer ref .refuse u.refuses := by
      unfold State.answerIdle
      rw [u.refusal_refuses path hnot]
    rw [ha, u.requestAnswer_busy _ _ _ hq rfl] at he
    exact he

/-! ### Proposals that compete -/

/-- A frame heard while the YWC stood otherwise is heard in the same way. -/
theorem State.hears_ywc {s : State} {kind : Kind} {source : Station} {payload : List Byte} (y : Ywc)
    (h : s.Hears kind source payload) : State.Hears { s with ywc := y } kind source payload := h

theorem State.busy_eq (s : State) (ref : Ref) (hq : s.lif.queue.length < 8) (hi : s.lif.lineIdle = false) :
    s.requestAnswer ref .refuse .busy =
      { s with lif := { s.lif with
        queue := insertFrame (s.newFrame .yawAnswer (encodeAnswer ref .refuse s.icu.straps.drives .busy)) s.lif.queue } } :=
  s.requestAnswer_busy _ _ _ hq hi

theorem State.enterBraking_eq (s : State) : s.enterBraking =
    s.participate (if s.levels.brakeApplied then .idle else .braking) := by
  unfold State.enterBraking
  dsimp only
  cases hb : s.levels.brakeApplied with
  | false => exact if_neg (by show ¬ s.levels.brakeApplied = true; rw [hb]; decide)
  | true =>
    refine (if_pos (by show s.levels.brakeApplied = true; rw [hb])).trans ?_
    simp [State.participate, Ywc.enter]

section
variable (s : State) (ref : Ref) (path : Int)

theorem State.answerProposal_turns (r : Ref) (hn : s.ywc.proposal = none) (hp : s.ywc.participant = .answered)
    (hm : s.ywc.moveRef = some r) (h : ref.proposer ≤ r.proposer) :
    s.answerProposal ref path = s.enterIdle.answerIdle ref path := by
  unfold State.answerProposal
  rw [hn]
  dsimp only
  unfold State.answerWithout
  rw [hp]
  dsimp only
  rw [hm]
  exact if_pos h

theorem State.answerProposal_stays (r : Ref) (hn : s.ywc.proposal = none) (hp : s.ywc.participant = .answered)
    (hm : s.ywc.moveRef = some r) (h : r.proposer < ref.proposer) :
    s.answerProposal ref path = s.requestAnswer ref .refuse .busy := by
  unfold State.answerProposal
  rw [hn]
  dsimp only
  unfold State.answerWithout
  rw [hp]
  dsimp only
  rw [hm]
  exact if_neg (by omega)

theorem State.answerProposal_moving (hn : s.ywc.proposal = none)
    (hp : s.ywc.participant ∈ [Participant.releasing, .released, .driving, .stopping, .braking]) :
    s.answerProposal ref path = s.requestAnswer ref .refuse .busy := by
  unfold State.answerProposal
  rw [hn]
  dsimp only
  unfold State.answerWithout
  cases h : s.ywc.participant <;> rw [h] at hp
  case idle | answered => simp at hp

theorem State.answerProposal_holds (r : Proposal) (hr : s.ywc.proposal = some r)
    (h : ¬ (r.phase ≠ .moving ∧ ref.proposer < s.own.val)) :
    s.answerProposal ref path = s.requestAnswer ref .refuse .busy := by
  unfold State.answerProposal
  rw [hr]
  exact if_neg h

theorem State.answerProposal_withdraws (r : Proposal) (hr : s.ywc.proposal = some r)
    (h : r.phase ≠ .moving ∧ ref.proposer < s.own.val) : s.answerProposal ref path = s.withdrawAndAnswer ref path := by
  unfold State.answerProposal
  rw [hr]
  exact if_pos h

theorem State.withdrawAndAnswer_idle (hp : s.ywc.participant ∈ [Participant.answered, .idle]) :
    s.withdrawAndAnswer ref path = s.clearProposal.enterIdle.answerIdle ref path := by
  unfold State.withdrawAndAnswer
  have hp' : s.clearProposal.ywc.participant ∈ [Participant.answered, .idle] := hp
  dsimp only
  cases h : s.clearProposal.ywc.participant <;> rw [h] at hp'
  all_goals simp at hp'

theorem State.withdrawAndAnswer_released (hp : s.ywc.participant ∈ [Participant.releasing, .released]) :
    s.withdrawAndAnswer ref path = s.clearProposal.enterBraking.requestAnswer ref .refuse .busy := by
  unfold State.withdrawAndAnswer
  have hp' : s.clearProposal.ywc.participant ∈ [Participant.releasing, .released] := hp
  dsimp only
  cases h : s.clearProposal.ywc.participant <;> rw [h] at hp'
  all_goals simp at hp'

theorem State.withdrawAndAnswer_moving (hp : s.ywc.participant ∈ [Participant.driving, .stopping, .braking]) :
    s.withdrawAndAnswer ref path = s.clearProposal.requestAnswer ref .refuse .busy := by
  unfold State.withdrawAndAnswer
  have hp' : s.clearProposal.ywc.participant ∈ [Participant.driving, .stopping, .braking] := hp
  dsimp only
  cases h : s.clearProposal.ywc.participant <;> rw [h] at hp'
  all_goals simp at hp'

end

/-- Settles O40: the station that turns to another proposer, the one that withdraws, and BUSY. -/
theorem proposalsCompete : Obligations.ProposalsCompete := by
  intro source number path target purpose s payload h hn hl hu ht hq ref u answer busy dropped asIdle
  have heard (y : Ywc) := exec_yawPropose_heard source number path target purpose { s with ywc := y }
    (State.hears_ywc y h) hn hl hu ht
  have he : exec (.yawPropose source payload) s = .next (u.answerProposal ref path) := heard s.ywc
  have idle (y : Ywc) (hp : y.participant = .idle) (hr : y.proposal = none) : exec (.yawPropose source payload)
      { s with ywc := y } = .next (State.answerIdle { u with ywc := y } ref path) :=
    (heard y).trans (congrArg Host.Outcome.next (State.answerProposal_idle _ _ _ hp hr))
  have isBusy (y : Ywc) : State.requestAnswer { u with ywc := y } ref .refuse .busy = busy y :=
    State.busy_eq { u with ywc := y } ref hq rfl
  refine ⟨fun hnone => ⟨fun r hp hm => ⟨fun hle => ?_, fun hlt => ?_⟩, fun hp => ?_⟩, fun r hr => ⟨fun hor => ?_, fun hph hlt =>
    ⟨fun hp => ?_, fun hp => ?_, fun hp => ?_⟩⟩⟩
  · refine ⟨{ s with ywc := s.ywc.enter .idle s.icu.straps.drives }, _, idle _ rfl hnone, ?_, rfl, hnone, rfl, rfl,
      fun k => absurd hnone (Option.ne_none_iff_isSome.mpr k), rfl, rfl, rfl, rfl, rfl, rfl⟩
    rw [he, u.answerProposal_turns ref path r hnone hp hm hle]
    rfl
  · rw [he, u.answerProposal_stays ref path r hnone hp hm hlt]
    exact congrArg _ (isBusy s.ywc)
  · rw [he, u.answerProposal_moving ref path hnone hp]
    exact congrArg _ (isBusy s.ywc)
  · rw [he, u.answerProposal_holds ref path r hr (fun k => hor.elim k.1 (fun o => absurd k.2 (by
      have := (show s.own.val < source.val from o)
      show ¬ source.val < s.own.val
      omega)))]
    exact congrArg _ (isBusy s.ywc)
  · refine ⟨{ s with ywc := Ywc.enter dropped .idle s.icu.straps.drives }, _, idle _ rfl rfl, ?_, rfl, rfl, rfl, rfl,
      fun _ => ⟨rfl, rfl⟩, rfl, rfl, rfl, rfl, rfl, rfl⟩
    rw [he, u.answerProposal_withdraws ref path r hr ⟨hph, hlt⟩, u.withdrawAndAnswer_idle ref path hp]
    rfl
  · have hw : exec (.yawPropose source payload) s = .next (busy (dropped.enter
        (if s.levels.brakeApplied then .idle else .braking) s.icu.straps.drives)) := by
      rw [he, u.answerProposal_withdraws ref path r hr ⟨hph, hlt⟩, u.withdrawAndAnswer_released ref path hp,
        State.enterBraking_eq]
      exact congrArg _ (isBusy _)
    refine ⟨_, hw, rfl, ?_⟩
    cases hb : s.levels.brakeApplied <;> exact ⟨rfl, rfl, rfl, rfl, rfl, rfl, rfl, rfl⟩
  · rw [he, u.answerProposal_withdraws ref path r hr ⟨hph, hlt⟩, u.withdrawAndAnswer_moving ref path hp]
    exact congrArg _ (isBusy dropped)

end Sys2Proof.Machine
end

section
/-! PROOFS. Answers entered, the decision, the commit, the drive and the brakes (07 R117 to R127). -/

namespace Sys2Proof.Machine

/-! ### The shared steps on a busy line with a place -/

theorem exec_answerTimerExpiry (s : State) (r : Proposal) (h : s.ywc.answerTimer.isSome = true) (hr : s.ywc.proposal = some r)
    (hp : r.phase = .collecting) : exec .answerTimerExpiry s = .next (s.takeDecision r) := by
  refine congrArg Host.Outcome.next ((if_pos h).trans ?_)
  rw [hr]
  exact if_pos hp

/-- Whether a drive would wind a KNOWN twist at or past its limit (07 R122). -/
def State.Winds (s : State) (m : Move) : Prop :=
  s.ywc.known = true ∧ s.prm.twistLimit ≤ s.ywc.twist.natAbs ∧ (if m.clockwise then 0 ≤ s.ywc.twist else s.ywc.twist ≤ 0)

theorem State.takeDrive_drives (s : State) (m : Move) (h : s.ywc.move = some m) (hw : ¬ s.Winds m) :
    s.takeDrive = (s.driveTaken m).participate .driving := by
  rw [s.takeDrive_eq m h, if_neg]
  rintro ⟨hk, hl, hi⟩
  exact hw ⟨hk, hl, (increasesTwist_iff _ _).mp hi⟩

/-- A drive that the twist forbids halts the move (07 R122, R125). -/
theorem State.takeDrive_halts (s : State) (m : Move) (h : s.ywc.move = some m) (hw : s.Winds m)
    (hq : s.lif.queue.length < 8) (hi : s.lif.lineIdle = false) : s.takeDrive =
      { s with
        lif := { s.lif with queue := insertFrame (s.newFrame .yawHalt (encodeHalt m.ref .twist)) s.lif.queue }
        ywc := haltedYwc (s.driveTaken m).ywc s.icu.straps.drives s.prm.holdoff m.ref } := by
  obtain ⟨hk, hl, hi'⟩ := hw
  have href : (s.driveTaken m).ywc.moveRef = some m.ref := rfl
  rw [s.takeDrive_eq m h, if_pos ⟨hk, hl, (increasesTwist_iff _ _).mpr hi'⟩, State.haltMove_ref _ _ href,
    State.ownHalt_busy _ _ _ (by exact hq) (by exact hi)]
  rfl

/-- The record goes to MOVING and the own participant takes the drive where it is RELEASED (07 R121). -/
theorem State.startMotion_busy (s : State) (r : Proposal) (hq : s.lif.queue.length < 8) (hi : s.lif.lineIdle = false) :
    s.startMotion r =
      let t : State := { s with
        lif := { s.lif with queue := insertFrame (s.newFrame .yawDrive (encodeDrive r.ref)) s.lif.queue }
        ywc := { s.ywc with releaseTimer := none, proposal := some { r with phase := .moving, count := 0 } } }
      if s.ywc.participant = .released then t.takeDrive else t := by
  unfold State.startMotion
  rw [State.requestYaw_busy _ _ _ _ (by exact hq) (by exact hi)]
  rfl

section
variable (s : State) (n : Station) (r : Proposal)

theorem State.joinReleased_joins (hr : s.ywc.proposal = some r) (h : r.phase = .committed ∧ inSet r.committed n = true) :
    s.joinReleased n =
      if r.released ||| stationBit n = r.committed then
        (s.setProposal (some { r with released := r.released ||| stationBit n })).startMotion
          { r with released := r.released ||| stationBit n }
      else s.setProposal (some { r with released := r.released ||| stationBit n }) := by
  unfold State.joinReleased
  rw [hr]
  exact if_pos h

theorem State.joinReleased_stays (hr : s.ywc.proposal = some r)
    (h : ¬ (r.phase = .committed ∧ inSet r.committed n = true)) : s.joinReleased n = s := by
  unfold State.joinReleased
  rw [hr]
  exact if_neg h

end

/-! ### Answers -/

/-- What an answer to the own proposal does, by the phase of the record (07 R117, R121). -/
def State.answered (s : State) (source : Station) (r : Proposal) (drives : Nat) (e : Refusing) (answer : Answer) : State :=
  match r.phase, answer with
  | .collecting, .ready => s.enterAnswer r source (.ready drives)
  | .collecting, .refuse => s.enterAnswer r source (.refuse e)
  | .committed, .released => s.joinReleased source
  | _, _ => s

theorem exec_yawAnswer_heard (source : Station) (ref : Ref) (answer : Answer) (drives : Nat) (e : Refusing) (r : Proposal)
    (s : State) (h : s.Hears .yawAnswer source (encodeAnswer ref answer drives e)) (hr : ref.InRange) (hd : drives < 256)
    (hp : s.ywc.proposal = some r) (href : r.ref = ref) :
    exec (.yawAnswer source (encodeAnswer ref answer drives e)) s =
      .next ((s.heard (some .yawAnswer) source).answered source r drives e answer) := by
  have he : exec (.yawAnswer source (encodeAnswer ref answer drives e)) s =
    execYawAnswer source (encodeAnswer ref answer drives e) s := rfl
  rw [he, execYawAnswer, s.receive_heard _ _ _ _ h, decodeAnswer_encodeAnswer _ _ _ _ hr hd]
  dsimp only
  unfold State.takeAnswer
  rw [show (s.heard (some .yawAnswer) source).ywc.proposal = some r from hp]
  dsimp only
  rw [if_pos href]
  unfold State.answered
  cases r.phase <;> cases answer <;> rfl

/-- Settles O41: answers and RELEASED as they are entered, and what the last of each brings. -/
theorem answersEntered : Obligations.AnswersEntered := by
  intro source ref answer drives e r s payload h hr hd hp href u entered joined
  have he := exec_yawAnswer_heard source ref answer drives e r s h hr hd hp href
  refine ⟨fun a hph ha => ?_, fun hph ha hin => ⟨fun hne => ?_, fun heq hq => ⟨fun hpart => ?_, fun m hpart hm hw => ?_⟩⟩,
    fun hph hor => ?_, fun hph ha => ?_, fun hph => ?_⟩
  · have hent : exec (.yawAnswer source payload) s = .next (u.enterAnswer r source a) := by
      rw [he]
      unfold State.answered
      rw [hph]
      rcases ha with ⟨rfl, rfl⟩ | ⟨rfl, rfl⟩ <;> rfl
    refine ⟨fun hf => ?_, fun hf => ⟨_, u.enterAnswer r source a, ?_, hent, rfl⟩⟩
    · rw [hent]
      unfold State.enterAnswer
      exact congrArg _ (if_neg (by rw [hf]; decide))
    · rw [exec_answerTimerExpiry _ (entered a) rfl rfl hph]
      unfold State.enterAnswer
      exact congrArg _ (if_pos hf).symm
  · rw [he]
    unfold State.answered
    rw [hph, ha]
    dsimp only
    rw [State.joinReleased_joins _ _ r (by exact hp) ⟨hph, hin⟩, if_neg hne]
  · rw [he]
    unfold State.answered
    rw [hph, ha]
    dsimp only
    rw [State.joinReleased_joins _ _ r (by exact hp) ⟨hph, hin⟩, if_pos heq, State.startMotion_busy _ _ (by exact hq) rfl]
    dsimp only
    rw [if_neg (by exact hpart), ← href]
    rfl
  · rw [he]
    unfold State.answered
    rw [hph, ha]
    dsimp only
    rw [State.joinReleased_joins _ _ r (by exact hp) ⟨hph, hin⟩, if_pos heq, State.startMotion_busy _ _ (by exact hq) rfl]
    dsimp only
    rw [if_pos (by exact hpart), State.takeDrive_drives _ m (by exact hm), ← href]
    · exact ⟨_, rfl, rfl, rfl, rfl, rfl, rfl, rfl, rfl⟩
    · rintro ⟨hk, hl, hc⟩
      exact absurd (hw hk hc) (Nat.not_lt.mpr hl)
  · rw [he]
    unfold State.answered
    rw [hph]
    rcases hor with hor | hor
    · cases answer with
      | ready | refuse => rfl
      | released => exact absurd rfl hor
    · cases answer with
      | ready | refuse => rfl
      | released => exact congrArg _ (State.joinReleased_stays _ _ r (by exact hp) (by simp [hor]))
  · rw [he]
    unfold State.answered
    rw [hph, ha]
  · rw [he]
    unfold State.answered
    rw [hph]

/-! ### The decision -/

/-- A listed participant whose brakes show applied is RELEASING (07 R119). -/
theorem State.enterReleasing_applied (s : State) (h : s.levels.brakeApplied = true) :
    s.enterReleasing = s.participate .releasing := if_pos h

/-- Settles O42: the decision that the answer timer takes. -/
theorem decisionTaken : Obligations.DecisionTaken := by
  intro r s ht hr hp hb hq hi
  have he := exec_answerTimerExpiry s r ht hr hp
  refine ⟨fun hle => ?_, fun hlt => ?_⟩
  · have hdec : s.takeDecision r = (fun u : State => if inSet (readySet r.answers) s.own then u.enterReleasing else u.enterIdle)
        { s with
          lif := { s.lif with
            queue := insertFrame (s.newFrame .yawCommit (encodeCommit r.ref (readySet r.answers))) s.lif.queue }
          ywc := { s.ywc with
            answerTimer := none, releaseTimer := some 4000, window := []
            proposal := some { r with phase := .committed, committed := readySet r.answers } } } := by
      unfold State.takeDecision
      dsimp only
      rw [if_pos (by exact hle), State.requestYaw_busy _ _ _ _ (by exact hq) (by exact hi)]
      rfl
    rw [he, hdec]
    have hmem (f : QueuedFrame) : f ∈ insertFrame f s.lif.queue := (mem_insertFrame f f _).mpr (.inl rfl)
    dsimp only
    cases hin : inSet (readySet r.answers) s.own with
    | true =>
      rw [if_pos rfl, State.enterReleasing_applied _ (by exact hb)]
      exact ⟨_, rfl, rfl, rfl, rfl, rfl, hmem _, fun _ => ⟨rfl, rfl, rfl, rfl⟩, fun k => (by cases k), rfl, rfl⟩
    | false =>
      rw [if_neg (by decide)]
      exact ⟨_, rfl, rfl, rfl, rfl, rfl, hmem _, fun k => (by cases k), fun _ => ⟨rfl, rfl⟩, rfl, rfl⟩
  · have hdec : s.takeDecision r = State.ownHalt { s with ywc := { s.ywc with answerTimer := none } } r.ref .abandoned := by
      unfold State.takeDecision
      dsimp only
      rw [if_neg (by show ¬ s.prm.minDrives ≤ _; omega)]
      exact State.haltProposal_ref _ _ (by show (match s.ywc.proposal with | some r => some r.ref | none => none) = _; rw [hr])
    rw [he, hdec, State.ownHalt_busy _ _ _ (by exact hq) (by exact hi)]
    have href : Ywc.proposalRef { s.ywc with answerTimer := none } = some r.ref := by
      show (match s.ywc.proposal with | some r => some r.ref | none => none) = _
      rw [hr]
    obtain ⟨h1, h2, _, h4⟩ := haltedYwc_record { s.ywc with answerTimer := none } s.icu.straps.drives s.prm.holdoff href
    exact ⟨_, rfl, h1, h2, h4, (mem_insertFrame _ _ _).mpr (.inl rfl), rfl⟩

/-! ### The commit and the drive -/

theorem exec_yawCommit_heard (source : Station) (ref : Ref) (set : StationSet) (s : State)
    (h : s.Hears .yawCommit source (encodeCommit ref set)) (hr : ref.InRange) :
    exec (.yawCommit source (encodeCommit ref set)) s = .next ((s.heard (some .yawCommit) source).takeCommit ref set) := by
  have he : exec (.yawCommit source (encodeCommit ref set)) s = execYawCommit source (encodeCommit ref set) s := rfl
  rw [he, execYawCommit, s.receive_heard _ _ _ _ h, decodeCommit_encodeCommit _ _ hr]

theorem exec_yawDrive_heard (source : Station) (ref : Ref) (s : State)
    (h : s.Hears .yawDrive source (encodeDrive ref)) (hr : ref.InRange) :
    exec (.yawDrive source (encodeDrive ref)) s = .next (
      if s.ywc.participant = .released ∧ s.ywc.moveRef = some ref then (s.heard (some .yawDrive) source).takeDrive
      else s.heard (some .yawDrive) source) := by
  have he : exec (.yawDrive source (encodeDrive ref)) s = execYawDrive source (encodeDrive ref) s := rfl
  rw [he, execYawDrive, s.receive_heard _ _ _ _ h, decodeDrive_encodeDrive _ hr]
  rfl

/-- A halt for the own move in RELEASED (07 R125). -/
theorem haltedYwc_released (y : Ywc) (drives holdoff : Nat) (r : Ref) (hp : y.participant = .released)
    (hm : y.moveRef = some r) : haltedYwc y drives holdoff r =
    { y.enter .stopping drives with
      proposal := (haltedYwc y drives holdoff r).proposal
      answerTimer := (haltedYwc y drives holdoff r).answerTimer
      releaseTimer := (haltedYwc y drives holdoff r).releaseTimer
      holdoffTimer := (haltedYwc y drives holdoff r).holdoffTimer } := by
  have h := haltedYwc_taken y drives holdoff r (.inl hm)
  rw [haltedPart_moving y drives (by simp [hp])] at h
  exact h

/-- Settles O43: the commit and the drive. -/
theorem commitAndDrive : Obligations.CommitAndDrive := by
  refine ⟨?_, ?_⟩
  · intro source ref set s payload h hr u
    have he := exec_yawCommit_heard source ref set s h hr
    have hcommit : State.takeCommit (s.heard (some .yawCommit) source) ref set =
        if s.ywc.participant = .answered ∧ s.ywc.moveRef = some ref then
          if inSet set s.own then u.enterReleasing else u.enterIdle
        else u := rfl
    rw [hcommit] at he
    refine ⟨fun hor => ?_, fun hp hm hin => ?_, fun hp hm hin hb => ?_⟩
    · rw [he, if_neg (fun k => hor.elim (fun o => o k.1) (fun o => o k.2))]
    · rw [he, if_pos ⟨hp, hm⟩, hin]
      rfl
    · rw [he, if_pos ⟨hp, hm⟩, if_pos hin, State.enterReleasing_applied _ (by exact hb)]
      exact ⟨_, rfl, rfl, rfl, rfl, rfl, rfl, rfl, rfl, rfl⟩
  · intro source ref s payload h hr u
    have he := exec_yawDrive_heard source ref s h hr
    refine ⟨fun hor => ?_, ?_⟩
    · rw [he, if_neg (fun k => hor.elim (fun o => o k.1) (fun o => o k.2))]
    · intro m hp hm hmr winds
      have href : s.ywc.moveRef = some ref := by
        unfold Ywc.moveRef
        rw [hm, ← hmr]
      rw [if_pos ⟨hp, href⟩] at he
      refine ⟨fun hw => ?_, fun hw hq => ?_⟩
      · rw [State.takeDrive_drives _ m (by exact hm) (by exact hw)] at he
        exact ⟨_, he, rfl, rfl, rfl, rfl, rfl, rfl, rfl, rfl⟩
      · rw [State.takeDrive_halts _ m (by exact hm) (by exact hw) (by exact hq) rfl] at he
        have hy := haltedYwc_released (State.driveTaken (s.heard (some .yawDrive) source) m).ywc
          (s.heard (some .yawDrive) source).icu.straps.drives (s.heard (some .yawDrive) source).prm.holdoff m.ref hp rfl
        refine ⟨_, he, ?_⟩
        dsimp only
        rw [hy, hmr]
        exact ⟨rfl, rfl, rfl, rfl, rfl, rfl, rfl⟩

/-! ### The brakes and the waits -/

/-- The brake feedback falling in RELEASING, at a participant and at the proposer (07 R120). -/
theorem exec_brakeFeedbackReleased (s : State) (m : Move) (hb : s.levels.brakeApplied = true)
    (hp : s.ywc.participant = .releasing) (hm : s.ywc.move = some m) : exec .brakeFeedbackReleased s = .next (
      (fun t : State => if m.ref.proposer = s.own.val then t.joinReleased s.own else t.requestAnswer m.ref .released .noReason)
        { s with
          levels := { s.levels with brakeApplied := false }
          ywc := s.ywc.enter .released s.icu.straps.drives }) := by
  refine congrArg Host.Outcome.next ((if_pos hb).trans ((if_pos hp).trans ?_))
  unfold State.brakesReleased
  rw [show State.ywc { s with levels := { s.levels with brakeApplied := false } } = s.ywc from rfl, hm]
  rfl

theorem brakeFeedback_participant (m : Move) (s : State) (hb : s.levels.brakeApplied = true)
    (hp : s.ywc.participant = .releasing) (hm : s.ywc.move = some m) (ho : m.ref.proposer ≠ s.own.val)
    (hq : s.lif.queue.length < 8) (hi : s.lif.lineIdle = false) :
    ∃ t, exec .brakeFeedbackReleased s = .next t ∧ t.ywc.participant = .released ∧ t.ywc.brakeTimer = none ∧
      t.ywc.driveWait = some 4000 ∧ t.ywc.brakeRelease = true ∧ t.ywc.motors = motorsOff ∧ t.ywc.move = s.ywc.move ∧
      s.newFrame .yawAnswer (encodeAnswer m.ref .released s.icu.straps.drives .noReason) ∈ t.lif.queue ∧
      t = { s with levels := { s.levels with brakeApplied := false }, ywc := t.ywc, lif := t.lif } := by
  have he := exec_brakeFeedbackReleased s m hb hp hm
  dsimp only at he
  rw [if_neg ho, State.requestAnswer_busy _ _ _ _ (by exact hq) (by exact hi)] at he
  exact ⟨_, he, rfl, rfl, rfl, rfl, rfl, rfl, (mem_insertFrame _ _ _).mpr (.inl rfl), rfl⟩

section
variable (m : Move) (r : Proposal) (s : State) (hb : s.levels.brakeApplied = true)
  (hp : s.ywc.participant = .releasing) (hm : s.ywc.move = some m) (ho : m.ref.proposer = s.own.val)
  (hr : s.ywc.proposal = some r)
include hb hp hm ho hr

theorem brakeFeedback_waits (h : ¬ (r.phase = .committed ∧ inSet r.committed s.own = true) ∨
      r.released ||| stationBit s.own ≠ r.committed) :
    ∃ t, exec .brakeFeedbackReleased s = .next t ∧
      t.ywc.participant = .released ∧ t.ywc.brakeTimer = none ∧ t.ywc.driveWait = some 4000 ∧
      t.ywc.brakeRelease = true ∧ t.ywc.motors = motorsOff ∧ t.ywc.move = s.ywc.move ∧
      (r.phase = .committed ∧ inSet r.committed s.own = true →
        t.ywc.proposal = some { r with released := r.released ||| stationBit s.own }) ∧
      (¬ (r.phase = .committed ∧ inSet r.committed s.own = true) → t.ywc.proposal = some r) ∧
      t.ywc.releaseTimer = s.ywc.releaseTimer ∧
      t = { s with levels := { s.levels with brakeApplied := false }, ywc := t.ywc } := by
  have he := exec_brakeFeedbackReleased s m hb hp hm
  dsimp only at he
  rw [if_pos ho] at he
  by_cases hj : r.phase = .committed ∧ inSet r.committed s.own = true
  · rw [State.joinReleased_joins _ _ r (by exact hr) hj, if_neg (h.resolve_left (fun k => k hj))] at he
    exact ⟨_, he, rfl, rfl, rfl, rfl, rfl, rfl, fun _ => rfl, fun k => absurd hj k, rfl, rfl⟩
  · rw [State.joinReleased_stays _ _ r (by exact hr) hj] at he
    exact ⟨_, he, rfl, rfl, rfl, rfl, rfl, rfl, fun k => absurd k hj, fun _ => hr, rfl, rfl⟩

/-- The last release at the proposer: the record is MOVING and the own station takes the drive (07 R121, R122). -/
theorem brakeFeedback_moves (hj : r.phase = .committed ∧ inSet r.committed s.own = true)
    (heq : r.released ||| stationBit s.own = r.committed) (hq : s.lif.queue.length < 8) (hi : s.lif.lineIdle = false) :
    exec .brakeFeedbackReleased s = .next (State.takeDrive
      { s with
        levels := { s.levels with brakeApplied := false }
        lif := { s.lif with queue := insertFrame (s.newFrame .yawDrive (encodeDrive r.ref)) s.lif.queue }
        ywc := { s.ywc.enter .released s.icu.straps.drives with
          releaseTimer := none
          proposal := some { r with released := r.released ||| stationBit s.own, phase := .moving, count := 0 } } }) := by
  have he := exec_brakeFeedbackReleased s m hb hp hm
  dsimp only at he
  rw [if_pos ho, State.joinReleased_joins _ _ r (by exact hr) hj, if_pos heq,
    State.startMotion_busy _ _ (by exact hq) (by exact hi)] at he
  exact he

end

theorem enter_still (y : Ywc) (p : Participant) (drives : Nat) (h : p ∈ [Participant.idle, .braking]) :
    (y.enter p drives).motors = motorsOff ∧ (y.enter p drives).brakeRelease = false ∧
      (y.enter p drives).commitWait = none ∧ (y.enter p drives).driveWait = none ∧
      (y.enter p drives).settleTimer = none ∧
      (y.enter p drives).brakingTimer = (if p = .braking then some 2000 else none) := by
  cases p
  case idle | braking => exact ⟨rfl, rfl, rfl, rfl, rfl, rfl⟩
  all_goals simp at h

/-- Settles O44: the brake feedback at a participant and at the proposer, and the waits. -/
theorem brakesAndWaits : Obligations.BrakesAndWaits := by
  refine ⟨brakeFeedback_participant, ?_, fun s hb hp => ?_, fun s hb hp => ?_, fun s hb hp => ?_, fun s ht => ?_,
    fun s ht hb => ?_, fun s ht hb => ?_, fun s p hp => ?_, fun r s ht hr hq hi => ?_⟩
  · intro m r s hb hp hm ho hr href low joined joins
    refine ⟨brakeFeedback_waits m r s hb hp hm ho hr, fun hj heq hq hi => ?_⟩
    have he := brakeFeedback_moves m r s hb hp hm ho hr hj heq (by omega) hi
    intro winds queue
    obtain ⟨mref, path, clockwise, count⟩ := m
    dsimp only at href ho winds queue ⊢
    subst href
    refine ⟨fun hw => ?_, fun hw => ?_⟩
    · rw [State.takeDrive_drives _ _ (by exact hm) (by exact hw)] at he
      exact ⟨_, he, rfl, rfl, rfl, rfl, rfl, rfl, rfl, rfl, rfl, rfl, rfl⟩
    · rw [State.takeDrive_halts _ _ (by exact hm) (by exact hw) (by
        show (insertFrame _ _).length < 8
        rw [length_insertFrame]
        omega) (by exact hi)] at he
      generalize hx : (State.driveTaken _ _).ywc = x at he
      have hxp : x.participant = .released := by rw [← hx]; rfl
      have hxm : x.moveRef = some r.ref := by rw [← hx]; rfl
      have hxr : x.proposalRef = some r.ref := by rw [← hx]; rfl
      have hy := haltedYwc_released x s.icu.straps.drives s.prm.holdoff r.ref hxp hxm
      obtain ⟨h1, _, h3, h4⟩ := haltedYwc_record x s.icu.straps.drives s.prm.holdoff hxr
      refine ⟨_, he, h1, h3, h4, ?_⟩
      dsimp only
      exact ⟨(congrArg Ywc.participant hy :), (congrArg Ywc.motors hy :), (congrArg Ywc.brakeRelease hy :),
        (congrArg Ywc.settleTimer hy :), (congrArg Ywc.driveWait hy :), rfl, rfl⟩
  · exact congrArg Host.Outcome.next ((if_pos hb).trans (if_neg hp))
  · exact ⟨_, congrArg Host.Outcome.next ((if_neg (by rw [hb]; decide)).trans (if_pos hp)), rfl, rfl, rfl, rfl, rfl, rfl, rfl, rfl⟩
  · exact congrArg Host.Outcome.next ((if_neg (by rw [hb]; decide)).trans (if_neg hp))
  · exact congrArg Host.Outcome.next (if_pos ht)
  · have h : s.enterBraking = s.participate .braking := by
      rw [s.enterBraking_eq, hb]
      rfl
    exact congrArg Host.Outcome.next ((if_pos ht).trans h)
  · have h : s.enterBraking = s.participate .braking := by
      rw [s.enterBraking_eq, hb]
      rfl
    exact congrArg Host.Outcome.next ((if_pos ht).trans h)
  · obtain ⟨h1, h2, h3, h4, h5, h6⟩ := enter_still s.ywc p s.icu.straps.drives hp
    exact ⟨rfl, h1, h2, h3, h4, h5, h6, rfl, rfl, rfl⟩
  · have href : Ywc.proposalRef { s.ywc with releaseTimer := none } = some r.ref := by
      show (match s.ywc.proposal with | some r => some r.ref | none => none) = _
      rw [hr]
    have he : exec .releaseTimerExpiry s = .next (State.ownHalt { s with ywc := { s.ywc with releaseTimer := none } } r.ref
        .abandoned) := congrArg Host.Outcome.next ((if_pos ht).trans (State.haltProposal_ref _ _ href))
    rw [State.ownHalt_busy _ _ _ (by exact hq) (by exact hi)] at he
    obtain ⟨h1, _, h3, h4⟩ := haltedYwc_record { s.ywc with releaseTimer := none } s.icu.straps.drives s.prm.holdoff href
    exact ⟨_, he, h1, h3, h4, (mem_insertFrame _ _ _).mpr (.inl rfl), rfl⟩

end Sys2Proof.Machine
end

section
/-! PROOFS. What a settling leaves of the YWC, the yaw faults and the position sensors (06 R96, R98; 07 R120, R124, R127). -/

namespace Sys2Proof.Machine

/-! ### The YWC through a settling -/

/-- The YWC without its yaw-lock copy and its held requests. -/
def Ywc.parked (y : Ywc) : Ywc := { y with lock := false, held := [] }

/-- The YWC's position, twist, window, flags and check timer: what no halt reaches. -/
def Ywc.sensed (y : Ywc) : Ywc :=
  { y.parked with
    holdoffTimer := none, participant := .idle, move := none, proposal := none, answerTimer := none, releaseTimer := none
    commitWait := none, brakeTimer := none, driveWait := none, stallTimer := none, settleTimer := none, brakingTimer := none
    motors := motorsOff, brakeRelease := false }

/-- The participant states that no halt moves (07 R125). -/
def Participant.rests (p : Participant) : Prop := p ∈ [Participant.idle, .stopping, .braking]

/-- Work on the YWC that halts and locks at most: what is sensed stands, a participant at rest stays, and one at rest
without a record keeps everything but the lock and the held requests. -/
structure Ywc.Rested (y z : Ywc) : Prop where
  sensed : z.sensed = y.sensed
  rests : y.participant.rests → z.participant = y.participant
  parked : y.participant.rests → y.proposal = none → z.parked = y.parked

theorem Ywc.Rested.of_parked {y z : Ywc} (h : z.parked = y.parked) : y.Rested z where
  sensed := (congrArg (fun p : Ywc => { p with
    holdoffTimer := none, participant := .idle, move := none, proposal := none, answerTimer := none, releaseTimer := none
    commitWait := none, brakeTimer := none, driveWait := none, stallTimer := none, settleTimer := none, brakingTimer := none
    motors := motorsOff, brakeRelease := false }) h :)
  rests _ := (congrArg Ywc.participant h :)
  parked _ _ := h

theorem Ywc.Rested.refl (y : Ywc) : y.Rested y := .of_parked rfl

theorem Ywc.Rested.of_yaw {s t : State} (h : t.yaw = s.yaw) : s.ywc.Rested t.ywc :=
  .of_parked (congrArg (fun y : Ywc => { y with lock := false }) h :)

theorem Ywc.Rested.trans {x y z : Ywc} (h : x.Rested y) (k : y.Rested z) : x.Rested z where
  sensed := k.sensed.trans h.sensed
  rests r := (k.rests (by rw [h.rests r]; exact r)).trans (h.rests r)
  parked r hn := by
    have hp := h.parked r hn
    have hprop : y.proposal = none := (congrArg Ywc.proposal hp :).trans hn
    exact (k.parked (by rw [h.rests r]; exact r) hprop).trans hp

theorem haltedYwc_rested (y : Ywc) (drives holdoff : Nat) (r : Ref) : y.Rested (haltedYwc y drives holdoff r) := by
  have hsensed : (haltedYwc y drives holdoff r).sensed = y.sensed := by
    unfold haltedYwc
    dsimp only
    (repeat' split) <;> rfl
  have hpart (k : y.participant.rests) : (haltedYwc y drives holdoff r).participant = y.participant := by
    by_cases hr : y.moveRef = some r ∨ y.proposalRef = some r
    · have h := haltedYwc_taken y drives holdoff r hr
      rw [haltedPart_still y drives k] at h
      exact (congrArg Ywc.participant h :)
    · exact congrArg Ywc.participant (if_neg hr)
  refine ⟨hsensed, hpart, fun k hn => ?_⟩
  by_cases hr : y.moveRef = some r ∨ y.proposalRef = some r
  · have h := haltedYwc_taken y drives holdoff r hr
    rw [haltedPart_still y drives k] at h
    have hp : y.proposalRef ≠ some r := by
      unfold Ywc.proposalRef
      rw [hn]
      simp
    obtain ⟨h1, h2, h3, h4⟩ := haltedYwc_other y drives holdoff r hp
    rw [h, h1, h2, h3, h4]
  · exact congrArg Ywc.parked (if_neg hr)

theorem State.ownHalt_rested (s : State) (r : Ref) (e : HaltReason) : s.ywc.Rested (s.ownHalt r e).ywc := by
  rw [(s.ownHalt_halts r e).ywc]
  exact (haltedYwc_rested s.ywc _ _ r).trans (.of_parked rfl)

theorem State.haltMove_rested (s : State) (e : HaltReason) : s.ywc.Rested (s.haltMove e).ywc := by
  unfold State.haltMove
  split
  · exact s.ownHalt_rested _ _
  · exact .refl _

theorem State.haltProposal_rested (s : State) (e : HaltReason) : s.ywc.Rested (s.haltProposal e).ywc := by
  unfold State.haltProposal
  split
  · exact s.ownHalt_rested _ _
  · exact .refl _

theorem State.ywcLock_rested (s : State) (on : Bool) : s.ywc.Rested (s.ywcLock on).ywc := by
  have h0 : s.ywc.Rested { s.ywc with lock := on } := .of_parked rfl
  unfold State.ywcLock
  dsimp only
  split
  · split
    · exact h0.trans (State.haltProposal_rested { s with ywc := { s.ywc with lock := on } } _)
    · split
      case h_1 | h_2 | h_3 => exact h0.trans (State.haltMove_rested { s with ywc := { s.ywc with lock := on } } _)
      case h_4 hp =>
        have hne : ¬ s.ywc.participant.rests := by
          unfold Participant.rests
          rw [hp]
          simp
        exact ⟨rfl, fun k => absurd k hne, fun k => absurd k hne⟩
      all_goals exact h0
  · exact h0

theorem State.indicate_rested (s : State) : s.ywc.Rested s.indicate.ywc := by
  have go {x : State} (hx : s.ywc.Rested x.ywc) (c : Prop) [Decidable c] (f : State → State)
      (hf : x.ywc.Rested (f x).ywc) : s.ywc.Rested (if c then x else f x).ywc := by
    split
    · exact hx
    · exact hx.trans hf
  unfold State.indicate
  dsimp only
  generalize hx : ({ s with flu := { s.flu with
    exponent := exponentOf s.flu.members
    stringLatch := s.flu.members.any (fun m => m.actions.stringLatch)
    yawLock := s.flu.members.any (fun m => m.actions.yawLock)
    pumpLatch := s.flu.members.any (fun m => m.actions.pumpLatch) } } : State) = x
  have h0 : s.ywc.Rested x.ywc := by
    rw [← hx]
    exact .refl _
  exact go (go (go (go h0 _ (fun y => y.stcDerate _) (.of_yaw (by simp))) _ (fun y => y.stcLatch _) (.of_yaw (by simp))) _
    (fun y => y.ywcLock _) (State.ywcLock_rested _ _)) _ (fun y => y.clcLatch _) (.refl _)

theorem State.serve_rested (s : State) (r : Request) : s.ywc.Rested (s.serve r).ywc := by
  cases r with
  | raised code v o =>
    have hj : s.ywc.Rested (s.joined code o).ywc := by
      unfold State.joined
      split
      · exact State.indicate_rested { s with flu := { s.flu with members := joinSet code (code.actions o) s.flu.members } }
      · exact .refl _
    have ha : s.ywc.Rested (s.acted code o).ywc := by
      unfold State.acted
      split
      · exact hj.trans (.of_yaw (by simp))
      · exact hj
    rw [State.serve, State.takeRaise_eq]
    split
    · exact ha.trans (.of_yaw (by simp))
    · exact ha.trans (.of_yaw (by simp))
  | cleared code =>
    show s.ywc.Rested (s.takeClear code).ywc
    unfold State.takeClear
    split
    · exact .refl _
    · exact State.indicate_rested { s with flu := { s.flu with members := s.flu.members.filter (fun m => m.code != code) } }

theorem State.settleWithin_rested (n : Nat) (s : State) : s.ywc.Rested (s.settleWithin n).ywc := by
  induction n generalizing s with
  | zero => exact .refl _
  | succ n ih =>
    unfold State.settleWithin
    split
    · exact .refl _
    · rename_i r rest _
      exact (State.serve_rested { s with flu := { s.flu with inbox := rest } } r).trans (ih _)

theorem State.settle_rested (s : State) : s.ywc.Rested s.settle.ywc := s.settleWithin_rested 32

theorem State.raiseNow_rested (s : State) (code : Code) (v : Int) (o : Option Origin) :
    s.ywc.Rested (s.raiseNow code v o).ywc := (s.raise code v o).settle_rested

/-! ### The faults of the yaw -/

/-- A fault raised at a station at rest without a record, or after a halt that leaves it so. -/
theorem State.raiseNow_faults (s : State) {c : Code} (v : Int) (hi : s.flu.inbox = []) (hk : s.Indicated)
    (hc : c.isCondition = true) (hy : (c.actions none).yawLock = true) :
    inMembers c (s.raiseNow c v).flu.members = true ∧ (s.raiseNow c v).flu.yawLock = true ∧
      min 3 (c.actions none).derate ≤ (s.raiseNow c v).flu.exponent := by
  have hb := s.raiseNow_bears v none hi hc
  have hind := (s.raiseNow_keeps c v none).indicated hk
  exact ⟨hb.member, hb.yawLock hind hy, hb.exponent hind⟩

/-- A halt of the own move where no record is held (07 R125). -/
theorem State.haltMove_moving (s : State) (m : Move) (e : HaltReason) (hm : s.ywc.move = some m) (hn : s.ywc.proposal = none)
    (hp : s.ywc.participant ∈ [Participant.releasing, .released, .driving]) :
    s.HaltWork (s.haltMove e) (s.ywc.enter .stopping s.icu.straps.drives) := by
  have href : s.ywc.moveRef = some m.ref := by
    unfold Ywc.moveRef
    rw [hm]
  have hother : s.ywc.proposalRef ≠ some m.ref := by
    unfold Ywc.proposalRef
    rw [hn]
    simp
  have h := s.ownHalt_halts m.ref e
  have hy := haltedYwc_taken s.ywc s.icu.straps.drives s.prm.holdoff m.ref (.inl href)
  obtain ⟨h1, h2, h3, h4⟩ := haltedYwc_other s.ywc s.icu.straps.drives s.prm.holdoff m.ref hother
  rw [haltedPart_moving s.ywc _ hp, h1, h2, h3, h4] at hy
  rw [hy] at h
  rw [s.haltMove_ref e href]
  exact h

theorem State.HaltWork.calm {s t : State} {y : Ywc} (h : s.HaltWork t y) (hc : s.Calm) (hl : y.lock = s.ywc.lock) : t.Calm := by
  obtain ⟨hi, h1, h2, h3, h4, h5, h6, h7, h8⟩ := hc
  have hf := h.flu
  have hm : t.flu.members = s.flu.members := (congrArg Flu.members hf :)
  have he : t.flu.exponent = s.flu.exponent := (congrArg Flu.exponent hf :)
  have hs : t.flu.stringLatch = s.flu.stringLatch := (congrArg Flu.stringLatch hf :)
  have hy : t.flu.yawLock = s.flu.yawLock := (congrArg Flu.yawLock hf :)
  have hp : t.flu.pumpLatch = s.flu.pumpLatch := (congrArg Flu.pumpLatch hf :)
  have hylock : t.ywc.lock = s.ywc.lock := (congrArg Ywc.lock h.ywc :).trans hl
  exact ⟨(congrArg Flu.inbox hf :).trans hi, by rw [he, hm]; exact h1, by rw [hs, hm]; exact h2, by rw [hy, hm]; exact h3,
    by rw [hp, hm]; exact h4, by rw [h.stc, he]; exact h5, by rw [h.stc, hs]; exact h6, by rw [hylock, hy]; exact h7,
    by rw [h.clc, hp]; exact h8⟩

/-- Settles O45: the brake, braking and stall timers' expiries. -/
theorem yawFaults : Obligations.YawFaults := by
  refine ⟨fun m s hc ht hp hm hn => ?_, fun s hc ht hp => ?_, fun m s hc ht hp hm hn => ?_⟩
  · have he : exec .brakeTimerExpiry s = .next ((s.haltMove .fault).raiseNow .brakeFeedback 1) :=
      congrArg Host.Outcome.next (if_pos ht)
    have hh := s.haltMove_moving m .fault hm hn (by simp [hp])
    generalize s.haltMove .fault = x at he hh
    have hx := hh.calm hc rfl
    obtain ⟨f1, f2, f3⟩ := x.raiseNow_faults (c := .brakeFeedback) 1 hx.1 hx.2 rfl rfl
    have hy := (x.raiseNow_rested .brakeFeedback 1 none).parked (by rw [hh.ywc]; exact by simp [Participant.rests, Ywc.enter])
      (by rw [hh.ywc]; exact hn)
    rw [hh.ywc] at hy
    have ho := x.raiseNow_outer .brakeFeedback 1 none
    exact ⟨_, he, (congrArg Ywc.participant hy :), (congrArg Ywc.settleTimer hy :), (congrArg Ywc.brakeTimer hy :),
      (congrArg Ywc.motors hy :), (congrArg Ywc.brakeRelease hy :), f1, f2, f3, (State.outer_icu ho).trans hh.icu,
      (State.outer_ptb ho).trans hh.ptb, (State.outer_levels ho).trans hh.levels⟩
  · have he : exec .brakingTimerExpiry s = .next (s.raiseNow .brakeFeedback 2).enterIdle :=
      congrArg Host.Outcome.next (if_pos ht)
    obtain ⟨f1, f2, f3⟩ := s.raiseNow_faults (c := .brakeFeedback) 2 hc.1 hc.2 rfl rfl
    have ho := s.raiseNow_outer .brakeFeedback 2 none
    exact ⟨_, he, rfl, rfl, rfl, rfl, rfl, f1, f2, f3, State.outer_icu ho, State.outer_ptb ho, State.outer_levels ho⟩
  · have he : exec .stallTimerExpiry s = .next s.stalls := congrArg Host.Outcome.next (if_pos ht)
    have hh := s.haltMove_moving m .stall hm hn (by simp [hp])
    unfold State.stalls at he
    generalize s.haltMove .stall = w at he hh
    have hw := hh.calm hc rfl
    dsimp only at he
    generalize hx : ({ w with ywc := { w.ywc with stall := true } } : State) = x at he
    have hxc : x.Calm := by rw [← hx]; exact hw
    have hxy : x.ywc = { s.ywc.enter .stopping s.icu.straps.drives with stall := true, held := w.ywc.held } := by
      rw [← hx]
      dsimp only
      rw [hh.ywc]
    obtain ⟨f1, f2, _⟩ := x.raiseNow_faults (c := .yawStall) s.ywc.moved hxc.1 hxc.2 rfl rfl
    have hy := (x.raiseNow_rested .yawStall s.ywc.moved none).parked
      (by rw [hxy]; exact by simp [Participant.rests, Ywc.enter]) (by rw [hxy]; exact hn)
    rw [hxy] at hy
    have ho := x.raiseNow_outer .yawStall s.ywc.moved none
    have hicu : (x.raiseNow .yawStall s.ywc.moved).icu = s.icu :=
      (State.outer_icu ho).trans ((by rw [← hx] : x.icu = w.icu).trans hh.icu)
    have hprm : (x.raiseNow .yawStall s.ywc.moved).prm = s.prm := by
      unfold State.prm
      rw [hicu]
    refine ⟨_, he, (congrArg Ywc.participant hy :), (congrArg Ywc.motors hy :), (congrArg Ywc.stallTimer hy :),
      (congrArg Ywc.stall hy :), ?_, f1, f2, hicu, (State.outer_ptb ho).trans ((by rw [← hx] : x.ptb = w.ptb).trans hh.ptb),
      (State.outer_levels ho).trans ((by rw [← hx] : x.levels = w.levels).trans hh.levels)⟩
    show some ((x.raiseNow .yawStall s.ywc.moved).prm.holdoff * 1000) = _
    rw [hprm]

end Sys2Proof.Machine
end

section
/-! PROOFS. Invalid steps, mark edges, the check timer and the proposal holdoff (06 R96, R98, R100 to R108). -/

namespace Sys2Proof.Machine

/-! ### Invalid steps and mark edges -/

theorem haltedYwc_lock (y : Ywc) (drives holdoff : Nat) (r : Ref) : (haltedYwc y drives holdoff r).lock = y.lock := by
  unfold haltedYwc
  dsimp only
  (repeat' split) <;> rfl

/-- A halt of the own move, where one is held: what it leaves, and the participant stopping. -/
theorem State.haltMove_leaves (s : State) (e : HaltReason) (hc : s.Calm) : (s.haltMove e).Calm ∧
    (s.haltMove e).outer = s.outer ∧ (s.ywc.participant = .driving → s.ywc.move.isSome = true →
      (s.haltMove e).ywc.participant = .stopping) := by
  cases hm : s.ywc.move with
  | none =>
    have h : s.haltMove e = s := by
      unfold State.haltMove Ywc.moveRef
      rw [hm]
    rw [h]
    exact ⟨hc, rfl, fun _ k => by cases k⟩
  | some m =>
    have href : s.ywc.moveRef = some m.ref := by
      unfold Ywc.moveRef
      rw [hm]
    have hh := s.ownHalt_halts m.ref e
    have hy := haltedYwc_taken s.ywc s.icu.straps.drives s.prm.holdoff m.ref (.inl href)
    refine ⟨?_, s.haltMove_outer e, fun hp _ => ?_⟩
    · rw [s.haltMove_ref e href]
      exact hh.calm hc (haltedYwc_lock _ _ _ _)
    · rw [haltedPart_moving s.ywc _ (by simp [hp])] at hy
      rw [s.haltMove_ref e href]
      exact (congrArg Ywc.participant hh.ywc :).trans (congrArg Ywc.participant hy :)

/-- An invalid step that brings the count to 4 (06 R96). -/
theorem State.encoderFails_leaves (s : State) (hc : s.Calm) :
    s.encoderFails.ywc.sensed = s.ywc.sensed ∧ s.encoderFails.outer = s.outer ∧
      inMembers .encoderInvalid s.encoderFails.flu.members = true ∧ s.encoderFails.flu.yawLock = true ∧
      (s.ywc.participant = .driving → s.ywc.move.isSome = true → s.encoderFails.ywc.participant = .stopping) := by
  have h : ∃ x : State, x.Calm ∧ x.outer = s.outer ∧ s.ywc.Rested x.ywc ∧
      (s.ywc.participant = .driving → s.ywc.move.isSome = true → x.ywc.participant = .stopping) ∧
      s.encoderFails = x.raiseNow .encoderInvalid 4 := by
    unfold State.encoderFails
    split
    · obtain ⟨h1, h2, h3⟩ := s.haltMove_leaves .fault hc
      exact ⟨_, h1, h2, s.haltMove_rested .fault, h3, rfl⟩
    · rename_i hp
      refine ⟨s, hc, rfl, .refl _, fun k _ => ?_, rfl⟩
      rw [k] at hp
      exact absurd rfl hp
  obtain ⟨x, hx, ho, hr, hd, he⟩ := h
  obtain ⟨f1, f2, _⟩ := x.raiseNow_faults (c := .encoderInvalid) 4 hx.1 hx.2 rfl rfl
  have hs := x.raiseNow_rested .encoderInvalid 4 none
  rw [he]
  refine ⟨hs.sensed.trans hr.sensed, (State.raiseNow_outer _ _ _ _).trans ho, f1, f2, fun hp hm => ?_⟩
  have hstop := hd hp hm
  exact (hs.rests (by rw [hstop]; exact by simp [Participant.rests])).trans hstop

theorem exec_markEdge (s : State) (hs : s.hasSensors = true) (hm : s.levels.mark = false) :
    exec (.markEdge true) s = .next (State.markSeen { s with levels := { s.levels with mark := true } }).settle := by
  refine congrArg Host.Outcome.next ((if_neg ?_).trans (if_pos rfl))
  rw [hs, hm]
  decide

theorem State.markSeen_noTurn {s : State} (h : s.ywc.turn = none) : s.markSeen = s := by
  unfold State.markSeen
  rw [h]

theorem State.markSeen_turn {s : State} {k : Turn} (h : s.ywc.turn = some k) : s.markSeen =
    if s.ywc.referenced then
      if circularDistance s.ywc.position k.mark k.modulus ≤ 8 then s
      else State.raise { s with ywc := { s.ywc with position := k.mark } } .headingSlip
        (signedTurn ((k.mark : Int) - (s.ywc.position : Int)) k.modulus)
    else { s with ywc := { s.ywc with position := k.mark, referenced := true } } := by
  unfold State.markSeen
  rw [h]

/-- Settles O36: invalid steps and mark edges. -/
theorem positionSensors : Obligations.PositionSensors := by
  refine ⟨?_, ?_⟩
  · intro s hs levels
    refine ⟨fun hn => ?_, fun h3 hc => ?_⟩
    · exact congrArg Host.Outcome.next ((if_pos hs).trans (if_neg hn))
    · have he : exec .invalidStep s = .next (State.encoderFails { s with
          levels := levels, ywc := { s.ywc with invalidSteps := min 4 (s.ywc.invalidSteps + 1) } }) :=
        congrArg Host.Outcome.next ((if_pos hs).trans (if_pos h3))
      rw [h3] at he
      generalize hx : ({ s with levels := levels, ywc := { s.ywc with invalidSteps := min 4 (3 + 1) } } : State) = x at he
      obtain ⟨h1, h2, h4, h5, h6⟩ := x.encoderFails_leaves (by rw [← hx]; exact hc)
      rw [← hx] at h1 h2 h6
      rw [← hx] at he h4 h5
      exact ⟨_, he, (congrArg Outer.levels h2 :), (congrArg Ywc.invalidSteps h1 :), (congrArg Ywc.position h1 :),
        (congrArg Ywc.twist h1 :), h4, h5, (congrArg Outer.icu h2 :), (congrArg Outer.ptb h2 :), h6⟩
  · intro s hs hm hc levels
    have he := exec_markEdge s hs hm
    refine ⟨fun k hk hr => ?_, fun hor => ?_, fun k hk hr hd => ?_⟩
    · rw [he, State.markSeen_turn (by exact hk), if_neg (by show ¬ s.ywc.referenced = true; rw [hr]; decide)]
      exact congrArg _ (State.settle_of_empty _ hc.1)
    · have h : State.markSeen { s with levels := levels } = { s with levels := levels } := by
        rcases hor with hn | ⟨k, hk, hr, hd⟩
        · exact State.markSeen_noTurn hn
        · rw [State.markSeen_turn (by exact hk), if_pos (by exact hr), if_pos (by exact hd)]
      rw [he, h]
      exact congrArg _ (State.settle_of_empty _ hc.1)
    · rw [State.markSeen_turn (by exact hk), if_pos (by exact hr), if_neg (by exact Nat.not_le.mpr hd)] at he
      generalize hx : ({ s with levels := levels, ywc := { s.ywc with position := k.mark } } : State) = x at he
      have hr := x.raiseNow_event .headingSlip (signedTurn ((k.mark : Int) - (s.ywc.position : Int)) k.modulus) none
        (by rw [← hx]; exact hc.1) rfl rfl
      have hw := State.LogWork.of_eq (x.logEvent_besidesLog .headingSlip
        (clampInt (-32768) 32767 (signedTurn ((k.mark : Int) - (s.ywc.position : Int)) k.modulus)))
      rw [← hr] at hw
      exact ⟨_, he, hw.ywc.trans (by rw [← hx]), hw.members.trans (by rw [← hx]), hw.levels.trans (by rw [← hx]),
        hw.stc.trans (by rw [← hx]), hw.clc.trans (by rw [← hx]), hw.icu.trans (by rw [← hx])⟩

/-! ### The position vote -/

/-- Whether the vote's median lies off (06 R100). -/
def State.offHeading (s : State) : Bool :=
  match s.headingMedian with
  | some m => decide (32 < m.natAbs)
  | none => false

theorem State.positionVote_eq (s : State) : s.positionVote =
    if s.offHeading = s.ywc.disagree then s
    else if s.offHeading then (s.setDisagree true).raise .headingDisagree (s.headingMedian.getD 0)
    else (s.setDisagree false).clear .headingDisagree := by
  unfold State.positionVote State.offHeading
  cases s.headingMedian with
  | none => cases s.ywc.disagree <;> rfl
  | some m =>
    by_cases h : 32 < m.natAbs
    · simp only [h, if_true, decide_true]
      cases s.ywc.disagree <;> rfl
    · simp only [h, if_false, decide_false]
      cases s.ywc.disagree <;> rfl

theorem State.mem_showing (s : State) (n : Station) (r : StatusRecord) : (n, r) ∈ s.showing ↔ s.peerShowing n = some r := by
  have hall : ∀ k : Station, k ∈ stations := by decide
  unfold State.showing
  rw [List.mem_filterMap]
  constructor
  · rintro ⟨k, _, hk⟩
    split at hk
    · rename_i r' hr'
      cases hk
      exact hr'
    · cases hk
  · intro h
    exact ⟨n, hall n, by rw [h]⟩

theorem State.defers_iff (s : State) : s.defers = true ↔
    ∃ (n : Station) (r : StatusRecord), s.peerShowing n = some r ∧ n < s.own ∧ 0 < r.drives ∧ r.eligible = true := by
  unfold State.defers
  rw [List.any_eq_true]
  constructor
  · rintro ⟨⟨n, r⟩, hm, h⟩
    simp only [Bool.and_eq_true, decide_eq_true_eq] at h
    exact ⟨n, r, (s.mem_showing n r).mp hm, h.1.1, h.1.2, h.2⟩
  · rintro ⟨n, r, hp, hlt, hd, he⟩
    refine ⟨(n, r), (s.mem_showing n r).mpr hp, ?_⟩
    simp only [Bool.and_eq_true, decide_eq_true_eq]
    exact ⟨⟨hlt, hd⟩, he⟩

theorem State.testAndPropose_waits (s : State) (h : s.eligible = false ∨ s.defers = true) : s.testAndPropose = s := by
  unfold State.testAndPropose
  rcases h with h | h <;> simp [h]

/-- A raise of a condition code without actions at a calm state brings its code into the set and works on the log. -/
theorem State.raiseNow_sets (s : State) (c : Code) (v : Int) (hc : s.Calm) (hk : c.isCondition = true)
    (ha : c.actions none = Actions.none) :
    (∀ d, inMembers d (s.raiseNow c v).flu.members = if d = c then true else inMembers d s.flu.members) ∧
      s.raiseNow c v = { s with lif := (s.raiseNow c v).lif, flu := (s.raiseNow c v).flu } := by
  have hw := s.raiseNow_logWork c v none hc ha hk
  refine ⟨fun d => ?_, hw.rest⟩
  rw [hw.members]
  refine (inMembers_joinSet _ _ _ _).trans ?_
  by_cases h : d = c
  · rw [if_pos h, h, beq_self_eq_true, Bool.true_or]
  · rw [if_neg h, beq_false_of_ne (Ne.symm h), Bool.false_or]

/-- A clear of such a code takes it out of the set, and nothing but the FLU changes. -/
theorem State.clearNow_unsets (s : State) (c : Code) (hc : s.Calm) (ht : s.Tabled) (hr : c ≠ .roleConflict)
    (hl : c.isLatched = false) (ha : c.actions none = Actions.none) :
    (∀ d, inMembers d (s.clearNow c).flu.members = if d = c then false else inMembers d s.flu.members) ∧
      s.clearNow c = { s with flu := (s.clearNow c).flu } := by
  rw [s.clearNow_quiet c hc (ht.quiet hr ha), hl, Bool.false_or]
  split
  · rename_i hn
    rw [Bool.not_eq_true'] at hn
    refine ⟨fun d => ?_, rfl⟩
    by_cases h : d = c
    · rw [if_pos h, h, hn]
    · rw [if_neg h]
  · refine ⟨fun d => (inMembers_filter _ _ _).trans ?_, rfl⟩
    by_cases h : d = c
    · rw [if_pos h, h, bne_self_eq_false, Bool.and_false]
    · rw [if_neg h, bne_iff_ne.mpr h, Bool.and_true]

/-- A value in the range of an entry is logged as it stands. -/
theorem clampInt_inside {v : Int} (h1 : -32768 ≤ v) (h2 : v ≤ 32767) : clampInt (-32768) 32767 v = v := by
  unfold clampInt
  rw [if_neg (by omega), if_neg (by omega)]

/-- A raise of an event code leaves an entry of the code with the raise's value in a log with a free place. -/
theorem State.mem_logEvent (s : State) (code : Code) (v : Int) (hl : s.flu.log.length < 32) :
    ∃ x ∈ (s.logEvent code v).flu.log, x.code = code ∧ x.value = v := by
  unfold State.logEvent
  split
  · rename_i e he
    split
    · have hm := List.mem_of_getLast? he
      obtain ⟨hlog, hc⟩ := List.mem_filter.mp hm
      exact ⟨_, List.mem_map.mpr ⟨e, hlog, if_pos rfl⟩, (beq_iff_eq.mp hc :), rfl⟩
    · exact s.mem_makeEntry code v hl
  · exact s.mem_makeEntry code v hl

theorem exec_checkTimerExpiry (s : State) (h : s.ywc.checkTimer.isSome = true) : exec .checkTimerExpiry s =
    .next (State.positionVote { s with ywc := { s.ywc with checkTimer := some s.period } }).settle.testAndPropose :=
  congrArg Host.Outcome.next (if_pos h)

theorem State.eligible_of {s t : State} (hi : t.icu = s.icu) (hy : t.ywc = s.ywc) : t.eligible = s.eligible := by
  unfold State.eligible State.configured
  rw [hi, hy]

theorem State.defers_of {s t : State} (hi : t.icu = s.icu) (hp : t.ptb = s.ptb) : t.defers = s.defers := by
  unfold State.defers State.showing State.peerShowing State.peer State.own
  rw [hi, hp]

/-- The vote at a station that makes no proposal (06 R100, R102, R103). -/
theorem checkTimer_votes (s : State) (ht : s.ywc.checkTimer.isSome = true) (hc : s.Calm) (htab : s.Tabled) :
    let flag : Bool := match s.headingMedian with
      | some m => decide (32 < m.natAbs)
      | none => false
    let voted := { s with ywc := { s.ywc with checkTimer := some s.period, disagree := flag } }
    (voted.eligible = false ∨
        ∃ (n : Station) (r : StatusRecord), s.peerShowing n = some r ∧ n < s.own ∧ 0 < r.drives ∧ r.eligible = true) →
    (flag = s.ywc.disagree → exec .checkTimerExpiry s = .next voted) ∧
    (flag ≠ s.ywc.disagree → ∃ t, exec .checkTimerExpiry s = .next t ∧
      (∀ c, inMembers c t.flu.members = if c = .headingDisagree then flag else inMembers c s.flu.members) ∧
      (∀ m, flag = true → s.headingMedian = some m → -32768 ≤ m → m ≤ 32767 → s.flu.log.length < 32 →
        ∃ e ∈ t.flu.log, e.code = .headingDisagree ∧ e.value = m) ∧
      t = { voted with lif := t.lif, flu := t.flu }) := by
  intro flag voted hwait
  have hdef : voted.eligible = false ∨ voted.defers = true := hwait.imp id fun h => (State.defers_iff voted).mpr h
  rw [exec_checkTimerExpiry s ht, State.positionVote_eq]
  have hoff : State.offHeading { s with ywc := { s.ywc with checkTimer := some s.period } } = flag := rfl
  rw [hoff]
  have settles (t : State) (h : t = { voted with lif := t.lif, flu := t.flu }) : t.testAndPropose = t :=
    t.testAndPropose_waits (hdef.imp (fun k => (State.eligible_of (by rw [h]) (by rw [h])).trans k)
      (fun k => (State.defers_of (by rw [h]) (by rw [h])).trans k))
  refine ⟨fun heq => ?_, fun hne => ?_⟩
  · rw [if_pos (by exact heq), State.settle_of_empty _ (by exact hc.1)]
    have hv : ({ s with ywc := { s.ywc with checkTimer := some s.period } } : State) = voted := by
      show _ = ({ s with ywc := { s.ywc with checkTimer := some s.period, disagree := flag } } : State)
      rw [heq]
    rw [hv, settles voted rfl]
  · rw [if_neg (by exact hne)]
    have hvc : voted.Calm := hc
    cases hf : flag with
    | true =>
      obtain ⟨h1, h2⟩ := voted.raiseNow_sets .headingDisagree (s.headingMedian.getD 0) hvc rfl rfl
      rw [if_pos rfl]
      have he : (State.raise (State.setDisagree { s with ywc := { s.ywc with checkTimer := some s.period } } true)
          .headingDisagree (s.headingMedian.getD 0)).settle = voted.raiseNow .headingDisagree (s.headingMedian.getD 0) := by
        show _ = State.settle (State.raise ({ s with ywc := { s.ywc with checkTimer := some s.period, disagree := flag } } : State)
          .headingDisagree (s.headingMedian.getD 0))
        rw [hf]
        rfl
      have he' : (State.raise (State.setDisagree { s with ywc := { s.ywc with checkTimer := some s.period } } true)
          .headingDisagree (Option.getD (State.headingMedian { s with ywc := { s.ywc with checkTimer := some s.period } }) 0)).settle =
          voted.raiseNow .headingDisagree (s.headingMedian.getD 0) := he
      rw [he', settles _ h2]
      refine ⟨_, rfl, h1, fun m _ hm h3 h4 hlen => ?_, ?_⟩
      · rw [voted.raiseNow_quiet _ _ _ hvc rfl rfl, hm]
        dsimp only [Option.getD_some]
        rw [clampInt_inside h3 h4]
        exact State.mem_logCondition _ _ _ hlen
      · exact h2
    | false =>
      obtain ⟨h1, h2⟩ := voted.clearNow_unsets .headingDisagree hvc htab (by decide) rfl rfl
      rw [if_neg (by decide)]
      have he : (State.clear (State.setDisagree { s with ywc := { s.ywc with checkTimer := some s.period } } false)
          .headingDisagree).settle = voted.clearNow .headingDisagree := by
        show _ = State.settle (State.clear ({ s with ywc := { s.ywc with checkTimer := some s.period, disagree := flag } } : State)
          .headingDisagree)
        rw [hf]
        rfl
      have h2' : voted.clearNow .headingDisagree = { voted with
          lif := (voted.clearNow .headingDisagree).lif, flu := (voted.clearNow .headingDisagree).flu } := by
        have hl : (voted.clearNow .headingDisagree).lif = voted.lif := (congrArg State.lif h2 :)
        rw [hl]
        exact h2
      rw [he, settles _ h2']
      refine ⟨_, rfl, h1, fun m k => (by cases k), ?_⟩
      exact h2'

end Sys2Proof.Machine
end

section
/-! PROOFS. Proposals made at the check timer and the proposal holdoff (06 R103 to R108; 07 R112, R113, R117, R124). -/

namespace Sys2Proof.Machine

/-! ### Sets of stations -/

theorem inSet_stationBit (n m : Station) : inSet (stationBit n) m = decide (m = n) := by
  revert n m
  decide

theorem inSet_or (a b : StationSet) (n : Station) : inSet (a ||| b) n = (inSet a n || inSet b n) := BitVec.getLsbD_or

theorem stationSet_ext (a b : StationSet) (h : ∀ n, inSet a n = inSet b n) : a = b :=
  BitVec.eq_of_getLsbD_eq fun i hi => h ⟨i, hi⟩

theorem inSet_foldl (l : List (Station × StatusRecord)) (set : StationSet) (n : Station) (h : inSet set n = true) :
    inSet (l.foldl (fun set p => set ||| stationBit p.1) set) n = true := by
  induction l generalizing set with
  | nil => exact h
  | cons p rest ih => exact ih _ (by rw [inSet_or, h, Bool.true_or])

theorem State.inSet_expectedSet (s : State) : inSet s.expectedSet s.own = true :=
  inSet_foldl _ _ _ (by rw [inSet_stationBit, decide_eq_true rfl])

/-- The own answer completes the expected set exactly where no other station is expected (07 R117). -/
theorem answeredInFull_own (s : State) (r : Proposal) (a : Reply) (hr : r.expected = s.expectedSet)
    (ha : r.answers = (Vector.replicate 8 none).set s.own (some a)) :
    answeredInFull r = true ↔ s.expectedSet = stationBit s.own := by
  have hall : ∀ k : Station, k ∈ stations := by decide
  have hget (n : Station) : r.answers[n].isSome = decide (n = s.own) := by
    rw [ha]
    by_cases h : n = s.own
    · subst h
      rw [decide_eq_true rfl]
      exact congrArg Option.isSome (Vector.getElem_set_self _)
    · rw [decide_eq_false h]
      refine (congrArg Option.isSome (Vector.getElem_set_ne s.own.isLt n.isLt (fun e => h (Fin.ext e.symm)))).trans ?_
      exact congrArg Option.isSome (Vector.getElem_replicate n.isLt)
  unfold answeredInFull
  rw [List.all_eq_true, hr]
  simp only [hget]
  constructor
  · intro h
    refine stationSet_ext _ _ fun n => ?_
    rw [inSet_stationBit]
    by_cases hn : n = s.own
    · rw [decide_eq_true hn, hn, s.inSet_expectedSet]
    · have := h n (hall n)
      rw [decide_eq_false hn, Bool.or_false, Bool.not_eq_true'] at this
      rw [decide_eq_false hn, this]
  · intro h n _
    rw [h, inSet_stationBit]
    exact Bool.not_or_self _

/-! ### The proposal -/

/-- A yaw request other than a halt changes the LIF and the held requests only. -/
theorem State.requestYaw_only (s : State) (k : Kind) (r : Ref) (p : List Byte) (hk : k ≠ .yawHalt) :
    ∃ (l : Lif) (h : List HeldYaw), s.requestYaw k r p = { s with lif := l, ywc := { s.ywc with held := h } } ∧
      (s.lif.queue.length < 8 → ∃ f ∈ l.queue, f.kind = k ∧ f.payload = p) := by
  unfold State.requestYaw
  rw [if_neg hk]
  dsimp only
  cases hp : s.hasPlace with
  | true =>
    rw [s.request_place k p hp, if_pos rfl]
    refine ⟨_, s.ywc.held, rfl, fun _ => ?_⟩
    exact Lif.mem_beginIfIdle { s.lif with queue := insertFrame (s.newFrame k p) s.lif.queue }
      ((mem_insertFrame (s.newFrame k p) (s.newFrame k p) _).mpr (.inl rfl))
  | false =>
    rw [s.request_full k p hp, if_neg (show ¬ (false = true) by decide)]
    refine ⟨_, _, rfl, fun h => ?_⟩
    rw [hasPlace_of_lt h] at hp
    cases hp

/-- The own answer at the creation of a record (07 R113). -/
def State.ownReply (s : State) : Reply := if s.levels.brakeApplied then .ready s.icu.straps.drives else .refuse .brake

/-- The record of a proposal with the own answer entered (07 R112, R113). -/
def State.proposalOf (s : State) (p : Plan) (clockwise : Bool) : Proposal :=
  { ref := { proposer := s.own.val, number := s.ywc.nextNumber }
    purpose := p.purpose
    path := p.path
    clockwise := clockwise
    target := p.target
    expected := s.expectedSet
    answers := (Vector.replicate 8 none).set s.own (some s.ownReply)
    committed := 0
    released := 0
    count := 0
    phase := .collecting }

/-- A proposal made: the state with the record and its YAW_PROPOSE, decided at once where it is answered in full. -/
theorem State.propose_eq (s : State) (p : Plan) : ∃ (cw : Bool) (l : Lif) (h : List HeldYaw) (d : Nat) (u : State),
    (s.lif.queue.length < 8 → ∃ f ∈ l.queue, f.kind = .yawPropose ∧
      f.payload = encodePropose s.ywc.nextNumber p.path p.target p.purpose) ∧
    s.propose p = (if answeredInFull (s.proposalOf p cw) then u.takeDecision (s.proposalOf p cw) else u) ∧ u =
      { s with
        lif := l
        draws := d
        ywc := { Ywc.enter { s.ywc with
            nextNumber := (s.ywc.nextNumber + 1) % 256
            move := some { ref := { proposer := s.own.val, number := s.ywc.nextNumber }, path := p.path, clockwise := cw, count := 0 }
            answerTimer := some 250
            held := h } .answered s.icu.straps.drives false with
          proposal := some (s.proposalOf p cw) } } := by
  obtain ⟨cw, d, hway, _⟩ := s.pathClockwise_spec p.path
  obtain ⟨l, h, hreq, hmem⟩ := State.requestYaw_only { s with
      draws := d
      ywc := { s.ywc with
        nextNumber := (s.ywc.nextNumber + 1) % 256
        move := some { ref := { proposer := s.own.val, number := s.ywc.nextNumber }, path := p.path, clockwise := cw, count := 0 }
        answerTimer := some 250 } } .yawPropose { proposer := s.own.val, number := s.ywc.nextNumber }
    (encodePropose s.ywc.nextNumber p.path p.target p.purpose) (by decide)
  refine ⟨cw, l, h, d, _, hmem, ?_, rfl⟩
  unfold State.propose
  dsimp only
  rw [hway]
  dsimp only
  refine (congrArg (fun x : State => State.enterAnswer (x.participate .answered false) _ _ _) hreq).trans ?_
  rfl

/-- A station that tests for a move (06 R103, R104). -/
theorem State.testAndPropose_tests (s : State) (he : s.eligible = true) (hd : s.defers = false) : s.testAndPropose =
    match s.proposalTest with
    | .nothing => s
    | .plan p => s.propose p
    | .blocked d => (s.raiseNow .yawBlocked d).startHoldoff := by
  unfold State.testAndPropose
  rw [he, hd]
  rfl

/-- The check timer at a station that tests for a move. -/
theorem checkTimer_tests (s : State) (ht : s.ywc.checkTimer.isSome = true) (hc : s.Calm)
    (hm : ∀ m, s.headingMedian = some m → m.natAbs ≤ 32) (he : s.eligible = true)
    (hd : ∀ (n : Station) (r : StatusRecord), s.peerShowing n = some r → n < s.own → r.drives = 0 ∨ r.eligible = false) :
    exec .checkTimerExpiry s = .next (
      match s.proposalTest with
      | .nothing => { s with ywc := { s.ywc with checkTimer := some s.period } }
      | .plan p => State.propose { s with ywc := { s.ywc with checkTimer := some s.period } } p
      | .blocked d => (State.raiseNow { s with ywc := { s.ywc with checkTimer := some s.period } } .yawBlocked d).startHoldoff) := by
  have hflag : State.offHeading { s with ywc := { s.ywc with checkTimer := some s.period } } = s.ywc.disagree := by
    have hdis : s.ywc.disagree = false := by
      unfold State.eligible at he
      simp only [Bool.and_eq_true, Bool.not_eq_true'] at he
      obtain ⟨⟨⟨⟨⟨_, h⟩, _⟩, _⟩, _⟩, _⟩ := he
      exact h
    rw [hdis]
    show (match s.headingMedian with | some m => decide (32 < m.natAbs) | none => false) = false
    cases hmed : s.headingMedian with
    | none => rfl
    | some m => exact decide_eq_false (Nat.not_lt.mpr (hm m hmed))
  have hdef : State.defers { s with ywc := { s.ywc with checkTimer := some s.period } } = false := by
    rw [Bool.eq_false_iff]
    intro h
    obtain ⟨n, r, hp, hlt, h0, hel⟩ := (State.defers_iff _).mp h
    rcases hd n r hp hlt with h' | h'
    · omega
    · rw [h'] at hel
      cases hel
  rw [exec_checkTimerExpiry s ht, State.positionVote_eq, if_pos hflag, State.settle_of_empty _ (by exact hc.1),
    State.testAndPropose_tests _ (by exact he) hdef]
  rfl

/-! ### The holdoff -/

theorem any_yawLock_joinSet (c : Code) (a : Actions) (ms : List Member) (h : a.yawLock = false) :
    (joinSet c a ms).any (fun m => m.actions.yawLock) = ms.any (fun m => m.actions.yawLock) := by
  induction ms with
  | nil => simp [joinSet, h]
  | cons m rest ih =>
    unfold joinSet
    split
    · simp [Actions.join, h]
    · simp only [List.any_cons, ih]

theorem any_yawLock_filter (c : Code) (ms : List Member)
    (h : (ms.filter (fun m => m.code != c)).any (fun m => m.actions.yawLock) = true) :
    ms.any (fun m => m.actions.yawLock) = true := by
  obtain ⟨m, hm, hy⟩ := List.any_eq_true.mp h
  exact List.any_eq_true.mpr ⟨m, (List.mem_filter.mp hm).1, hy⟩

theorem State.parked_of_yaw {s t : State} (h : t.yaw = s.yaw) : t.ywc.parked = s.ywc.parked :=
  (congrArg (fun y : Ywc => { y with lock := false }) h :)

/-- Indications formed again from members that lock nothing new halt nothing. -/
theorem State.indicate_unlocked (s : State) (h : s.flu.members.any (fun m => m.actions.yawLock) = true → s.flu.yawLock = true) :
    s.indicate.ywc.parked = s.ywc.parked := by
  unfold State.indicate
  dsimp only
  generalize hx : ({ s with flu := { s.flu with
    exponent := exponentOf s.flu.members
    stringLatch := s.flu.members.any (fun m => m.actions.stringLatch)
    yawLock := s.flu.members.any (fun m => m.actions.yawLock)
    pumpLatch := s.flu.members.any (fun m => m.actions.pumpLatch) } } : State) = x
  have h0 : x.ywc.parked = s.ywc.parked := by rw [← hx]
  have go {y : State} (hy : y.ywc.parked = s.ywc.parked) (c : Prop) [Decidable c] (f : State → State)
      (hf : ¬ c → (f y).ywc.parked = y.ywc.parked) : (if c then y else f y).ywc.parked = s.ywc.parked := by
    split
    · exact hy
    · exact (hf ‹_›).trans hy
  refine go (go (go (go h0 _ (fun y => y.stcDerate _) (fun _ => State.parked_of_yaw (by simp))) _ (fun y => y.stcLatch _)
    (fun _ => State.parked_of_yaw (by simp))) _ (fun y => y.ywcLock _) (fun hne => ?_)) _ (fun y => y.clcLatch _) (fun _ => rfl)
  cases hm : s.flu.members.any (fun m => m.actions.yawLock) with
  | true => exact absurd (hm.trans (h hm).symm) hne
  | false => rfl

theorem Request.isTrip_yawLock {c : Code} {v : Int} {o : Option Origin} (h : (Request.raised c v o).isTrip = true) :
    (c.actions o).yawLock = false := by
  cases c <;> first | rfl | cases h

/-- The taking of a clear, or of a raise that the string makes of itself, halts nothing. -/
theorem State.serve_unlocked (s : State) (r : Request) (h : s.Indicated) (hr : r.isTrip = true ∨ ∃ c, r = .cleared c) :
    (s.serve r).ywc.parked = s.ywc.parked := by
  have hlock : s.flu.members.any (fun m => m.actions.yawLock) = true → s.flu.yawLock = true := fun k => h.2.2.1.trans k
  cases r with
  | raised code v o =>
    have hy := Request.isTrip_yawLock (hr.resolve_right (fun ⟨_, k⟩ => by cases k))
    have hj : (s.joined code o).ywc.parked = s.ywc.parked := by
      unfold State.joined
      split
      · exact State.indicate_unlocked { s with flu := { s.flu with members := joinSet code (code.actions o) s.flu.members } }
          (by show (joinSet _ _ _).any _ = true → _; rw [any_yawLock_joinSet _ _ _ hy]; exact hlock)
      · rfl
    have ha : (s.acted code o).ywc.parked = s.ywc.parked := by
      unfold State.acted
      split
      · exact (State.parked_of_yaw (by simp)).trans hj
      · exact hj
    rw [State.serve, State.takeRaise_eq]
    split
    · exact (State.parked_of_yaw (by simp)).trans ha
    · exact (State.parked_of_yaw (by simp)).trans ha
  | cleared code =>
    show (s.takeClear code).ywc.parked = s.ywc.parked
    unfold State.takeClear
    split
    · rfl
    · exact State.indicate_unlocked { s with flu := { s.flu with members := s.flu.members.filter (fun m => m.code != code) } }
        (fun k => hlock (any_yawLock_filter code _ k))

/-- So does the taking of several such requests. -/
theorem State.settleWithin_unlocked (n : Nat) (s : State) (h : s.Indicated)
    (hr : ∀ r ∈ s.requests, r.isTrip = true ∨ ∃ c, r = .cleared c) : (s.settleWithin n).ywc.parked = s.ywc.parked := by
  induction n generalizing s with
  | zero => rfl
  | succ n ih =>
    unfold State.settleWithin
    split
    · rfl
    · rename_i r rest hs
      have hin : s.requests = r :: rest := hs
      rw [hin] at hr
      have hx : State.Indicated { s with flu := { s.flu with inbox := rest } } := h
      refine (ih _ ?_ ?_).trans (State.serve_unlocked _ r hx (hr r List.mem_cons_self))
      · cases r with
        | raised code v o => exact State.takeRaise_indicated _ code v o hx
        | cleared code => exact State.takeClear_indicated _ code hx
      · obtain ⟨l, hl, ht, _⟩ := s.serve_requests r (rest := rest)
        rw [hl]
        intro q hq
        rcases List.mem_append.mp hq with hq | hq
        · exact hr q (List.mem_cons_of_mem _ hq)
        · exact .inl (ht q hq)

/-- The requests of a clear handed to a state that no request waits in. -/
theorem State.clear_requests (s : State) (c : Code) (hi : s.flu.inbox = []) : (s.clear c).requests = [.cleared c] := by
  show s.flu.inbox ++ [_] = _
  rw [hi]
  rfl

theorem State.clearNow_unlocked (s : State) (c : Code) (h : s.Calm) : (s.clearNow c).ywc.parked = s.ywc.parked := by
  refine State.settleWithin_unlocked 32 (s.clear c) h.2 fun r hr => ?_
  rw [s.clear_requests c h.1, List.mem_singleton] at hr
  exact .inr ⟨c, hr⟩

/-- A cleared code that is not latched is out of the set. -/
theorem State.clearNow_absent (s : State) (c : Code) (hi : s.flu.inbox = []) (hc : c ≠ .repeatedTrips)
    (hk : c.isCondition = true) (hl : c.isLatched = false) : inMembers c (s.clearNow c).flu.members = false := by
  have hreq := s.clear_requests c hi
  have hin : (s.clear c).flu.inbox = [.cleared c] := hreq
  show inMembers c (State.settleWithin (31 + 1) (s.clear c)).flu.members = false
  rw [State.settleWithin, hin]
  refine State.settleWithin_absent c hc hk 31 _ ?_ ?_
  · show inMembers c (State.takeClear _ c).flu.members = false
    rw [State.takeClear_members, hl, Bool.false_or]
    split
    · rename_i hn
      rw [Bool.not_eq_true'] at hn
      exact hn
    · exact (inMembers_filter _ _ _).trans (by simp)
  · obtain ⟨l, hl', ht, _⟩ := (s.clear c).serve_requests (.cleared c) (rest := [])
    rw [hl', List.nil_append]
    intro r hr v o he
    have := ht r hr
    rw [he, Request.isTrip_raised hc hk] at this
    cases this

/-- Settles O37: the vote, the proposal test with its findings, and the holdoff. -/
theorem checkAndHoldoff : Obligations.CheckAndHoldoff := by
  refine ⟨checkTimer_votes, ?_, fun s ht => ⟨fun hst => ?_, fun hst hc => ?_⟩⟩
  · intro s ht hc hm he hd waiting
    have hexec := checkTimer_tests s ht hc hm he hd
    refine ⟨fun hn => ?_, fun d hb => ?_, fun p hp => ?_⟩
    · rw [hexec, hn]
    · rw [hb] at hexec
      dsimp only at hexec
      have hr := waiting.raiseNow_event .yawBlocked d none hc.1 rfl rfl
      have hw := State.LogWork.of_eq (waiting.logEvent_besidesLog .yawBlocked (clampInt (-32768) 32767 d))
      rw [← hr] at hw
      have hprm : (waiting.raiseNow .yawBlocked d).prm = s.prm := by
        unfold State.prm
        rw [hw.icu]
      refine ⟨_, hexec, ?_, hw.members, fun h1 h2 hlen => ?_, ?_⟩
      · show ({ (waiting.raiseNow .yawBlocked d).ywc with
          holdoffTimer := some ((waiting.raiseNow .yawBlocked d).prm.holdoff * 1000) } : Ywc) = _
        rw [hw.ywc, hprm]
      · show ∃ e ∈ (waiting.raiseNow .yawBlocked d).flu.log, _
        rw [hr, clampInt_inside h1 h2]
        exact State.mem_logEvent _ _ _ hlen
      · have hrest := hw.rest
        generalize waiting.raiseNow .yawBlocked d = t at hrest ⊢
        rw [hrest]
        rfl
    · rw [hp] at hexec
      dsimp only at hexec
      obtain ⟨cw, l, h, d, u, hmem, hprop, hu⟩ := waiting.propose_eq p
      have hfull := answeredInFull_own s (waiting.proposalOf p cw) s.ownReply rfl rfl
      refine ⟨u, waiting.proposalOf p cw, fun hne => ?_, fun heq => ?_, ?_⟩
      · refine hexec.trans (congrArg _ (hprop.trans ?_))
        exact if_neg (fun k => hne (hfull.mp k))
      · refine ⟨_, exec_answerTimerExpiry u _ (by rw [hu]; rfl) (by rw [hu]) rfl, hexec.trans (congrArg _ (hprop.trans ?_))⟩
        exact if_pos (hfull.mpr heq)
      · rw [hu]
        exact ⟨rfl, rfl, rfl, rfl, rfl, rfl, rfl, rfl, rfl, rfl, rfl, rfl, rfl, rfl, rfl, rfl, rfl, rfl, hmem, rfl⟩
  · exact congrArg Host.Outcome.next ((if_pos ht).trans (if_neg (by rw [hst]; decide)))
  · have he : exec .proposalHoldoffExpiry s = .next
        (State.clearNow { s with ywc := { s.ywc with holdoffTimer := none, stall := false } } .yawStall) :=
      congrArg Host.Outcome.next ((if_pos ht).trans (if_pos hst))
    have hy := State.clearNow_unlocked { s with ywc := { s.ywc with holdoffTimer := none, stall := false } } .yawStall hc
    have ho := State.clearNow_outer { s with ywc := { s.ywc with holdoffTimer := none, stall := false } } .yawStall
    exact ⟨_, he, (congrArg Ywc.stall hy :), (congrArg Ywc.holdoffTimer hy :),
      State.clearNow_absent _ _ hc.1 (by decide) rfl rfl, (congrArg Outer.icu ho :), (congrArg Outer.ptb ho :)⟩

end Sys2Proof.Machine
end

section
/-! PROOFS. The arithmetic of a move and the proposal test (06 R104 to R107). -/

namespace Sys2Proof.Machine

/-! ### Remainders within one turn -/

/-- A number less than a turn below 0, or less than two turns above it, brought into a turn. -/
theorem emod_turn (x : Int) (c : Nat) (h1 : -(c : Int) ≤ x) (h2 : x < 2 * c) :
    x % (c : Int) = if x < 0 then x + c else if x < c then x else x - c := by
  split
  · rw [← Int.add_emod_right, Int.emod_eq_of_lt (by omega) (by omega)]
  · split
    · rename_i h
      rw [Int.emod_eq_of_lt (by omega) h]
    · rw [← Int.sub_emod_right, Int.emod_eq_of_lt (by omega) (by omega)]

/-- The position `d` counts on, for less than a turn either way. -/
theorem turnBy_turn (p : Nat) (d : Int) (c : Nat) (hp : p < c) (h1 : -(c : Int) ≤ d) (h2 : d ≤ c) :
    (turnBy p d c : Int) = if (p : Int) + d < 0 then (p : Int) + d + c
      else if (p : Int) + d < c then (p : Int) + d else (p : Int) + d - c := by
  unfold turnBy
  rw [emod_turn _ c (by omega) (by omega)]
  (repeat' split) <;> omega

/-- How many counts clockwise of a start a position lies, both within one turn. -/
def clockwiseOf (start c q : Nat) : Nat := if start ≤ q then q - start else q + c - start

theorem emod_clockwiseOf (start c q : Nat) (hs : start < c) (hq : q < c) :
    ((q : Int) - (start : Int)) % (c : Int) = (clockwiseOf start c q : Int) := by
  rw [emod_turn _ c (by omega) (by omega)]
  unfold clockwiseOf
  (repeat' split) <;> omega

/-- The circular distance of two positions, by what lies between them either way. -/
theorem circularDistance_eq (p q c : Nat) (hp : p < c) (hq : q < c) :
    circularDistance p q c = min (clockwiseOf p c q) (c - clockwiseOf p c q) := by
  unfold circularDistance signedTurn
  dsimp only
  rw [emod_clockwiseOf p c q hp hq]
  have hlt : clockwiseOf p c q < c := by
    unfold clockwiseOf
    (repeat' split) <;> omega
  (repeat' split) <;> omega

/-! ### The keep-out sectors -/

theorem covers_iff (x : Sector) (c q : Nat) (hc : 0 < c) :
    x.covers c q = true ↔ ((q : Int) - x.start) % c < x.length := by
  have h0 := Int.emod_nonneg ((q : Int) - x.start) (show (c : Int) ≠ 0 by omega)
  unfold Sector.covers
  rw [decide_eq_true_iff]
  omega

theorem forbids_iff (p : Params) (q : Nat) (hc : 0 < p.counts) (hn : p.sectorCount ≤ 2) :
    p.sectors.any (fun x => x.covers p.counts q) = true ↔ p.Forbids q := by
  unfold Params.Forbids Params.sectors
  have h1 := covers_iff { start := p.sector1Start, length := p.sector1Length } p.counts q hc
  have h2 := covers_iff { start := p.sector2Start, length := p.sector2Length } p.counts q hc
  dsimp only at h1 h2
  rcases (by omega : p.sectorCount = 0 ∨ p.sectorCount = 1 ∨ p.sectorCount = 2) with h | h | h <;> rw [h]
  · simp
  · simp only [List.take_succ_cons, List.take_zero, List.any_cons, List.any_nil, Bool.or_false, h1]
    omega
  · simp only [List.take_succ_cons, List.take_zero, List.any_cons, List.any_nil, Bool.or_false, Bool.or_eq_true, h1, h2]
    omega

/-- A search through forbidden positions ends at the first that is free (06 R106). -/
theorem firstFree_eq (sectors : List Sector) (c : Nat) (dir : Int) (k : Nat) (g : Nat → Nat) (fuel : Nat)
    (hstep : ∀ i, i < k → turnBy (g i) dir c = g (i + 1))
    (hcov : ∀ i, i < k → sectors.any (fun x => x.covers c (g i)) = true)
    (hfree : sectors.any (fun x => x.covers c (g k)) = false) (hk : k ≤ fuel) :
    firstFree sectors c dir fuel (g 0) = g k := by
  induction k generalizing g fuel with
  | zero =>
    cases fuel with
    | zero => rfl
    | succ n => exact if_neg (by rw [hfree]; decide)
  | succ k ih =>
    obtain ⟨n, rfl⟩ : ∃ n, fuel = n + 1 := ⟨fuel - 1, by omega⟩
    refine (if_pos (hcov 0 (by omega))).trans ?_
    rw [hstep 0 (by omega)]
    exact ih (fun i => g (i + 1)) n (fun i hi => hstep (i + 1) (by omega)) (fun i hi => hcov (i + 1) (by omega)) hfree (by omega)

/-- The positions that a sector of `len` counts from `start` forbids, with another one of `len'` counts that begins `gap`
counts clockwise of the start. -/
structure Keepout (sectors : List Sector) (c start len gap len' : Nat) : Prop where
  start_lt : start < c
  half : 2 * (len + len') ≤ c
  behind : len ≤ gap
  before : gap + len' ≤ c
  covered : ∀ q, q < c → (sectors.any (fun x => x.covers c q) = true ↔
    clockwiseOf start c q < len ∨ gap ≤ clockwiseOf start c q ∧ clockwiseOf start c q < gap + len')

section
variable {sectors : List Sector} {c start len gap len' : Nat} (h : Keepout sectors c start len gap len') (hlen : 0 < len)
include h hlen

/-- The candidate counter-clockwise of the sector (06 R106). -/
theorem Keepout.lower : ∃ q, firstFree sectors c (-1) c (turnBy start (-1) c) = q ∧ q < c ∧
    clockwiseOf start c q = if gap + len' < c then c - 1 else gap - 1 := by
  obtain ⟨hs, hh, hb, hf, hcov⟩ := h
  have hg (i : Nat) (hi : i < c) : (if i < start then start - 1 - i else start + c - 1 - i) < c ∧
      clockwiseOf start c (if i < start then start - 1 - i else start + c - 1 - i) = c - 1 - i := by
    unfold clockwiseOf
    (repeat' split) <;> omega
  have h0 : turnBy start (-1) c = (fun i => if i < start then start - 1 - i else start + c - 1 - i) 0 := by
    have ht := turnBy_turn start (-1) c hs (by omega) (by omega)
    dsimp only
    (repeat' split at ht) <;> (repeat' split) <;> omega
  have hstep (i : Nat) (hi : i + 1 < c) : turnBy (if i < start then start - 1 - i else start + c - 1 - i) (-1) c =
      if i + 1 < start then start - 1 - (i + 1) else start + c - 1 - (i + 1) := by
    have ht := turnBy_turn (if i < start then start - 1 - i else start + c - 1 - i) (-1) c (hg i (by omega)).1 (by omega) (by omega)
    (repeat' split at ht) <;> (repeat' split) <;> omega
  have run (k : Nat) (hk : k < c) (hc : ∀ i, i < k → gap ≤ c - 1 - i ∧ c - 1 - i < gap + len')
      (hfree : ¬ (c - 1 - k < len ∨ gap ≤ c - 1 - k ∧ c - 1 - k < gap + len')) :
      firstFree sectors c (-1) c (turnBy start (-1) c) = if k < start then start - 1 - k else start + c - 1 - k := by
    rw [h0]
    refine firstFree_eq sectors c (-1) k (fun i => if i < start then start - 1 - i else start + c - 1 - i) c
      (fun i hi => hstep i (by omega)) (fun i hi => ?_) ?_ (by omega)
    · rw [hcov _ (hg i (by omega)).1, (hg i (by omega)).2]
      exact .inr (hc i hi)
    · rw [Bool.eq_false_iff]
      intro hx
      rw [hcov _ (hg k hk).1, (hg k hk).2] at hx
      exact hfree hx
  by_cases hadj : gap + len' < c
  · have hr := run 0 (by omega) (fun i hi => by omega) (by omega)
    exact ⟨_, hr, (hg 0 (by omega)).1, by rw [(hg 0 (by omega)).2, if_pos hadj]; omega⟩
  · have hr := run len' (by omega) (fun i hi => by omega) (by omega)
    exact ⟨_, hr, (hg len' (by omega)).1, by rw [(hg len' (by omega)).2, if_neg hadj]; omega⟩

/-- The candidate clockwise of the sector (06 R106). -/
theorem Keepout.upper : ∃ q, firstFree sectors c 1 c (turnBy start (len : Int) c) = q ∧ q < c ∧
    clockwiseOf start c q = if len < gap then len else len + len' := by
  obtain ⟨hs, hh, hb, hf, hcov⟩ := h
  have hg (i : Nat) (hi : len + i < c) : (if start + len + i < c then start + len + i else start + len + i - c) < c ∧
      clockwiseOf start c (if start + len + i < c then start + len + i else start + len + i - c) = len + i := by
    unfold clockwiseOf
    (repeat' split) <;> omega
  have h0 : turnBy start (len : Int) c =
      (fun i => if start + len + i < c then start + len + i else start + len + i - c) 0 := by
    have ht := turnBy_turn start len c hs (by omega) (by omega)
    dsimp only
    (repeat' split at ht) <;> (repeat' split) <;> omega
  have hstep (i : Nat) (hi : len + (i + 1) < c) :
      turnBy (if start + len + i < c then start + len + i else start + len + i - c) 1 c =
        if start + len + (i + 1) < c then start + len + (i + 1) else start + len + (i + 1) - c := by
    have ht := turnBy_turn (if start + len + i < c then start + len + i else start + len + i - c) 1 c
      (hg i (by omega)).1 (by omega) (by omega)
    (repeat' split at ht) <;> (repeat' split) <;> omega
  have run (k : Nat) (hk : len + k < c) (hc : ∀ i, i < k → gap ≤ len + i ∧ len + i < gap + len')
      (hfree : ¬ (len + k < len ∨ gap ≤ len + k ∧ len + k < gap + len')) :
      firstFree sectors c 1 c (turnBy start (len : Int) c) =
        if start + len + k < c then start + len + k else start + len + k - c := by
    rw [h0]
    refine firstFree_eq sectors c 1 k (fun i => if start + len + i < c then start + len + i else start + len + i - c) c
      (fun i hi => hstep i (by omega)) (fun i hi => ?_) ?_ (by omega)
    · rw [hcov _ (hg i (by omega)).1, (hg i (by omega)).2]
      exact .inr (hc i hi)
    · rw [Bool.eq_false_iff]
      intro hx
      rw [hcov _ (hg k hk).1, (hg k hk).2] at hx
      exact hfree hx
  by_cases hadj : len < gap
  · have hr := run 0 (by omega) (fun i hi => by omega) (by omega)
    exact ⟨_, hr, (hg 0 (by omega)).1, by rw [(hg 0 (by omega)).2, if_pos hadj, Nat.add_zero]⟩
  · have hr := run len' (by omega) (fun i hi => by omega) (by omega)
    exact ⟨_, hr, (hg len' (by omega)).1, by rw [(hg len' (by omega)).2, if_neg hadj]⟩

end

/-- What a target is to a position: allowed, and at the least circular distance of all allowed positions, the
counter-clockwise one of two (06 R106). -/
def NearestFree (sectors : List Sector) (c pos t : Nat) : Prop :=
  t < c ∧ sectors.any (fun x => x.covers c t) = false ∧
    ∀ q, q < c → sectors.any (fun x => x.covers c q) = false →
      circularDistance pos t c ≤ circularDistance pos q c ∧
      (circularDistance pos t c = circularDistance pos q c →
        q = t ∨ (t : Int) = ((pos : Int) - circularDistance pos t c) % c)

/-- The circular distance by the counts clockwise of a start before both positions. -/
theorem circularDistance_clockwise (start c p q : Nat) (hs : start < c) (hp : p < c) (hq : q < c)
    (h : clockwiseOf start c p ≤ clockwiseOf start c q) : circularDistance p q c =
      min (clockwiseOf start c q - clockwiseOf start c p) (c - (clockwiseOf start c q - clockwiseOf start c p)) := by
  rw [circularDistance_eq p q c hp hq]
  unfold clockwiseOf at h ⊢
  (repeat' split at h) <;> (repeat' split) <;> omega

theorem clockwiseOf_injective (start c p q : Nat) (hs : start < c) (hp : p < c) (hq : q < c)
    (h : clockwiseOf start c p = clockwiseOf start c q) : p = q := by
  unfold clockwiseOf at h
  (repeat' split at h) <;> omega

/-- The nearer of the two candidates is the nearest free position. -/
theorem Keepout.nearest {sectors : List Sector} {c start len gap len' : Nat} (h : Keepout sectors c start len gap len')
    (pos : Nat) (hp : pos < c) (hu : clockwiseOf start c pos < len) :
    NearestFree sectors c pos
      (if circularDistance pos (firstFree sectors c (-1) c (turnBy start (-1) c)) c ≤
          circularDistance pos (firstFree sectors c 1 c (turnBy start (len : Int) c)) c then
        firstFree sectors c (-1) c (turnBy start (-1) c)
      else firstFree sectors c 1 c (turnBy start (len : Int) c)) := by
  obtain ⟨lo, hlo, hlolt, hloc⟩ := h.lower (by omega)
  obtain ⟨up, hup, huplt, hupc⟩ := h.upper (by omega)
  rw [hlo, hup]
  obtain ⟨hs, hh, hb, hf, hcov⟩ := h
  have free (q : Nat) (hq : q < c) : sectors.any (fun x => x.covers c q) = false ↔
      ¬ (clockwiseOf start c q < len ∨ gap ≤ clockwiseOf start c q ∧ clockwiseOf start c q < gap + len') := by
    rw [← hcov q hq, Bool.eq_false_iff]
  have dist (q : Nat) (hq : q < c) (hn : ¬ clockwiseOf start c q < len) := 
    circularDistance_clockwise start c pos q hs hp hq (by omega)
  have hlt (q : Nat) (hq : q < c) : clockwiseOf start c q < c := by
    unfold clockwiseOf
    (repeat' split) <;> omega
  have dlo := dist lo hlolt (by rw [hloc]; (repeat' split) <;> omega)
  have dup := dist up huplt (by rw [hupc]; (repeat' split) <;> omega)
  rw [hloc] at dlo
  rw [hupc] at dup
  have hback : ((pos : Int) - circularDistance pos lo c) % c = lo := by
    have hc := hloc
    rw [emod_turn _ c (by omega) (by omega), dlo]
    unfold clockwiseOf at hu hc ⊢
    (repeat' split at hu) <;> (repeat' split at hc) <;> (repeat' split) <;> omega
  by_cases hle : circularDistance pos lo c ≤ circularDistance pos up c
  · rw [if_pos hle]
    refine ⟨hlolt, (free lo hlolt).mpr (by rw [hloc]; (repeat' split) <;> omega), fun q hq hfr => ?_⟩
    have hn := (free q hq).mp hfr
    have dq := dist q hq (fun k => hn (.inl k))
    have := hlt q hq
    refine ⟨?_, fun _ => .inr hback.symm⟩
    rw [dlo] at hle ⊢
    rw [dup] at hle
    rw [dq]
    (repeat' split at hle) <;> (repeat' split) <;> omega
  · rw [if_neg hle]
    refine ⟨huplt, (free up huplt).mpr (by rw [hupc]; (repeat' split) <;> omega), fun q hq hfr => ?_⟩
    have hn := (free q hq).mp hfr
    have dq := dist q hq (fun k => hn (.inl k))
    have := hlt q hq
    rw [dlo, dup] at hle
    rw [dup, dq]
    refine ⟨by (repeat' split at hle) <;> (repeat' split) <;> omega, fun he => .inl ?_⟩
    refine clockwiseOf_injective start c q up hs hq huplt ?_
    rw [hupc]
    (repeat' split at hle) <;> (repeat' split at he) <;> (repeat' split) <;> omega

end Sys2Proof.Machine
end

section
/-! PROOFS. The move that the proposal test finds (06 R104 to R107). -/

namespace Sys2Proof.Machine

/-! ### The sectors of a valid record -/

/-- What validation says of the sectors of a record (02 R30, R31). -/
structure Params.SectorsHeld (p : Params) : Prop where
  counts : 720 ≤ p.counts
  count : p.sectorCount ≤ 2
  start1 : p.sectorCount ≠ 0 → p.sector1Start < p.counts
  length1 : p.sectorCount ≠ 0 → p.sector1Length ≤ p.counts / 4
  start2 : 2 ≤ p.sectorCount → p.sector2Start < p.counts
  length2 : 2 ≤ p.sectorCount → p.sector2Length ≤ p.counts / 4
  apart : 2 ≤ p.sectorCount → (p.sector1Length : Int) ≤ ((p.sector2Start : Int) - p.sector1Start) % p.counts ∧
    (p.sector2Length : Int) ≤ ((p.sector1Start : Int) - p.sector2Start) % p.counts
  nonempty : 2 ≤ p.sectorCount → 0 < p.sector1Length ∧ 0 < p.sector2Length

theorem validate_sectors {own : Station} {p : Params} (h : validate own p = none) : p.SectorsHeld := by
  have k := (validate_none_iff own p).mp h
  obtain ⟨h18, _⟩ := (k 18 (by decide) (by decide) : 720 ≤ p.counts ∧ p.counts ≤ 16384)
  have h24 := (k 24 (by decide) (by decide) : p.sectorCount ≤ 2)
  have h25 := (k 25 (by decide) (by decide) : p.sectorCount ≠ 0 → p.sector1Start % 16 = 0 ∧ p.sector1Start < p.counts)
  have h26 := (k 26 (by decide) (by decide) : p.sectorCount ≠ 0 →
    p.sector1Length % 16 = 0 ∧ 16 ≤ p.sector1Length ∧ p.sector1Length ≤ p.counts / 4)
  have h27 := (k 27 (by decide) (by decide) : 2 ≤ p.sectorCount → p.sector2Start % 16 = 0 ∧ p.sector2Start < p.counts)
  have h28 := (k 28 (by decide) (by decide) : 2 ≤ p.sectorCount →
    p.sector2Length % 16 = 0 ∧ 16 ≤ p.sector2Length ∧ p.sector2Length ≤ p.counts / 4 ∧
      (p.sector1Length : Int) ≤ ((p.sector2Start : Int) - p.sector1Start) % p.counts ∧
      (p.sector2Length : Int) ≤ ((p.sector1Start : Int) - p.sector2Start) % p.counts)
  exact
    { counts := h18
      count := h24
      start1 := fun h => (h25 h).2
      length1 := fun h => (h26 h).2.2
      start2 := fun h => (h27 h).2
      length2 := fun h => (h28 h).2.2.1
      apart := fun h => (h28 h).2.2.2
      nonempty := fun h => ⟨by have := (h26 (by omega)).2.1; omega, by have := (h28 h).2.1; omega⟩ }

/-- Whether a position lies in another sector, by what lies between the starts. -/
theorem clockwise_other (start start' c q len' : Nat) (hs : start < c) (hs' : start' < c) (hq : q < c)
    (hl : len' ≤ clockwiseOf start' c start) (hne : start ≠ start') :
    clockwiseOf start' c q < len' ↔
      clockwiseOf start c start' ≤ clockwiseOf start c q ∧ clockwiseOf start c q < clockwiseOf start c start' + len' := by
  unfold clockwiseOf at hl ⊢
  (repeat' split at hl) <;> (repeat' split) <;> omega

/-- One sector alone. -/
theorem keepout_one (c start len : Nat) (hc : 720 ≤ c) (hs : start < c) (hl : len ≤ c / 4) :
    Keepout [{ start := start, length := len }] c start len (len + 1) 0 where
  start_lt := hs
  half := by omega
  behind := by omega
  before := by omega
  covered q hq := by
    have h := covers_iff { start := start, length := len } c q (by omega)
    dsimp only at h
    rw [emod_clockwiseOf start c q hs hq] at h
    simp only [List.any_cons, List.any_nil, Bool.or_false, h]
    omega

/-- Two sectors apart, seen from either. -/
theorem keepout_two (sectors : List Sector) (c start len start' len' : Nat) (hc : 720 ≤ c) (hs : start < c) (hs' : start' < c)
    (hl : len ≤ c / 4) (hl' : len' ≤ c / 4) (hpos : 0 < len)
    (ha : (len : Int) ≤ ((start' : Int) - start) % c) (ha' : (len' : Int) ≤ ((start : Int) - start') % c)
    (hany : ∀ q, sectors.any (fun x => x.covers c q) =
      (Sector.covers { start := start, length := len } c q || Sector.covers { start := start', length := len' } c q)) :
    Keepout sectors c start len (clockwiseOf start c start') len' := by
  rw [emod_clockwiseOf start c start' hs hs'] at ha
  rw [emod_clockwiseOf start' c start hs' hs] at ha'
  have hne : start ≠ start' := by
    rintro rfl
    unfold clockwiseOf at ha
    rw [if_pos (Nat.le_refl _)] at ha
    omega
  refine ⟨hs, by omega, by omega, ?_, fun q hq => ?_⟩
  · unfold clockwiseOf at ha' ⊢
    (repeat' split at ha') <;> (repeat' split) <;> omega
  · have h := covers_iff { start := start, length := len } c q (by omega)
    have h' := covers_iff { start := start', length := len' } c q (by omega)
    dsimp only at h h'
    rw [emod_clockwiseOf start c q hs hq] at h
    rw [emod_clockwiseOf start' c q hs' hq] at h'
    rw [hany, Bool.or_eq_true, h, h', ← clockwise_other start start' c q len' hs hs' hq (by omega) hne]
    omega

/-- A covered position lies in a sector seen with the other one beside it. -/
theorem Params.SectorsHeld.keepout {p : Params} (h : p.SectorsHeld) {x : Sector} {pos : Nat} (hp : pos < p.counts)
    (hx : p.sectors.find? (fun x => x.covers p.counts pos) = some x) :
    ∃ gap len', Keepout p.sectors p.counts x.start x.length gap len' ∧ clockwiseOf x.start p.counts pos < x.length := by
  obtain ⟨hc, hcount, hs1, hl1, hs2, hl2, hap, hne⟩ := h
  have hmem := List.mem_of_find?_eq_some hx
  have hcov := List.find?_some hx
  rw [covers_iff x p.counts pos (by omega)] at hcov
  have inside (hs : x.start < p.counts) : clockwiseOf x.start p.counts pos < x.length := by
    rw [emod_clockwiseOf x.start p.counts pos hs hp] at hcov
    omega
  unfold Params.sectors at hmem ⊢
  rcases (by omega : p.sectorCount = 0 ∨ p.sectorCount = 1 ∨ p.sectorCount = 2) with hn | hn | hn <;> rw [hn] at hmem ⊢
  · cases hmem
  · rw [List.take_succ_cons, List.take_zero, List.mem_singleton] at hmem
    subst hmem
    exact ⟨_, _, keepout_one _ _ _ hc (hs1 (by omega)) (hl1 (by omega)), inside (hs1 (by omega))⟩
  · obtain ⟨ha, ha'⟩ := hap (by omega)
    obtain ⟨hp1, hp2⟩ := hne (by omega)
    rw [List.take_succ_cons, List.take_succ_cons, List.take_zero, List.mem_cons, List.mem_singleton] at hmem
    rcases hmem with rfl | rfl
    · refine ⟨_, _, keepout_two _ _ _ _ p.sector2Start p.sector2Length hc (hs1 (by omega)) (hs2 (by omega)) (hl1 (by omega))
        (hl2 (by omega)) hp1 ha ha' (fun q => ?_), inside (hs1 (by omega))⟩
      simp
    · refine ⟨_, _, keepout_two _ _ _ _ p.sector1Start p.sector1Length hc (hs2 (by omega)) (hs1 (by omega)) (hl2 (by omega))
        (hl1 (by omega)) hp2 ha' ha (fun q => ?_), inside (hs2 (by omega))⟩
      simp [Bool.or_comm]

theorem circularDistance_self (p c : Nat) : circularDistance p p c = 0 := by
  unfold circularDistance signedTurn
  simp

theorem circularDistance_zero {p q c : Nat} (hp : p < c) (hq : q < c) (h : circularDistance p q c = 0) : q = p := by
  rw [circularDistance_eq p q c hp hq] at h
  unfold clockwiseOf at h
  (repeat' split at h) <;> omega

/-- The target moved out of the sectors of a valid record (06 R106). -/
theorem Params.SectorsHeld.clampTarget {p : Params} (h : p.SectorsHeld) (pos : Nat) (hp : pos < p.counts) :
    NearestFree p.sectors p.counts pos (clampTarget p.sectors p.counts pos) ∧
      (p.sectors.any (fun x => x.covers p.counts pos) = false → clampTarget p.sectors p.counts pos = pos) := by
  unfold Sys2Proof.Machine.clampTarget
  cases hx : p.sectors.find? (fun x => x.covers p.counts pos) with
  | none =>
    have hfree : p.sectors.any (fun x => x.covers p.counts pos) = false := by
      rw [List.any_eq_false]
      exact List.find?_eq_none.mp hx
    refine ⟨⟨hp, hfree, fun q hq _ => ?_⟩, fun _ => rfl⟩
    dsimp only
    rw [circularDistance_self]
    exact ⟨Nat.zero_le _, fun he => .inl (circularDistance_zero hp hq he.symm)⟩
  | some x =>
    obtain ⟨gap, len', hk, hu⟩ := h.keepout hp hx
    refine ⟨hk.nearest pos hp hu, fun hf => ?_⟩
    rw [List.any_eq_false] at hf
    exact absurd (List.find?_some hx) (hf x (List.mem_of_find?_eq_some hx))

/-! ### Offsets and paths -/

theorem alignOffset_rounds (mean : Int) (c : Nat) (hm : mean ≠ 0) :
    3600 * (alignOffset mean c).natAbs ≤ mean.natAbs * c + 1800 ∧ mean.natAbs * c < 3600 * (alignOffset mean c).natAbs + 1800 ∧
      0 ≤ alignOffset mean c * mean := by
  unfold alignOffset signOf
  generalize mean.natAbs * c = k
  rcases Int.lt_or_gt_of_ne hm with h | h
  · rw [if_pos h]
    refine ⟨by omega, by omega, ?_⟩
    rw [Int.neg_mul, Int.one_mul]
    exact Int.mul_nonneg_of_nonpos_of_nonpos (by omega) (by omega)
  · rw [if_neg (by omega), if_neg hm]
    refine ⟨by omega, by omega, ?_⟩
    rw [Int.one_mul]
    exact Int.mul_nonneg (by omega) (by omega)

/-- The path of an UNTWIST move (06 R104). -/
theorem untwistPath_turns (w : Int) (c : Nat) (hc : 0 < c) (hw : c ≤ w.natAbs) : ∃ n : Int, untwistPath w c = n * c ∧
    (w + n * c).natAbs < c ∧ (w + n * c).natAbs + (n * c).natAbs = w.natAbs ∧ n ≠ 0 := by
  have hdiv : 1 ≤ w.natAbs / c := (Nat.one_le_div_iff hc).mpr hw
  have hmod := Nat.mod_lt w.natAbs hc
  have hsum : w.natAbs / c * c + w.natAbs % c = w.natAbs := Nat.div_add_mod' _ _
  refine ⟨-(signOf w) * ((w.natAbs / c : Nat) : Int), ?_, ?_⟩
  · unfold untwistPath
    rw [Int.natCast_mul, Int.mul_assoc]
  · have hprod : -(signOf w) * ((w.natAbs / c : Nat) : Int) * c = -(signOf w) * ((w.natAbs / c * c : Nat) : Int) := by
      rw [Int.natCast_mul, Int.mul_assoc]
    rw [hprod]
    generalize w.natAbs / c * c = k at hsum
    generalize w.natAbs % c = r at hsum hmod
    generalize w.natAbs / c = n at hdiv
    unfold signOf
    (repeat' split) <;> omega

theorem signedTurn_range (x : Int) (c : Nat) (hc : 0 < c) :
    -(c : Int) < 2 * signedTurn x c ∧ 2 * signedTurn x c ≤ c ∧ signedTurn x c % c = x % c := by
  have h0 := Int.emod_nonneg x (show (c : Int) ≠ 0 by omega)
  have h1 := Int.emod_lt_of_pos x (show 0 < (c : Int) by omega)
  unfold signedTurn
  dsimp only
  split
  · exact ⟨by omega, by omega, Int.emod_emod_of_dvd _ (Int.dvd_refl _)⟩
  · refine ⟨by omega, by omega, ?_⟩
    rw [Int.sub_emod_right, Int.emod_emod_of_dvd _ (Int.dvd_refl _)]

/-- The path d to a target leads there. -/
theorem signedTurn_leads (pos t c : Nat) (ht : t < c) :
    ((pos : Int) + signedTurn ((t : Int) - (pos : Int)) c) % c = (t : Int) := by
  rw [Int.add_emod, (signedTurn_range _ c (by omega)).2.2, ← Int.add_emod,
    show (pos : Int) + ((t : Int) - pos) = t by omega, Int.emod_eq_of_lt (by omega) (by omega)]

/-- Settles O38: the UNTWIST move, and the ALIGN move by its offset, target and path. -/
theorem movesFound : Obligations.MovesFound := by
  intro s hrec hcfg c w untwists mean aligns
  obtain ⟨p, hp, hval⟩ : ∃ p, s.icu.params = some p ∧ validate s.own p = none := by
    unfold State.RecordHeld at hrec
    unfold State.configured at hcfg
    rw [beq_iff_eq] at hcfg
    rw [hcfg] at hrec
    cases hp : s.icu.params with
    | none =>
      rw [hp] at hrec
      exact hrec.elim
    | some p =>
      rw [hp] at hrec
      exact ⟨p, rfl, hrec.1⟩
  have hprm : s.prm = p := by
    unfold State.prm
    rw [hp]
    rfl
  have hsec := validate_sectors hval
  rw [← hprm] at hsec hval
  have hk := (validate_none_iff _ _).mp hval
  obtain ⟨h21, _⟩ := (hk 21 (by decide) (by decide) :
    s.prm.counts ≤ s.prm.untwistThreshold ∧ s.prm.untwistThreshold ≤ s.prm.twistLimit - 1)
  obtain ⟨h29, _⟩ := (hk 29 (by decide) (by decide) : 20 ≤ s.prm.misalignment ∧ s.prm.misalignment ≤ 450)
  have hc0 := hsec.counts
  have hun : (s.prm.untwistThreshold ≤ s.ywc.twist.natAbs ∧ (match s.windSpeed with
      | some v => decide (v ≤ s.prm.untwistWind)
      | none => false) = true) ↔ untwists := by
    unfold State.windSpeed
    cases hf : s.ptb.wind.fresh <;> simp [untwists, hf, w]
  have htest : s.proposalTest = if untwists then
        .plan { purpose := .untwist, path := untwistPath s.ywc.twist s.prm.counts, target := s.ywc.position }
      else match windowMean s.ywc.window with
        | some mean =>
          if s.prm.misalignment ≤ mean.natAbs then
            alignFinding s.ywc.position (clampTarget s.prm.sectors s.prm.counts
              (turnBy s.ywc.position (alignOffset mean s.prm.counts) s.prm.counts)) s.prm.counts s.prm.twistLimit s.ywc.twist
          else .nothing
        | none => .nothing := by
    unfold State.proposalTest
    dsimp only
    exact ite_congr (propext hun) (fun _ => rfl) fun _ => rfl
  refine ⟨fun hu => ?_, fun hu ha => ?_, fun hu ha => ?_⟩
  · obtain ⟨n, h1, h2, h3, h4⟩ := untwistPath_turns w s.prm.counts (by omega) (Nat.le_trans h21 hu.1)
    refine ⟨n, ?_, h2, h3, h4⟩
    rw [htest, if_pos hu, ← h1]
  · rw [htest, if_neg hu]
    unfold windowMean
    by_cases hlen : s.ywc.window.length = 16
    · rw [if_pos hlen]
      exact if_neg fun k => ha ⟨hlen, k⟩
    · rw [if_neg hlen]
  · obtain ⟨hlen, hmis⟩ := ha
    have hfind : s.proposalTest = alignFinding s.ywc.position (clampTarget s.prm.sectors s.prm.counts
        (turnBy s.ywc.position (alignOffset mean s.prm.counts) s.prm.counts)) s.prm.counts s.prm.twistLimit s.ywc.twist := by
      rw [htest, if_neg hu]
      unfold windowMean
      rw [if_pos hlen]
      exact if_pos hmis
    have hpos0 := Int.emod_nonneg ((s.ywc.position : Int) + alignOffset mean s.prm.counts) (show c ≠ 0 by omega)
    have hpos1 := Int.emod_lt_of_pos ((s.ywc.position : Int) + alignOffset mean s.prm.counts) (show 0 < c by omega)
    have hpos : (turnBy s.ywc.position (alignOffset mean s.prm.counts) s.prm.counts : Int) =
        ((s.ywc.position : Int) + alignOffset mean s.prm.counts) % c := Int.toNat_of_nonneg hpos0
    obtain ⟨⟨htlt, htfree, hnear⟩, hsame⟩ := hsec.clampTarget
      (turnBy s.ywc.position (alignOffset mean s.prm.counts) s.prm.counts) (by omega)
    generalize ht : clampTarget s.prm.sectors s.prm.counts
      (turnBy s.ywc.position (alignOffset mean s.prm.counts) s.prm.counts) = t at hfind htlt htfree hnear hsame
    have hforb (q : Nat) : s.prm.sectors.any (fun x => x.covers s.prm.counts q) = false ↔ ¬ s.prm.Forbids q := by
      rw [← forbids_iff s.prm q (by omega) hsec.count, Bool.eq_false_iff]
    have hnat : (((s.ywc.position : Int) + alignOffset mean s.prm.counts) % c).toNat =
        turnBy s.ywc.position (alignOffset mean s.prm.counts) s.prm.counts := rfl
    have hrange := signedTurn_range ((t : Int) - (s.ywc.position : Int)) s.prm.counts (by omega)
    refine ⟨alignOffset mean s.prm.counts, signedTurn ((t : Int) - (s.ywc.position : Int)) s.prm.counts, t,
      alignOffset_rounds mean s.prm.counts (by omega), htlt, (hforb t).mp htfree, fun hn => ?_, fun q hq hn => ?_,
      ⟨hrange.1, hrange.2.1, signedTurn_leads _ _ _ htlt⟩, ?_⟩
    · exact hsame ((hforb _).mpr hn)
    · rw [hnat, ← hpos]
      exact hnear q hq ((hforb q).mpr hn)
    · rw [hfind]
      unfold alignFinding
      dsimp only
      generalize signedTurn ((t : Int) - (s.ywc.position : Int)) s.prm.counts = d
      have hfar : d ≠ 0 → d - (s.prm.counts : Int) * signOf d = if 0 < d then d - c else d + c := by
        intro hd
        unfold signOf
        (repeat' split) <;> omega
      refine ⟨fun h0 => if_pos h0, fun h0 h1 => ?_, fun h0 h1 h2 => ?_, fun h0 h1 h2 => ?_⟩
      · rw [if_neg h0, if_pos h1]
      · rw [if_neg h0, if_neg (by omega), hfar h0, if_pos h2]
      · rw [if_neg h0, if_neg (by omega), hfar h0, if_neg (by omega)]

end Sys2Proof.Machine
end

section
/-! SUPPORT. What the taking of requests leaves of the start hold and of the pump-latch, and what it takes out of the condition
set (08 R141; 10 R168, R169, R176). -/

namespace Sys2Proof.Machine

/-! ### Requests that bring no pump-latch -/

/-- The requests whose taking turns no pump-latch on. -/
def Request.sparesPump : Request → Bool
  | .raised c _ o => !(c.actions o).pumpLatch
  | .cleared _ => true

theorem Request.sparesPump_of_isTrip {r : Request} (h : r.isTrip = true) : r.sparesPump = true := by
  cases r with
  | raised c v o => cases c <;> first | rfl | cases h
  | cleared c => rfl

/-- The CLC without its latch and without the held request. -/
def State.unlatched (s : State) : Clc := { s.clc with heldPump := none, latch := false }

theorem State.unlatched_of_coolant {s t : State} (h : t.coolant = s.coolant) : t.unlatched = s.unlatched :=
  (congrArg (fun c : Clc => { c with latch := false }) h :)

theorem State.latch_of_coolant {s t : State} (h : t.coolant = s.coolant) : t.clc.latch = s.clc.latch :=
  (congrArg Clc.latch h :)

theorem any_pumpLatch_joinSet (c : Code) (a : Actions) (ms : List Member) (h : a.pumpLatch = false) :
    (joinSet c a ms).any (fun m => m.actions.pumpLatch) = ms.any (fun m => m.actions.pumpLatch) := by
  induction ms with
  | nil => simp [joinSet, h]
  | cons m rest ih =>
    unfold joinSet
    split
    · simp [Actions.join, h]
    · simp only [List.any_cons, ih]

theorem any_pumpLatch_filter (c : Code) (ms : List Member)
    (h : (ms.filter (fun m => m.code != c)).any (fun m => m.actions.pumpLatch) = true) :
    ms.any (fun m => m.actions.pumpLatch) = true := by
  obtain ⟨m, hm, hy⟩ := List.any_eq_true.mp h
  exact List.any_eq_true.mpr ⟨m, (List.mem_filter.mp hm).1, hy⟩

/-- Forming the indications again changes the CLC by a pump-latch indication at most. -/
theorem State.indicate_clc (s : State) : ∃ x : State, x.coolant = s.coolant ∧
    s.indicate = if s.flu.members.any (fun m => m.actions.pumpLatch) = s.flu.pumpLatch then x
      else x.clcLatch (s.flu.members.any (fun m => m.actions.pumpLatch)) := by
  have go {y : State} (hy : y.coolant = s.coolant) (c : Prop) [Decidable c] (f : State → State)
      (hf : (f y).coolant = y.coolant) : (if c then y else f y).coolant = s.coolant := by
    split
    · exact hy
    · exact hf.trans hy
  unfold State.indicate
  dsimp only
  generalize hx : ({ s with flu := { s.flu with
    exponent := exponentOf s.flu.members
    stringLatch := s.flu.members.any (fun m => m.actions.stringLatch)
    yawLock := s.flu.members.any (fun m => m.actions.yawLock)
    pumpLatch := s.flu.members.any (fun m => m.actions.pumpLatch) } } : State) = x
  have h0 : x.coolant = s.coolant := by
    rw [← hx]
    rfl
  exact ⟨_, go (go (go h0 _ (fun y => y.stcDerate _) (State.stcDerate_coolant _ _)) _ (fun y => y.stcLatch _)
    (State.stcLatch_coolant _ _)) _ (fun y => y.ywcLock _) (State.ywcLock_coolant _ _), rfl⟩

/-- Indications formed again from members that latch nothing new leave the start hold. -/
theorem State.indicate_spared (s : State)
    (h : s.flu.members.any (fun m => m.actions.pumpLatch) = true → s.flu.pumpLatch = true) :
    s.indicate.unlatched = s.unlatched := by
  obtain ⟨x, hx, he⟩ := s.indicate_clc
  rw [he]
  split
  · exact State.unlatched_of_coolant hx
  · rename_i hne
    cases hm : s.flu.members.any (fun m => m.actions.pumpLatch) with
    | true => exact absurd (hm.trans (h hm).symm) hne
    | false =>
      refine Eq.trans ?_ (State.unlatched_of_coolant hx)
      rfl

theorem State.joined_spared (s : State) (h : s.Indicated) (code : Code) (o : Option Origin)
    (ha : (code.actions o).pumpLatch = false) : (s.joined code o).unlatched = s.unlatched := by
  unfold State.joined
  split
  · refine State.indicate_spared { s with flu := { s.flu with members := joinSet code (code.actions o) s.flu.members } } ?_
    show (joinSet _ _ _).any _ = true → _
    rw [any_pumpLatch_joinSet _ _ _ ha]
    exact h.2.2.2.1.trans
  · rfl

/-- The taking of a request that spares the pump leaves the CLC, and no member that latches joins the set. -/
theorem State.serve_spared (s : State) (r : Request) (h : s.Indicated) (hr : r.sparesPump = true) :
    (s.serve r).unlatched = s.unlatched ∧ ((s.serve r).flu.members.any (fun m => m.actions.pumpLatch) = true →
      s.flu.members.any (fun m => m.actions.pumpLatch) = true) := by
  cases r with
  | raised code v o =>
    have ha : (code.actions o).pumpLatch = false := by
      unfold Request.sparesPump at hr
      exact (Bool.not_eq_true' _).mp hr
    have hact : (s.acted code o).unlatched = s.unlatched := by
      unfold State.acted
      split
      · exact (State.unlatched_of_coolant (by simp)).trans (s.joined_spared h code o ha)
      · exact s.joined_spared h code o ha
    constructor
    · rw [State.serve, State.takeRaise_eq]
      split
      · exact (State.unlatched_of_coolant (by simp)).trans hact
      · exact (State.unlatched_of_coolant (by simp)).trans hact
    · intro k
      have hm : (s.takeRaise code v o).flu.members.any (fun m => m.actions.pumpLatch) = true := k
      rw [State.takeRaise_members] at hm
      split at hm
      · rw [any_pumpLatch_joinSet _ _ _ ha] at hm
        exact hm
      · exact hm
  | cleared code =>
    constructor
    · show (s.takeClear code).unlatched = s.unlatched
      unfold State.takeClear
      split
      · rfl
      · exact State.indicate_spared { s with flu := { s.flu with members := s.flu.members.filter (fun m => m.code != code) } }
          (fun k => h.2.2.2.1.trans (any_pumpLatch_filter code _ k))
    · intro k
      have hm : (s.takeClear code).flu.members.any (fun m => m.actions.pumpLatch) = true := k
      rw [State.takeClear_members] at hm
      split at hm
      · exact hm
      · exact any_pumpLatch_filter code _ hm

theorem State.settleWithin_spared (n : Nat) (s : State) (h : s.Indicated) (hr : ∀ r ∈ s.requests, r.sparesPump = true) :
    (s.settleWithin n).unlatched = s.unlatched ∧ ((s.settleWithin n).flu.members.any (fun m => m.actions.pumpLatch) = true →
      s.flu.members.any (fun m => m.actions.pumpLatch) = true) ∧ (s.settleWithin n).Indicated := by
  induction n generalizing s with
  | zero => exact ⟨rfl, id, h⟩
  | succ n ih =>
    unfold State.settleWithin
    split
    · exact ⟨rfl, id, h⟩
    · rename_i r rest hs
      have hin : s.requests = r :: rest := hs
      rw [hin] at hr
      generalize hx : ({ s with flu := { s.flu with inbox := rest } } : State) = x
      have hxi : x.Indicated := by
        rw [← hx]
        exact h
      have hi : (x.serve r).Indicated := by
        cases r with
        | raised code v o => exact State.takeRaise_indicated _ code v o hxi
        | cleared code => exact State.takeClear_indicated _ code hxi
      obtain ⟨h1, h2⟩ := x.serve_spared r hxi (hr r List.mem_cons_self)
      obtain ⟨k1, k2, k3⟩ := ih (x.serve r) hi (by
        obtain ⟨l, hl, ht, _⟩ := s.serve_requests r (rest := rest)
        rw [← hx, hl]
        intro q hq
        rcases List.mem_append.mp hq with hq | hq
        · exact hr q (List.mem_cons_of_mem _ hq)
        · exact Request.sparesPump_of_isTrip (ht q hq))
      exact ⟨k1.trans (h1.trans (by rw [← hx]; rfl)), fun k => by have := h2 (k2 k); rwa [← hx] at this, k3⟩

/-- A state whose CLC is another's but for the held request and for a pump-latch that may have gone off. -/
structure State.Spares (s t : State) : Prop where
  clc : t.unlatched = s.unlatched
  latch : s.clc.latch = false → t.clc.latch = false

theorem State.Spares.refl (s : State) : s.Spares s := ⟨rfl, id⟩

theorem State.Spares.trans {s t u : State} (h : s.Spares t) (k : t.Spares u) : s.Spares u :=
  ⟨k.clc.trans h.clc, fun hs => k.latch (h.latch hs)⟩

theorem State.Spares.of_coolant {s t : State} (h : t.coolant = s.coolant) : s.Spares t :=
  ⟨State.unlatched_of_coolant h, fun k => (State.latch_of_coolant h).trans k⟩

/-- The taking of requests that spare the pump. -/
theorem State.settle_spares (s : State) (h : s.Indicated) (hr : ∀ r ∈ s.requests, r.sparesPump = true) : s.Spares s.settle := by
  obtain ⟨h1, h2, h3⟩ := s.settleWithin_spared 32 h hr
  refine ⟨h1, fun k => ?_⟩
  have hs : s.flu.members.any (fun m => m.actions.pumpLatch) = false :=
    h.2.2.2.1.symm.trans (h.2.2.2.2.2.2.2.symm.trans k)
  refine (h3.2.2.2.2.2.2.2.trans h3.2.2.2.1).trans ?_
  rw [Bool.eq_false_iff]
  intro hm
  rw [h2 hm] at hs
  cases hs

/-! ### The start hold under the latch -/

/-- No start hold runs under the pump-latch (08 R141). -/
def State.HoldsOff (s : State) : Prop := s.clc.latch = true → s.clc.startHold = none

theorem State.HoldsOff.of_coolant {s t : State} (h : s.HoldsOff) (hc : t.coolant = s.coolant) : t.HoldsOff := fun k =>
  (congrArg Clc.startHold hc :).trans (h ((State.latch_of_coolant hc).symm.trans k))

theorem State.HoldsOff.indicate {s : State} (h : s.HoldsOff) : s.indicate.HoldsOff := by
  obtain ⟨x, hx, he⟩ := s.indicate_clc
  rw [he]
  split
  · exact h.of_coolant hx
  · generalize s.flu.members.any (fun m => m.actions.pumpLatch) = on
    cases on with
    | true => exact fun _ => rfl
    | false => exact fun k => by cases k

theorem State.HoldsOff.serve {s : State} (h : s.HoldsOff) (r : Request) : (s.serve r).HoldsOff := by
  cases r with
  | raised code v o =>
    have hj : (s.joined code o).HoldsOff := by
      unfold State.joined
      split
      · exact State.HoldsOff.indicate (by exact h)
      · exact h
    have ha : (s.acted code o).HoldsOff := by
      unfold State.acted
      split
      · exact hj.of_coolant (by simp)
      · exact hj
    rw [State.serve, State.takeRaise_eq]
    split
    · exact ha.of_coolant (by simp)
    · exact ha.of_coolant (by simp)
  | cleared code =>
    show (s.takeClear code).HoldsOff
    unfold State.takeClear
    split
    · exact h
    · exact State.HoldsOff.indicate (by exact h)

theorem State.HoldsOff.settleWithin {s : State} (h : s.HoldsOff) (n : Nat) : (s.settleWithin n).HoldsOff := by
  induction n generalizing s with
  | zero => exact h
  | succ n ih =>
    unfold State.settleWithin
    split
    · exact h
    · exact ih (State.HoldsOff.serve (by exact h) _)

theorem State.HoldsOff.settle {s : State} (h : s.HoldsOff) : s.settle.HoldsOff := h.settleWithin 32

/-! ### Clears -/

/-- A clear that waits, of a code that no request raises, takes its code out of the set. -/
theorem State.settleWithin_cleared (n : Nat) (s : State) {c : Code} (hc : c ≠ .repeatedTrips) (hk : c.isCondition = true)
    (hl : c.isLatched = false) (h : .cleared c ∈ s.requests) (hr : ∀ r ∈ s.requests, ∀ v o, r ≠ .raised c v o)
    (hn : s.load ≤ n) : inMembers c (s.settleWithin n).flu.members = false := by
  induction n generalizing s with
  | zero =>
    have hlen : s.requests.length ≠ 0 := fun h0 => by
      rw [List.eq_nil_of_length_eq_zero h0] at h
      cases h
    unfold State.load at hn
    omega
  | succ n ih =>
    unfold State.settleWithin
    split
    · rename_i hs
      have hin : s.requests = [] := hs
      rw [hin] at h
      cases h
    · rename_i r rest hs
      have hin : s.requests = r :: rest := hs
      unfold State.load at hn
      rw [hin] at h hr hn
      obtain ⟨l, hlist, ht, hlen⟩ := s.serve_requests r (rest := rest)
      have hr' : ∀ q ∈ (State.serve { s with flu := { s.flu with inbox := rest } } r).requests, ∀ v o, q ≠ .raised c v o := by
        rw [hlist]
        intro q hq v o he
        rcases List.mem_append.mp hq with hq | hq
        · exact hr q (List.mem_cons_of_mem _ hq) v o he
        · have := ht q hq
          rw [he, Request.isTrip_raised hc hk] at this
          cases this
      rcases List.mem_cons.mp h with rfl | h
      · refine State.settleWithin_absent c hc hk n _ ?_ hr'
        show inMembers c (State.takeClear _ c).flu.members = false
        rw [State.takeClear_members, hl, Bool.false_or]
        split
        · rename_i hm
          rw [Bool.not_eq_true'] at hm
          exact hm
        · exact (inMembers_filter _ _ _).trans (by simp)
      · refine ih _ (by rw [hlist]; exact List.mem_append_left l h) hr' ?_
        unfold State.load
        rw [hlist, List.length_append]
        rw [List.length_cons] at hn
        omega

theorem State.settle_cleared (s : State) {c : Code} (hc : c ≠ .repeatedTrips) (hk : c.isCondition = true)
    (hl : c.isLatched = false) (h : .cleared c ∈ s.requests) (hr : ∀ r ∈ s.requests, ∀ v o, r ≠ .raised c v o)
    (hn : s.requests.length ≤ 29) : inMembers c s.settle.flu.members = false :=
  s.settleWithin_cleared 32 hc hk hl h hr (by have := s.stc.state.spare_le; unfold State.load; omega)

end Sys2Proof.Machine
end

section
/-! SUPPORT. A loop view change by the state of the own pump (08 R136, R138, R139, R143 to R145). -/

namespace Sys2Proof.Machine

/-! ### What the tests read -/

theorem State.Keeps.calm {s t : State} (h : s.Keeps t) (k : s.Calm) : t.Calm := ⟨h.idle k.1, h.indicated k.2⟩

theorem State.owner_of_coolant {s t : State} (h : t.coolant = s.coolant) : t.clc.owner = s.clc.owner :=
  (congrArg Clc.owner h :)

theorem State.view_of_coolant {s t : State} (h : t.coolant = s.coolant) (p : Pump) : t.clc.view p = s.clc.view p :=
  (congrArg (fun c : Clc => c.view p) h :)

theorem State.reported_eq {s t : State} (hi : t.icu = s.icu) (p : Pump)
    (h : (if s.ownPump = some p then Reported.shown t.clc.owner else (t.clc.view p).reported) = s.reported p) :
    t.reported p = s.reported p := by
  unfold State.reported State.ownPump
  rw [hi]
  exact h

theorem State.reported_other {s : State} {p : Pump} (h : s.ownPump ≠ some p) : s.reported p = (s.clc.view p).reported := if_neg h

theorem State.ownPump_eq {s t : State} (hi : t.icu = s.icu) : t.ownPump = s.ownPump := by
  unfold State.ownPump
  rw [hi]

theorem Pump.other_ne (p : Pump) : some p ≠ some p.other := by cases p <;> decide

/-- What a state shows of a pump that is not its own rests on the roles, the presence and the view. -/
theorem State.countsRunning_other {s t : State} (hi : t.icu = s.icu) (hp : ∀ n, t.isPresent n = s.isPresent n) {p : Pump}
    (hn : s.ownPump ≠ some p) (hv : t.clc.view p = s.clc.view p) : t.countsRunning p = s.countsRunning p := by
  have hr : t.reported p = s.reported p := by
    rw [State.reported_other hn, State.reported_other (by rw [State.ownPump_eq hi]; exact hn), hv]
  unfold State.countsRunning State.ownerPresent
  rw [hr, State.ownPump_eq hi, hv]
  cases (s.clc.view p).owner with
  | none => rfl
  | some n => exact congrArg (fun b => (_ && (_ || b))) (hp n)

/-- What a state shows of every pump rests on the roles, the presence, the own owner state and the view. -/
theorem State.countsRunning_eq {s t : State} (hi : t.icu = s.icu) (hp : ∀ n, t.isPresent n = s.isPresent n)
    (ho : t.clc.owner = s.clc.owner) (hv : ∀ p, t.clc.view p = s.clc.view p) (p : Pump) :
    t.reported p = s.reported p ∧ t.countsRunning p = s.countsRunning p := by
  have hr : t.reported p = s.reported p := State.reported_eq hi p (by rw [ho, hv]; rfl)
  refine ⟨hr, ?_⟩
  unfold State.countsRunning State.ownerPresent
  rw [hr, State.ownPump_eq hi, hv]
  cases (s.clc.view p).owner with
  | none => rfl
  | some n => exact congrArg (fun b => (_ && (_ || b))) (hp n)

/-- A pump that is the own one counts as running by the owner state alone. -/
theorem State.countsRunning_own {s : State} {p : Pump} (h : s.ownPump = some p) :
    s.countsRunning p = (s.clc.owner == .running || s.clc.owner == .handingOff) := by
  have hr : s.reported p = .shown s.clc.owner := if_pos h
  unfold State.countsRunning
  dsimp only
  rw [hr, h, beq_self_eq_true (some p), Bool.true_or, Bool.and_true]
  cases s.clc.owner <;> rfl

/-- A pump reported neither RUNNING nor HANDING_OFF does not count as running. -/
theorem State.countsRunning_still {s : State} {p : Pump} (h1 : s.reported p ≠ .shown .running)
    (h2 : s.reported p ≠ .shown .handingOff) : s.countsRunning p = false := by
  unfold State.countsRunning
  simp only [beq_eq_false_iff_ne.mpr h1, beq_eq_false_iff_ne.mpr h2]
  rfl

/-- With the own pump off, the loop runs exactly where the other pump does. -/
theorem State.anyRunning_standing {s : State} {p : Pump} (h : s.ownPump = some p) (h1 : s.clc.owner ≠ .running)
    (h2 : s.clc.owner ≠ .handingOff) : s.anyRunning = s.countsRunning p.other := by
  have hown : s.countsRunning p = false := by
    rw [State.countsRunning_own h, beq_eq_false_iff_ne.mpr h1, beq_eq_false_iff_ne.mpr h2]
    rfl
  unfold State.anyRunning
  cases p with
  | a =>
    rw [hown]
    exact Bool.false_or _
  | b =>
    rw [hown]
    exact Bool.or_false _

/-! ### The tests -/

/-- The start hold of pump B's owner stopped. -/
def State.unheld (s : State) : State :=
  if s.icu.straps.pumpRole = .b then { s with clc := { s.clc with startHold := none } } else s

theorem State.unheld_spec (s : State) : s.unheld.outer = s.outer ∧ s.unheld.stc = s.stc ∧ s.unheld.flu = s.flu ∧
    s.unheld.clc = { s.clc with startHold := if s.icu.straps.pumpRole = .b then none else s.clc.startHold } := by
  unfold State.unheld
  split <;> exact ⟨rfl, rfl, rfl, rfl⟩

theorem State.unheld_keeps (s : State) : s.Keeps s.unheld := .ite _ (fun _ => s.keeps_clc _ rfl rfl rfl) fun _ => .refl s

theorem State.holdStart_unheld {s : State} (hb : s.icu.straps.pumpRole = .b) (h : (s.mayStartPump && !s.anyRunning) = false) :
    s.holdStart = s.unheld := by
  unfold State.holdStart State.unheld
  rw [if_pos hb, if_neg (by rw [h]; decide)]

/-- The condition of the start tests (08 R138, R139). -/
def State.starts (s : State) : Bool :=
  match s.icu.straps.pumpRole with
  | .noRole => false
  | .a => s.mayStartPump && !s.anyRunning
  | .b => s.mayStartPump && s.reported .a == .shown .failed

theorem State.startTests_start {s : State} (h : s.starts = true) : s.startTests = s.enterStarting := by
  unfold State.starts at h
  unfold State.startTests
  cases hr : s.icu.straps.pumpRole with
  | noRole =>
    rw [hr] at h
    cases h
  | a =>
    rw [hr] at h
    exact if_pos h
  | b =>
    rw [hr] at h
    exact if_pos h

theorem State.startTests_hold {s : State} (hb : s.icu.straps.pumpRole = .b) (h : s.starts = false) :
    s.startTests = s.holdStart := by
  unfold State.starts at h
  unfold State.startTests
  rw [hb] at h ⊢
  exact if_neg (ne_true_of_eq_false h)

/-- Where no test starts the pump and no start hold is due, the start tests stop the start hold of pump B. -/
theorem State.startTests_unheld {s : State} (h : s.starts = false) (hr : (s.mayStartPump && !s.anyRunning) = false) :
    s.startTests = s.unheld := by
  cases hrole : s.icu.straps.pumpRole with
  | b => rw [State.startTests_hold hrole h, State.holdStart_unheld hrole hr]
  | noRole =>
    unfold State.startTests State.unheld
    rw [hrole]
    rfl
  | a =>
    unfold State.startTests State.unheld
    rw [hrole, if_neg (show ¬ Role.a = .b by decide)]
    exact if_neg (by rw [hr]; decide)

theorem State.startTests_cannot {s : State} (h : s.mayStartPump = false) : s.startTests = s.unheld := by
  refine State.startTests_unheld ?_ (by rw [h]; rfl)
  unfold State.starts
  rw [h]
  split <;> rfl

theorem State.mayStartPump_owner {s : State} (h : s.clc.owner ≠ .standby) : s.mayStartPump = false := by
  unfold State.mayStartPump
  rw [beq_eq_false_iff_ne.mpr h]
  rfl

/-- The condition of the both-running test (08 R145). -/
def State.yields (s : State) : Prop :=
  s.icu.straps.pumpRole = .b ∧ s.clc.owner = .running ∧ s.clc.incoming = false ∧
    s.countsRunning .a = true ∧ s.reported .a = .shown .running

theorem State.bothRunningTest_still {s : State} (h : ¬ s.yields) : s.bothRunningTest = s := if_neg h

theorem State.outgoingTest_still {s : State} (h : s.clc.owner ≠ .handingOff) : s.outgoingTest = s := by
  unfold State.outgoingTest
  split
  · rename_i ho
    exact absurd ho h
  · rfl

theorem State.outgoingTest_hands {s : State} {p : Pump} (hp : s.ownPump = some p) (h : s.clc.owner = .handingOff) :
    s.outgoingTest =
      if s.countsRunning p.other = true ∧ s.reported p.other = .shown .running then s.changeOwner .standby
      else if s.reported p.other = .shown .failed then s.enterRunning else s := by
  unfold State.outgoingTest
  rw [hp, h]

/-! ### The loop view change -/

/-- A view test round that leaves the owner as it stands ends with the flow test. -/
theorem State.viewTests_rests (n : Nat) {s a : State} (hs : s.startTests = a) (ho : a.clc.owner = s.clc.owner)
    (hb : a.bothRunningTest = a) (hg : a.outgoingTest = a) : State.viewTests (n + 1) s = a.flowTest := by
  unfold State.viewTests
  dsimp only
  rw [hs, if_neg (fun k => k ho), hb, if_neg (fun k => k ho), hg, if_neg (fun k => k ho)]

theorem State.unheld_owner (s : State) : s.unheld.clc.owner = s.clc.owner := by
  obtain ⟨_, _, _, h⟩ := s.unheld_spec
  rw [h]

theorem State.unheld_icu (s : State) : s.unheld.icu = s.icu := (congrArg Outer.icu s.unheld_spec.1 :)

theorem State.unheld_ptb (s : State) : s.unheld.ptb = s.ptb := (congrArg Outer.ptb s.unheld_spec.1 :)

theorem State.isPresent_eq {s t : State} (h : t.ptb = s.ptb) (n : Station) : t.isPresent n = s.isPresent n := by
  unfold State.isPresent State.peer
  rw [h]

theorem State.unheld_view (s : State) (p : Pump) : s.unheld.clc.view p = s.clc.view p := by
  obtain ⟨_, _, _, h⟩ := s.unheld_spec
  rw [h]
  cases p <;> rfl

theorem State.unheld_running (s : State) (p : Pump) :
    s.unheld.reported p = s.reported p ∧ s.unheld.countsRunning p = s.countsRunning p :=
  State.countsRunning_eq s.unheld_icu (fun n => State.isPresent_eq s.unheld_ptb n) s.unheld_owner s.unheld_view p

theorem State.unheld_yields (s : State) : s.unheld.yields ↔ s.yields := by
  obtain ⟨_, _, _, h⟩ := s.unheld_spec
  have hi : s.unheld.clc.incoming = s.clc.incoming := by rw [h]
  obtain ⟨hr, hc⟩ := s.unheld_running .a
  unfold State.yields
  rw [s.unheld_icu, s.unheld_owner, hi, hr, hc]

/-- A view test round whose outgoing test moves the owner begins another. -/
theorem State.viewTests_moves (n : Nat) {s a b : State} (hs : s.startTests = a) (ho : a.clc.owner = s.clc.owner)
    (hb : a.bothRunningTest = a) (hg : a.outgoingTest = b) (hm : b.clc.owner ≠ s.clc.owner) :
    State.viewTests (n + 1) s = State.viewTests n b := by
  rw [State.viewTests]
  dsimp only
  rw [hs, if_neg (fun k => k ho), hb, if_neg (fun k => k ho), hg, if_pos hm]

/-- An owner that no test moves. -/
theorem State.viewTests_unheld (n : Nat) {s : State} (hs : s.startTests = s.unheld) (hy : ¬ s.yields)
    (hg : s.clc.owner ≠ .handingOff) : State.viewTests (n + 1) s = s.unheld.flowTest :=
  State.viewTests_rests n hs s.unheld_owner (State.bothRunningTest_still fun k => hy (s.unheld_yields.mp k))
    (State.outgoingTest_still (by rw [s.unheld_owner]; exact hg))

theorem State.not_yields {s : State} (h : s.clc.owner ≠ .running) : ¬ s.yields := fun ⟨_, k, _⟩ => h k

/-- A pump that may not start and does not run stays as it stands. -/
theorem State.viewTests_cannot (n : Nat) {s : State} (h : s.mayStartPump = false) (h1 : s.clc.owner ≠ .running)
    (h2 : s.clc.owner ≠ .handingOff) : State.viewTests (n + 1) s = s.unheld.flowTest :=
  State.viewTests_unheld n (State.startTests_cannot h) (State.not_yields h1) h2

theorem State.owner_standby {s : State} (h : s.mayStartPump = true) : s.clc.owner = .standby := by
  unfold State.mayStartPump at h
  simp only [Bool.and_eq_true, beq_iff_eq] at h
  exact h.1.1

theorem State.changeOwner_coolant (s : State) (o : PumpOwner) : (s.changeOwner o).coolant = (s.setOwner o).coolant :=
  State.requestPump_coolant _

theorem State.changeOwner_owner (s : State) (o : PumpOwner) : (s.changeOwner o).clc.owner = o :=
  State.owner_of_coolant (s.changeOwner_coolant o)

theorem State.changeOwner_view (s : State) (o : PumpOwner) (p : Pump) : (s.changeOwner o).clc.view p = s.clc.view p :=
  State.view_of_coolant (s.changeOwner_coolant o) p

theorem State.enterStarting_eq {s : State} (h : s.levels.flow = false) : s.enterStarting = s.changeOwner .starting := by
  unfold State.enterStarting
  dsimp only
  have hl : (s.changeOwner .starting).levels.flow = false :=
    (congrArg (fun o : Outer => o.levels.flow) (s.changeOwner_outer .starting)).trans h
  exact if_neg (by rw [hl]; decide)

/-- A start test that holds, with the flow switch showing no flow. -/
theorem State.viewTests_starts (n : Nat) {s : State} (h : s.starts = true) (ho : s.clc.owner = .standby)
    (hf : s.levels.flow = false) : State.viewTests (n + 2) s = (s.changeOwner .starting).unheld.flowTest := by
  have hs : s.startTests = s.changeOwner .starting := (State.startTests_start h).trans (State.enterStarting_eq hf)
  have hown := s.changeOwner_owner .starting
  rw [State.viewTests]
  dsimp only
  rw [hs, if_pos (by rw [hown, ho]; decide)]
  exact State.viewTests_cannot n (State.mayStartPump_owner (by rw [hown]; decide)) (by rw [hown]; decide) (by rw [hown]; decide)

theorem State.holdStart_owner (s : State) : s.holdStart.clc.owner = s.clc.owner := by
  unfold State.holdStart
  (repeat' split) <;> rfl

/-- Pump B's owner that may start, with pump A not FAILED (08 R139). -/
theorem State.viewTests_holds (n : Nat) {s : State} (hb : s.icu.straps.pumpRole = .b) (h : s.starts = false)
    (ho : s.clc.owner = .standby) : State.viewTests (n + 1) s = s.holdStart.flowTest := by
  have hown := s.holdStart_owner.trans ho
  exact State.viewTests_rests n (State.startTests_hold hb h) s.holdStart_owner
    (State.bothRunningTest_still (State.not_yields (by rw [hown]; decide)))
    (State.outgoingTest_still (by rw [hown]; decide))

theorem State.ownPump_b {s : State} (h : s.icu.straps.pumpRole = .b) : s.ownPump = some .b := by
  unfold State.ownPump
  rw [h]

/-- An owner that has gone to STANDBY beside a running pump stays there. -/
theorem State.viewTests_standby (n : Nat) {s : State} {p : Pump} (hp : s.ownPump = some p) (ho : s.clc.owner = .standby)
    (hc : s.countsRunning p.other = true) : State.viewTests (n + 1) s = s.unheld.flowTest := by
  have hany : s.anyRunning = true := by
    rw [State.anyRunning_standing hp (by rw [ho]; decide) (by rw [ho]; decide)]
    exact hc
  have hstarts : s.starts = false := by
    unfold State.starts
    split
    · rfl
    · rw [hany, Bool.not_true, Bool.and_false]
    · rename_i hb
      rw [State.ownPump_b hb, Option.some.injEq] at hp
      subst hp
      have hra : s.reported .a ≠ .shown .failed := fun k => by
        have hno : s.countsRunning .a = false := State.countsRunning_still (by rw [k]; decide) (by rw [k]; decide)
        have hyes : s.countsRunning .a = true := hc
        rw [hno] at hyes
        cases hyes
      rw [beq_eq_false_iff_ne.mpr hra, Bool.and_false]
  exact State.viewTests_unheld n (State.startTests_unheld hstarts (by rw [hany, Bool.not_true, Bool.and_false]))
    (State.not_yields (by rw [ho]; decide)) (by rw [ho]; decide)

/-- The other pump stands as it stood through a change of the owner. -/
theorem State.changeOwner_other (s : State) (o : PumpOwner) {p : Pump} (hp : s.ownPump = some p) :
    (s.changeOwner o).ownPump = some p ∧ (s.changeOwner o).countsRunning p.other = s.countsRunning p.other ∧
      (s.changeOwner o).reported p.other = s.reported p.other := by
  have hi : (s.changeOwner o).icu = s.icu := (congrArg Outer.icu (s.changeOwner_outer o) :)
  have hptb : (s.changeOwner o).ptb = s.ptb := (congrArg Outer.ptb (s.changeOwner_outer o) :)
  have hne : s.ownPump ≠ some p.other := by
    rw [hp]
    exact p.other_ne
  have hown := State.ownPump_eq hi
  refine ⟨hown.trans hp, State.countsRunning_other hi (fun n => State.isPresent_eq hptb n) hne (s.changeOwner_view o _), ?_⟩
  rw [State.reported_other hne, State.reported_other (by rw [hown]; exact hne), s.changeOwner_view o]

/-- Pump B's owner yields to a running pump A (08 R145). -/
theorem State.viewTests_yields (n : Nat) {s : State} (h : s.yields) :
    State.viewTests (n + 2) s = (s.unheld.changeOwner .standby).unheld.flowTest := by
  obtain ⟨hb, ho, hi, hc, hr⟩ := id h
  have hs : s.startTests = s.unheld := State.startTests_cannot (State.mayStartPump_owner (by rw [ho]; decide))
  have hboth : s.unheld.bothRunningTest = s.unheld.changeOwner .standby := if_pos (s.unheld_yields.mpr h)
  have hu := s.unheld_running .a
  obtain ⟨h1, h2, _⟩ := s.unheld.changeOwner_other .standby
    (State.ownPump_b (by rw [s.unheld_icu]; exact hb))
  rw [State.viewTests]
  dsimp only
  rw [hs, if_neg (fun k => k s.unheld_owner), hboth, if_pos (by rw [State.changeOwner_owner, ho]; decide)]
  exact State.viewTests_standby n h1 (State.changeOwner_owner _ _) (h2.trans (hu.2.trans hc))

/-- The outgoing owner, by what the other pump does (08 R144). -/
theorem State.viewTests_outgoing (n : Nat) {s : State} {p : Pump} (hp : s.ownPump = some p) (ho : s.clc.owner = .handingOff) :
    (s.countsRunning p.other = true → s.reported p.other = .shown .running →
      State.viewTests (n + 2) s = (s.unheld.changeOwner .standby).unheld.flowTest) ∧
    (s.reported p.other = .shown .failed → State.viewTests (n + 2) s = s.unheld.enterRunning.unheld.flowTest) ∧
    (s.reported p.other ≠ .shown .running → s.reported p.other ≠ .shown .failed →
      State.viewTests (n + 2) s = s.unheld.flowTest) := by
  have hs : s.startTests = s.unheld := State.startTests_cannot (State.mayStartPump_owner (by rw [ho]; decide))
  have hboth : s.unheld.bothRunningTest = s.unheld :=
    State.bothRunningTest_still (State.not_yields (by rw [s.unheld_owner, ho]; decide))
  have hu := s.unheld_running p.other
  have hpu : s.unheld.ownPump = some p := (State.ownPump_eq s.unheld_icu).trans hp
  have hout := State.outgoingTest_hands hpu (s.unheld_owner.trans ho)
  rw [hu.1, hu.2] at hout
  refine ⟨fun hc hr => ?_, fun hr => ?_, fun h1 h2 => ?_⟩
  · obtain ⟨h1, h2, _⟩ := s.unheld.changeOwner_other .standby hpu
    rw [State.viewTests_moves _ hs s.unheld_owner hboth (hout.trans (if_pos ⟨hc, hr⟩))
      (by rw [State.changeOwner_owner, ho]; decide)]
    exact State.viewTests_standby n h1 (State.changeOwner_owner _ _) (h2.trans (hu.2.trans hc))
  · have hown : s.unheld.enterRunning.clc.owner = .running := State.changeOwner_owner _ _
    obtain ⟨_, _, h3⟩ := s.unheld.loadDuty.changeOwner_other .running hpu
    have hrep : s.unheld.enterRunning.reported p.other = .shown .failed := h3.trans (hu.1.trans hr)
    rw [State.viewTests_moves _ hs s.unheld_owner hboth
      (hout.trans ((if_neg (fun k => by rw [hr] at k; cases k.2)).trans (if_pos hr))) (by rw [hown, ho]; decide)]
    refine State.viewTests_unheld n (State.startTests_cannot (State.mayStartPump_owner (by rw [hown]; decide)))
      (fun ⟨hb, _, _, _, hra⟩ => ?_) (by rw [hown]; decide)
    have hi : s.unheld.enterRunning.icu = s.unheld.icu := (congrArg Outer.icu (State.changeOwner_outer _ _) :)
    rw [hi, s.unheld_icu] at hb
    rw [State.ownPump_b hb, Option.some.injEq] at hp
    subst hp
    have hra' : s.unheld.enterRunning.reported .a = .shown .failed := hrep
    rw [hra'] at hra
    cases hra
  · exact State.viewTests_rests _ hs s.unheld_owner hboth (hout.trans ((if_neg (fun k => h1 k.2)).trans (if_neg h2)))

/-! ### The pump's record through a loop view change -/

/-- The CLC without the flow state, its timer and flag, the latch and the held request: the owner's record with the loop view,
the vote and the fans. -/
def State.pumping (s : State) : Clc :=
  { s.clc with flow := .flowOk, lostFlag := false, graceTimer := none, latch := false, heldPump := none }

theorem State.pumping_of_coolant {s t : State} (h : t.coolant = s.coolant) : t.pumping = s.pumping :=
  (congrArg (fun c : Clc => { c with flow := .flowOk, lostFlag := false, graceTimer := none, latch := false }) h :)

theorem State.Spares.pumping {s t : State} (h : s.Spares t) : t.pumping = s.pumping :=
  (congrArg (fun c : Clc => { c with flow := .flowOk, lostFlag := false, graceTimer := none }) h.clc :)

theorem State.setFlow_pumping (s : State) (f : FlowState) : (s.setFlow f).pumping = s.pumping :=
  (State.pumping_of_coolant (State.stcFlow_coolant { s with clc := { s.clc with flow := f } } f)).trans rfl

theorem State.flowTest_pumping (s : State) : s.flowTest.pumping = s.pumping := by
  unfold State.flowTest
  split
  · split
    · exact State.setFlow_pumping _ _
    · exact State.setFlow_pumping _ _
    · dsimp only
      split
      · exact s.setFlow_pumping _
      · exact s.setFlow_pumping _
    · rfl
  · rfl

/-- The requests of a flow indication at a state where none waits. -/
theorem State.setFlow_requests (s : State) (f : FlowState) (h : s.requests = []) :
    (∀ r ∈ (s.setFlow f).requests, r.isTrip = true) ∧ (s.setFlow f).requests.length ≤ 3 := by
  obtain ⟨l, hl, ht, hn⟩ := State.stcFlow_onward { s with clc := { s.clc with flow := f } } f
  have he : (s.setFlow f).requests = l := by
    show (State.stcFlow _ f).requests = l
    rw [hl]
    show s.requests ++ l = l
    rw [h, List.nil_append]
  have := StringState.spare_le s.stc.state
  rw [he]
  exact ⟨ht, by have hx : l.length + _ ≤ s.stc.state.spare := hn; omega⟩

/-- What the flow test asks of the FLU. -/
theorem State.flowTest_asks (s : State) (h : s.requests = []) :
    ∀ r ∈ s.flowTest.requests, r.isTrip = true ∨ r = .cleared .flowLost := by
  have flow (x : State) (f : FlowState) (hx : x.requests = []) :
      ∀ r ∈ (x.setFlow f).requests, r.isTrip = true ∨ r = .cleared .flowLost :=
    fun r hr => .inl ((x.setFlow_requests f hx).1 r hr)
  have none : ∀ r ∈ s.requests, r.isTrip = true ∨ r = .cleared .flowLost := by
    rw [h]
    intro r hr
    cases hr
  unfold State.flowTest
  split
  · split
    · exact flow _ _ h
    · exact flow _ _ h
    · dsimp only
      split
      · intro r hr
        have hr' : r ∈ (s.setFlow .flowOk).requests ++ [.cleared .flowLost] := hr
        rcases List.mem_append.mp hr' with hr' | hr'
        · exact flow _ _ h r hr'
        · exact .inr (List.mem_singleton.mp hr')
      · exact flow _ _ h
    · exact none
  · exact none

theorem State.flowTest_bears {s : State} {c : Code} {x : Actions} (h : s.Bears c x) : s.flowTest.Bears c x := by
  unfold State.Bears
  rw [State.members_of_standing s.flowTest_standing]
  exact h

/-- What a loop view change that comes to the flow test in a calm state leaves (08 R136). -/
theorem State.lookAgain_of {s a : State} (h : State.viewTests 8 s = a.flowTest) (hc : a.Calm) :
    s.lookAgain.pumping = a.pumping ∧ s.lookAgain.outer = a.outer ∧
      ∀ {c : Code} {x : Actions}, c ≠ .flowLost → a.Bears c x → s.lookAgain.Bears c x := by
  have he : s.lookAgain = a.flowTest.settle := congrArg State.settle h
  have hasks := a.flowTest_asks hc.1
  have hs := a.flowTest.settle_spares (a.flowTest_carries.indicated hc.2) (fun r hr => by
    rcases hasks r hr with hr | hr
    · exact Request.sparesPump_of_isTrip hr
    · rw [hr]
      rfl)
  rw [he]
  refine ⟨hs.pumping.trans a.flowTest_pumping, (State.settle_outer _).trans (by simp), fun hne hb => ?_⟩
  refine State.settleWithin_bears 32 _ (State.flowTest_bears hb) fun r hr => ?_
  rcases hasks r hr with hr | hr
  · exact Request.isTrip_ne_cleared hr _
  · rw [hr]
    intro k
    cases k
    exact hne rfl

end Sys2Proof.Machine
end

section
/-! SUPPORT. The string's limit through the taking of requests (05 R79). -/

namespace Sys2Proof.Machine

/-- The parts of the STC from which the limit is formed, with the limit. -/
def State.capping (s : State) : Nat × Option Int × FlowState × Nat := (s.stc.exponent, s.stc.theta, s.stc.flow, s.stc.limit)

theorem State.capping_of_string {s t : State} (h : t.string = s.string) : t.capping = s.capping :=
  (congrArg (fun c : Stc => (c.exponent, c.theta, c.flow, c.limit)) h :)

/-- In phase CONFIGURED the limit is the least of its three parts (05 R79). -/
def State.Limited (s : State) : Prop :=
  s.configured = true → s.stc.limit = (limitParts s.prm s.stc.exponent s.stc.theta s.stc.flow).least

theorem State.Limited.of_capping {s t : State} (h : s.Limited) (hi : t.icu = s.icu) (hc : t.capping = s.capping) : t.Limited := by
  have he : t.stc.exponent = s.stc.exponent := (congrArg (fun c => c.1) hc :)
  have ht : t.stc.theta = s.stc.theta := (congrArg (fun c => c.2.1) hc :)
  have hf : t.stc.flow = s.stc.flow := (congrArg (fun c => c.2.2.1) hc :)
  have hl : t.stc.limit = s.stc.limit := (congrArg (fun c => c.2.2.2) hc :)
  unfold State.Limited State.configured State.prm at h ⊢
  rw [he, ht, hf, hl, hi]
  exact h

theorem State.drive_capping (s : State) (st : StringState) (v : Nat) : (s.drive st v).capping = s.capping := by
  rw [s.drive_eq]
  rfl

theorem State.trip_capping (s : State) (c : TripCause) (r : Option (Code × Int)) : (s.trip c r).capping = s.capping := by
  cases h : s.stc.state.isActive with
  | false => rw [s.trip_passive c r h]
  | true => exact (State.capping_of_string (s.trip_string c r h)).trans rfl

theorem State.enterSync_capping (s : State) : s.enterSync.capping = s.capping := by
  have h : s.syncing.capping = s.capping := s.drive_capping _ _
  rw [s.enterSync_eq]
  split
  · exact h
  · exact h

theorem State.startTest_capping (s : State) : s.startTest.capping = s.capping := by
  have hp : s.precharging.capping = s.capping := rfl
  have hu : (if s.precharging.levels.dcLink then s.precharging.enterSync else s.precharging).capping = s.capping := by
    split
    · exact (State.enterSync_capping _).trans hp
    · exact hp
  unfold State.startTest
  split
  · rw [s.enterPrecharge_eq]
    dsimp only
    generalize (if s.precharging.levels.dcLink then s.precharging.enterSync else s.precharging) = u at hu ⊢
    split
    · exact (State.trip_capping _ _ _).trans hu
    · exact hu
  · rfl

theorem State.cutSetpoint_capping (s : State) : s.cutSetpoint.capping = s.capping := by
  unfold State.cutSetpoint
  split <;> rfl

theorem State.respondToLimit_capping (s : State) : s.respondToLimit.capping = s.capping := by
  unfold State.respondToLimit
  split
  · exact s.startTest_capping
  all_goals rfl

theorem State.stcLatch_capping (s : State) (on : Bool) : (s.stcLatch on).capping = s.capping := by
  unfold State.stcLatch
  split
  · unfold State.stcLatchOn
    dsimp only
    split
    · exact State.trip_capping _ _ _
    · split
      · exact State.drive_capping _ _ _
      · rfl
  · rfl

theorem State.formLimit_icu (s : State) : s.formLimit.icu = s.icu := State.outer_icu s.formLimit_outer

/-- The limit formed again. -/
theorem State.formLimit_limited (s : State) : s.formLimit.Limited := by
  cases h : s.configured with
  | false =>
    intro hc
    have hcs : s.formLimit.configured = s.configured := by
      unfold State.configured
      rw [s.formLimit_icu]
    rw [hcs, h] at hc
    cases hc
  | true =>
    unfold State.formLimit
    rw [if_pos h]
    dsimp only
    generalize hx : ({ s with stc := { s.stc with
      parts := some (limitParts s.prm s.stc.exponent s.stc.theta s.stc.flow)
      limit := (limitParts s.prm s.stc.exponent s.stc.theta s.stc.flow).least } } : State) = x
    have hxl : x.Limited := by
      rw [← hx]
      exact fun _ => rfl
    split
    · exact hxl
    · exact hxl.of_capping ((State.outer_icu (State.respondToLimit_outer _)).trans (State.outer_icu x.cutSetpoint_outer))
        ((State.respondToLimit_capping _).trans x.cutSetpoint_capping)

theorem State.Limited.indicate {s : State} (h : s.Limited) : s.indicate.Limited := by
  have go {x : State} (hx : x.Limited) (c : Prop) [Decidable c] (f : State → State)
      (hf : x.Limited → (f x).Limited) : (if c then x else f x).Limited := by
    split
    · exact hx
    · exact hf hx
  unfold State.indicate
  dsimp only
  generalize hx : ({ s with flu := { s.flu with
    exponent := exponentOf s.flu.members
    stringLatch := s.flu.members.any (fun m => m.actions.stringLatch)
    yawLock := s.flu.members.any (fun m => m.actions.yawLock)
    pumpLatch := s.flu.members.any (fun m => m.actions.pumpLatch) } } : State) = x
  have h0 : x.Limited := by
    rw [← hx]
    exact h
  exact go (go (go (go h0 _ (fun y => y.stcDerate _) (fun _ => State.formLimit_limited _)) _ (fun y => y.stcLatch _)
    (fun k => k.of_capping (State.outer_icu (State.stcLatch_outer _ _)) (State.stcLatch_capping _ _))) _ (fun y => y.ywcLock _)
    (fun k => k.of_capping (State.outer_icu (State.ywcLock_outer _ _)) (State.capping_of_string (by simp)))) _
    (fun y => y.clcLatch _) id

theorem State.Limited.serve {s : State} (h : s.Limited) (r : Request) : (s.serve r).Limited := by
  cases r with
  | raised code v o =>
    have hj : (s.joined code o).Limited := by
      unfold State.joined
      split
      · exact State.Limited.indicate (by exact h)
      · exact h
    have ha : (s.acted code o).Limited := by
      unfold State.acted
      split
      · exact hj.of_capping (State.outer_icu (State.stcTripRequest_outer _)) (State.trip_capping _ _ _)
      · exact hj
    rw [State.serve, State.takeRaise_eq]
    split
    · exact ha.of_capping (State.outer_icu (by simp)) (State.capping_of_string (by simp))
    · exact ha.of_capping (State.outer_icu (by simp)) (State.capping_of_string (by simp))
  | cleared code =>
    show (s.takeClear code).Limited
    unfold State.takeClear
    split
    · exact h
    · exact State.Limited.indicate (by exact h)

theorem State.Limited.settleWithin {s : State} (h : s.Limited) (n : Nat) : (s.settleWithin n).Limited := by
  induction n generalizing s with
  | zero => exact h
  | succ n ih =>
    unfold State.settleWithin
    split
    · exact h
    · exact ih (State.Limited.serve (by exact h) _)

theorem State.Limited.settle {s : State} (h : s.Limited) : s.settle.Limited := h.settleWithin 32

end Sys2Proof.Machine
end

section
/-! PROOFS. Duty periods, the pump report, pump failures by flow and the loss of flow (08 R134, R137, R140 to R142, R147). -/

namespace Sys2Proof.Machine

/-! ### The owner's record after a change -/

theorem State.changeOwner_pumping (s : State) (o : PumpOwner) : (s.changeOwner o).pumping = (s.setOwner o).pumping :=
  State.pumping_of_coolant (s.changeOwner_coolant o)

theorem State.unheld_pumping (s : State) : s.unheld.pumping =
    { s.pumping with startHold := if s.icu.straps.pumpRole = .b then none else s.clc.startHold } := by
  obtain ⟨_, _, _, h⟩ := s.unheld_spec
  unfold State.pumping
  rw [h]

/-- An owner moved, that no test of the loop view change moves further, with pump B's start hold stopped. -/
theorem State.changed_outer (s : State) (o : PumpOwner) : (s.changeOwner o).unheld.outer = s.outer :=
  (State.unheld_spec _).1.trans (s.changeOwner_outer o)

theorem State.changed_pumping (s : State) (o : PumpOwner) : (s.changeOwner o).unheld.pumping =
    { (s.setOwner o).pumping with
      startHold := if s.icu.straps.pumpRole = .b then none else (s.setOwner o).clc.startHold } := by
  have hi : (s.changeOwner o).icu = s.icu := State.outer_icu (s.changeOwner_outer o)
  have hh : (s.changeOwner o).clc.startHold = (s.setOwner o).clc.startHold :=
    (congrArg Clc.startHold (s.changeOwner_coolant o) :)
  rw [State.unheld_pumping, State.changeOwner_pumping, hi, hh]

theorem State.changed_calm {s : State} (h : s.Calm) (o : PumpOwner) : (s.changeOwner o).unheld.Calm :=
  ((s.changeOwner_keeps o).trans (State.unheld_keeps _)).calm h

/-! ### Duty periods -/

theorem exec_dutyMinute (s : State) (h : s.clc.dutyTimer.isSome = true) : exec .dutyMinuteExpiry s = .next
    (if s.clc.duty - 1 = 0 then
      State.dutyEnds { s with clc := { s.clc with dutyTimer := some 60000, duty := s.clc.duty - 1 } }
    else { s with clc := { s.clc with dutyTimer := some 60000, duty := s.clc.duty - 1 } }) :=
  congrArg Host.Outcome.next (if_pos h)

/-- The other pump is ready at the owner of a pump only. -/
theorem State.otherReady_owner {s : State} (h : s.otherReady = true) : ∃ p, s.ownPump = some p ∧
    s.reported p.other = .shown .standby := by
  unfold State.otherReady at h
  split at h
  · rename_i p hp
    exact ⟨p, hp, eq_of_beq (Bool.and_eq_true_iff.mp h).1⟩
  · cases h

theorem State.otherReady_duty (s : State) (t : Timer) (d : Nat) :
    State.otherReady { s with clc := { s.clc with dutyTimer := t, duty := d } } = s.otherReady := by
  unfold State.otherReady
  cases hp : s.ownPump with
  | none =>
    have hx : State.ownPump { s with clc := { s.clc with dutyTimer := t, duty := d } } = none := hp
    rw [hx]
  | some p =>
    have hx : State.ownPump { s with clc := { s.clc with dutyTimer := t, duty := d } } = some p := hp
    rw [hx]
    cases p <;> rfl

/-- Settles O50: the duty minute, the end of a duty period, and the report. -/
theorem pumpRuns : Obligations.PumpRuns := by
  refine ⟨fun s ht hd => ?_, fun s ht hd ho => ?_, fun s hc ht hd ho => ?_, fun p s ht hp hq => ?_⟩
  · rw [exec_dutyMinute s ht, if_neg (by omega)]
  · rw [exec_dutyMinute s ht, if_pos (by omega), State.dutyEnds, if_neg (by rw [s.otherReady_duty, ho]; decide)]
    rfl
  · have he := exec_dutyMinute s ht
    rw [if_pos (by omega), State.dutyEnds, if_pos (by rw [s.otherReady_duty, ho])] at he
    obtain ⟨p, hp, hr⟩ := State.otherReady_owner ((s.otherReady_duty (some 60000) (s.clc.duty - 1)).trans ho)
    generalize hx : ({ s with clc := { s.clc with dutyTimer := some 60000, duty := s.clc.duty - 1 } } : State) = x at he hp hr
    have hxc : x.Calm := by
      rw [← hx]
      exact hc
    have hxo : x.outer = s.outer := by
      rw [← hx]
      rfl
    obtain ⟨h1, _, h3⟩ := x.changeOwner_other .handingOff hp
    rw [hr] at h3
    have hv := (State.viewTests_outgoing 6 h1 (x.changeOwner_owner .handingOff)).2.2 (by rw [h3]; decide) (by rw [h3]; decide)
    obtain ⟨hpump, hout, _⟩ := State.lookAgain_of hv (State.changed_calm hxc .handingOff)
    rw [x.changed_pumping] at hpump
    have ho' := (hout.trans (x.changed_outer .handingOff)).trans hxo
    exact ⟨_, he, (congrArg Clc.owner hpump :), (congrArg Clc.pumpOutput hpump :), (congrArg Clc.handoffTimer hpump :),
      (congrArg Clc.dutyTimer hpump :), State.outer_icu ho', State.outer_ptb ho', State.outer_levels ho'⟩
  · have he : exec .pumpReportTimerExpiry s = .next (State.requestPump { s with clc := { s.clc with reportTimer := some 1000 } }) :=
      congrArg Host.Outcome.next (if_pos ht)
    rw [State.requestPump_place { s with clc := { s.clc with reportTimer := some 1000 } } p hp (hasPlace_of_lt hq)] at he
    refine ⟨_, he, s.length_enqueue .pumpState (encodePump p s.clc.owner s.clc.duty), ?_, rfl⟩
    exact Lif.mem_beginIfIdle
      { s.lif with queue := insertFrame (s.newFrame .pumpState (encodePump p s.clc.owner s.clc.duty)) s.lif.queue } ((mem_insertFrame (s.newFrame .pumpState (encodePump p s.clc.owner s.clc.duty)) _ _).mpr (.inl rfl))

/-! ### Failures by flow -/

theorem State.lookAgain_outer (s : State) : s.lookAgain.outer = s.outer :=
  (State.settle_outer _).trans (State.viewTests_outer _ 8)

theorem State.pumpFails_outer (s : State) (cause : Int) : (s.pumpFails cause).outer = s.outer :=
  (State.lookAgain_outer _).trans ((State.settle_outer _).trans (by simp))

/-- The failure of a pump that has not failed (08 R141). -/
theorem State.pumpFails_leaves (s : State) (cause : Int) (hc : s.Calm) (ho : s.clc.owner ≠ .failed) :
    (s.pumpFails cause).clc.owner = .failed ∧ (s.pumpFails cause).clc.pumpOutput = false ∧
      (s.pumpFails cause).clc.incoming = false ∧ inMembers .pumpFailed (s.pumpFails cause).flu.members = true ∧
      (s.pumpFails cause).flu.pumpLatch = true := by
  have hcalm := (s.pumpFails_keeps cause).calm hc
  have he : s.pumpFails cause = ((s.changeOwner .failed).raiseNow .pumpFailed cause).lookAgain := by
    unfold State.pumpFails State.failPump
    rw [if_neg ho]
    rfl
  generalize hy : (s.changeOwner .failed).raiseNow .pumpFailed cause = y at he
  have hkeeps : s.Keeps y := by
    rw [← hy]
    exact (s.changeOwner_keeps .failed).trans (State.raiseNow_keeps _ _ _ _)
  have hl : y.loop = State.loop (s.setOwner .failed) := by
    rw [← hy]
    exact (State.settle_loop _).trans (State.requestPump_loop _)
  have hbears : y.Bears .pumpFailed (Code.pumpFailed.actions none) := by
    rw [← hy]
    exact State.raiseNow_bears _ _ _ ((s.changeOwner_keeps .failed).calm hc).1 rfl
  have howner : y.clc.owner = .failed := (congrArg Clc.owner hl :)
  have hv := State.viewTests_cannot 7 (State.mayStartPump_owner (s := y) (by rw [howner]; decide))
    (by rw [howner]; decide) (by rw [howner]; decide)
  obtain ⟨hpump, _, hb⟩ := State.lookAgain_of hv ((hkeeps.trans y.unheld_keeps).calm hc)
  rw [← he, y.unheld_pumping] at hpump
  have hbear : (s.pumpFails cause).Bears .pumpFailed (Code.pumpFailed.actions none) := by
    rw [he]
    refine hb (by decide) ?_
    unfold State.Bears
    rw [y.unheld_spec.2.2.1]
    exact hbears
  exact ⟨(congrArg Clc.owner hpump :).trans howner,
    (congrArg Clc.pumpOutput hpump :).trans (congrArg Clc.pumpOutput hl :),
    (congrArg Clc.incoming hpump :).trans (congrArg Clc.incoming hl :), hbear.member, hbear.pumpLatch hcalm.2 rfl⟩

/-- The limit under a lost flow, with the setpoint cut to it (05 R79, R82, R83). -/
theorem State.formLimit_lost (s : State) (hc : s.configured = true) (hf : s.stc.flow = .flowLost)
    (hs : s.stc.setpoint ≤ s.stc.limit) : s.formLimit.stc.limit = 0 ∧ s.formLimit.stc.setpoint = 0 := by
  have hleast : (limitParts s.prm s.stc.exponent s.stc.theta s.stc.flow).least = 0 := by
    rw [LimitParts.least_eq_zero, hf]
    exact .inr (.inr rfl)
  have hlimit : s.formLimit.stc.limit = 0 := by
    have hi := s.formLimit_icu
    have hg := s.formLimit_limited (by unfold State.configured; rw [hi]; exact hc)
    have hflow : s.formLimit.stc.flow = .flowLost := (congrArg (fun g => g.2.1) s.formLimit_given :).trans hf
    rw [hg, LimitParts.least_eq_zero, hflow]
    exact .inr (.inr rfl)
  refine ⟨hlimit, ?_⟩
  unfold State.formLimit
  rw [if_pos hc]
  dsimp only
  rw [hleast]
  split
  · rename_i h0
    show s.stc.setpoint = 0
    omega
  · generalize hx : ({ s with stc := { s.stc with
      parts := some (limitParts s.prm s.stc.exponent s.stc.theta s.stc.flow), limit := 0 } } : State) = x
    have hxl : x.stc.limit = 0 := by rw [← hx]
    have hcut : x.cutSetpoint.stc.setpoint = 0 ∧ x.cutSetpoint.stc.limit = 0 := by
      unfold State.cutSetpoint
      split
      · exact ⟨hxl, hxl⟩
      · exact ⟨by omega, hxl⟩
    generalize x.cutSetpoint = y at hcut
    obtain ⟨hset, hlim⟩ := hcut
    unfold State.respondToLimit
    split
    · rw [State.startTest_stays y (by unfold State.mayStart; rw [hlim]; simp)]
      exact hset
    all_goals exact hset

/-- What the loss of flow leaves (08 R147; 05 R82, R83). -/
theorem State.flowLost_leaves (s : State) (hc : s.Calm) (hconf : s.configured = true) (hs : s.stc.setpoint ≤ s.stc.limit) :
    s.flowLost.clc.flow = .flowLost ∧ s.flowLost.clc.lostFlag = true ∧ s.flowLost.clc.graceTimer = none ∧
      s.flowLost.stc.flow = .flowLost ∧ s.flowLost.stc.limit = 0 ∧ s.flowLost.stc.setpoint = 0 ∧
      inMembers .flowLost s.flowLost.flu.members = true ∧ s.flowLost.icu = s.icu ∧ s.flowLost.ptb = s.ptb ∧
      s.flowLost.levels = s.levels := by
  generalize hx : ({ s with
    clc := { s.clc with graceTimer := none, flow := .flowLost }
    stc := { s.stc with flow := .flowLost } } : State) = x
  have ⟨hxflow, hxgrace, hxgiven⟩ : x.clc.flow = .flowLost ∧ x.clc.graceTimer = none ∧ x.stc.flow = .flowLost := by
    rw [← hx]
    exact ⟨rfl, rfl, rfl⟩
  obtain ⟨hlim, hset⟩ := x.formLimit_lost (by rw [← hx]; exact hconf) hxgiven (by rw [← hx]; exact hs)
  have hflow : State.setFlow { s with clc := { s.clc with graceTimer := none } } .flowLost = x.formLimit := by
    show (State.formLimit { { s with clc := { s.clc with graceTimer := none, flow := .flowLost } } with
      stc := { s.stc with flow := .flowLost } }).startTest = _
    rw [← hx] at hlim ⊢
    exact State.startTest_stays _ (by unfold State.mayStart; rw [hlim]; simp)
  obtain ⟨htrips, hlen⟩ := State.setFlow_requests { s with clc := { s.clc with graceTimer := none } } .flowLost hc.1
  rw [hflow] at htrips hlen
  generalize hv : (x.formLimit.pumpsFailed : Int) = v
  generalize hy : ({ x.formLimit with clc := { x.formLimit.clc with lostFlag := true } } : State) = y
  have hlost : s.flowLost = y.raiseNow .flowLost v := by
    unfold State.flowLost
    dsimp only
    rw [hflow, hv, hy]
  rw [hlost]
  have hyo : y.outer = s.outer := by
    rw [← hy]
    exact x.formLimit_outer.trans (by rw [← hx]; rfl)
  have houter : (y.raiseNow .flowLost v).outer = s.outer := (State.raiseNow_outer _ _ _ _).trans hyo
  have hloop : (y.raiseNow .flowLost v).loop = y.loop := State.settle_loop _
  have hyflow : y.clc.flow = .flowLost ∧ y.clc.lostFlag = true ∧ y.clc.graceTimer = none := by
    have hxc := x.formLimit_coolant
    rw [← hy]
    exact ⟨(congrArg Clc.flow hxc :).trans hxflow, rfl, (congrArg Clc.graceTimer hxc :).trans hxgrace⟩
  have hgiven : (y.raiseNow .flowLost v).stc.flow = .flowLost := by
    refine (congrArg (fun g => g.2.1) (State.settle_given _) :).trans ?_
    show y.stc.flow = .flowLost
    rw [← hy]
    exact (congrArg (fun g => g.2.1) x.formLimit_given :).trans hxgiven
  have hlimited : (y.raiseNow .flowLost v).Limited := by
    refine State.Limited.settle ?_
    rw [← hy]
    exact x.formLimit_limited
  have hlimit : (y.raiseNow .flowLost v).stc.limit = 0 := by
    rw [hlimited (by unfold State.configured; rw [State.outer_icu houter]; exact hconf), LimitParts.least_eq_zero, hgiven]
    exact .inr (.inr rfl)
  have hheld : (y.raiseNow .flowLost v).SetpointHeld := by
    refine (State.raiseNow_keeps _ _ _ _).string.setpoint ?_
    rw [← hy]
    exact ⟨Nat.le_trans (Nat.le_of_eq hset) (Nat.zero_le _), .inr (.inr hset)⟩
  have hbears : (y.raiseNow .flowLost v).Bears .flowLost (Code.flowLost.actions none) := by
    have hreq : (y.raise .flowLost v).requests = x.formLimit.requests ++ [.raised .flowLost v none] := by
      rw [← hy]
      rfl
    refine State.settle_raised (y.raise .flowLost v) (v := v) rfl ?_ ?_ ?_
    · rw [hreq]
      exact List.mem_append_right _ List.mem_cons_self
    · rw [hreq]
      intro r hr
      rcases List.mem_append.mp hr with hr | hr
      · exact Request.isTrip_ne_cleared (htrips r hr) _
      · rw [List.mem_singleton.mp hr]
        exact fun k => by cases k
    · rw [hreq, List.length_append, List.length_singleton]
      omega
  exact ⟨(congrArg Clc.flow hloop :).trans hyflow.1, (congrArg Clc.lostFlag hloop :).trans hyflow.2.1,
    (congrArg Clc.graceTimer hloop :).trans hyflow.2.2, hgiven, hlimit, by have := hheld.1; omega, hbears.member,
    State.outer_icu houter, State.outer_ptb houter, State.outer_levels houter⟩

/-- Settles O51: the failures of a pump by flow and the loss of flow. -/
theorem flowFailures : Obligations.FlowFailures := by
  refine ⟨fun s c hc ho hcase => ?_, fun s hc ht hconf hs => ?_⟩
  · rcases hcase with ⟨rfl, ht⟩ | ⟨rfl, hf, hown⟩
    · have he : exec .flowConfirmExpiry s = .next (s.pumpFails 1) := congrArg Host.Outcome.next (if_pos ht)
      obtain ⟨h1, h2, h3, h4, h5⟩ := s.pumpFails_leaves 1 hc ho
      exact ⟨_, he, h1, h2, h3, h4, h5, State.outer_icu (s.pumpFails_outer 1), State.outer_ptb (s.pumpFails_outer 1)⟩
    · generalize hx : ({ s with levels := { s.levels with flow := false } } : State) = x
      have he : exec .flowSwitchNoFlow s = .next (x.pumpFails 2) := by
        rw [← hx]
        exact congrArg Host.Outcome.next ((if_pos hf).trans (if_pos hown))
      have hxc : x.Calm := by
        rw [← hx]
        exact hc
      obtain ⟨h1, h2, h3, h4, h5⟩ := x.pumpFails_leaves 2 hxc (by rw [← hx]; exact ho)
      exact ⟨_, he, h1, h2, h3, h4, h5, (State.outer_icu (x.pumpFails_outer 2)).trans (by rw [← hx]),
        (State.outer_ptb (x.pumpFails_outer 2)).trans (by rw [← hx])⟩
  · exact ⟨_, congrArg Host.Outcome.next (if_pos ht), s.flowLost_leaves hc hconf hs⟩

end Sys2Proof.Machine
end

section
/-! PROOFS. A PUMP_STATE received, at a station without a pump (08 R135, R136, R147). -/

namespace Sys2Proof.Machine

/-! ### The frame -/

theorem exec_pumpState_heard (source : Station) (p : Pump) (o : PumpOwner) (duty : Nat) (s : State)
    (h : s.Hears .pumpState source (encodePump p o duty)) (hd : duty < 65536) :
    exec (.pumpState source (encodePump p o duty)) s = .next ((s.heard (some .pumpState) source).takePump
      { pump := p, owner := o, handover := o == .handingOff, duty := duty } source) := by
  have he : exec (.pumpState source (encodePump p o duty)) s = execPumpState source (encodePump p o duty) s := rfl
  rw [he, execPumpState, s.receive_heard _ _ _ _ h, decodePump_encodePump p o duty hd]

theorem State.heard_isPresent (s : State) (kind : Option Kind) {source : Station} (h : (s.peer source).presence = .present)
    (n : Station) : (s.heard kind source).isPresent n = s.isPresent n := by
  by_cases hn : n = source
  · subst hn
    unfold State.isPresent
    rw [h]
    show (((s.setPeer n _).peer n).presence == .present) = true
    rw [State.setPeer_peer, if_pos rfl]
    rfl
  · unfold State.isPresent
    rw [s.heard_peer _ _ _ hn]

/-- The view that a PUMP_STATE taken leaves (08 R135, R145). -/
def Clc.viewed (c : Clc) (p : Pump) (o : PumpOwner) (source : Station) : Clc :=
  { c with
    viewA := if p = .a then { owner := some source, reported := .shown o, handover := o == .handingOff } else c.viewA
    viewB := if p = .b then { owner := some source, reported := .shown o, handover := o == .handingOff } else c.viewB
    incoming := if p = .a ∧ o ≠ .handingOff then false else c.incoming }

theorem State.takeView_eq (s : State) (p : Pump) (o : PumpOwner) (duty : Nat) (source : Station) :
    s.takeView { pump := p, owner := o, handover := o == .handingOff, duty := duty } source =
      { s with clc := s.clc.viewed p o source } := by
  unfold State.takeView State.setView Clc.viewed
  cases p with
  | b => rfl
  | a =>
    dsimp only
    split <;> rfl

theorem State.takesView_true {s : State} {p : Pump} {source : Station}
    (h : ∀ n, (s.clc.view p).owner = some n → n = source ∨ source.val < n.val ∨ s.isPresent n = false) :
    s.takesView p source = true := by
  unfold State.takesView
  split
  · rfl
  · rename_i n hn
    rcases h n hn with rfl | hlt | hp
    · rw [beq_self_eq_true]
      rfl
    · rw [decide_eq_true hlt, Bool.or_true]
    · rw [hp, Bool.not_false, Bool.or_true, Bool.true_or]

theorem State.takesView_false {s : State} {p : Pump} {source n : Station} (h : (s.clc.view p).owner = some n)
    (hlt : n.val < source.val) (hp : s.isPresent n = true) : s.takesView p source = false := by
  unfold State.takesView
  rw [h]
  have hne : (n == source) = false := beq_eq_false_iff_ne.mpr fun k => by
    rw [k] at hlt
    exact Nat.lt_irrefl _ hlt
  dsimp only
  rw [hne, hp, decide_eq_false (by omega)]
  rfl

theorem State.isPresent_iff (s : State) (n : Station) : s.isPresent n = true ↔ (s.peer n).presence = .present := beq_iff_eq

/-- A PUMP_STATE for a pump that is not the own one, taken or ignored (08 R135). -/
theorem State.heard_takePump (source : Station) (p : Pump) (o : PumpOwner) (duty : Nat) (s : State)
    (hp : (s.peer source).presence = .present) (hown : s.ownPump ≠ some p) :
    ((∀ n, (s.clc.view p).owner = some n → n = source ∨ source.val < n.val ∨ (s.peer n).presence ≠ .present) →
      (s.heard (some .pumpState) source).takePump { pump := p, owner := o, handover := o == .handingOff, duty := duty } source =
        (State.handoverRequest { s.heard (some .pumpState) source with clc := s.clc.viewed p o source }
          { pump := p, owner := o, handover := o == .handingOff, duty := duty }).lookAgain) ∧
    (∀ n, (s.clc.view p).owner = some n → n.val < source.val → (s.peer n).presence = .present →
      (s.heard (some .pumpState) source).takePump { pump := p, owner := o, handover := o == .handingOff, duty := duty } source =
        s.heard (some .pumpState) source) := by
  have hpres := s.heard_isPresent (some .pumpState) hp
  unfold State.takePump
  rw [if_neg (show ¬ (s.heard (some .pumpState) source).ownPump = some p from hown)]
  refine ⟨fun h => ?_, fun n hn hlt hpn => ?_⟩
  · have ht : (s.heard (some .pumpState) source).takesView p source = true := by
      refine State.takesView_true fun n hn => ?_
      rw [hpres]
      rcases h n hn with k | k | k
      · exact .inl k
      · exact .inr (.inl k)
      · exact .inr (.inr (beq_eq_false_iff_ne.mpr k))
    rw [if_pos ht, State.takeView_eq]
    rfl
  · have ht : (s.heard (some .pumpState) source).takesView p source = false :=
      State.takesView_false hn hlt (by rw [hpres]; exact (s.isPresent_iff n).mpr hpn)
    exact if_neg (by rw [ht]; decide)

/-! ### The flow test -/

theorem State.setFlow_leaves (x : State) (f : FlowState) :
    (x.setFlow f).loop = { x.loop with flow := f } ∧ (x.setFlow f).stc.flow = f :=
  ⟨State.loop_of_coolant (State.stcFlow_coolant { x with clc := { x.clc with flow := f } } f),
    (congrArg (fun g => g.2.1) ((State.startTest_given _).trans
      (State.formLimit_given { x with clc := { x.clc with flow := f }, stc := { x.stc with flow := f } })) :)⟩

theorem State.settle_flow (x : State) : x.settle.stc.flow = x.stc.flow := (congrArg (fun g => g.2.1) x.settle_given :)

/-- A flow change, with the FLU's work on what it brings about. -/
theorem State.setFlow_settled (x : State) (f : FlowState) :
    (x.setFlow f).settle.loop = { x.loop with flow := f } ∧ (x.setFlow f).settle.stc.flow = f :=
  ⟨(State.settle_loop _).trans (x.setFlow_leaves f).1, (State.settle_flow _).trans (x.setFlow_leaves f).2⟩

/-- The end of a lost flow with FLOW_LOST in the condition set (08 R147). -/
theorem State.flowFound_settled (x : State) (h : x.requests = []) {t : State}
    (ht : t = (State.clear { x.setFlow .flowOk with clc := { (x.setFlow .flowOk).clc with lostFlag := false } } .flowLost).settle) :
    t.loop = { x.loop with flow := .flowOk, lostFlag := false } ∧ t.stc.flow = .flowOk ∧
      inMembers .flowLost t.flu.members = false := by
  obtain ⟨hloop, hflow⟩ := x.setFlow_leaves .flowOk
  obtain ⟨htrips, hlen⟩ := x.setFlow_requests .flowOk h
  generalize x.setFlow .flowOk = y at *
  subst ht
  generalize hz : State.clear { y with clc := { y.clc with lostFlag := false } } .flowLost = z
  have hreq : z.requests = y.requests ++ [.cleared .flowLost] := by
    rw [← hz]
    rfl
  have hzl : z.loop = { y.loop with lostFlag := false } := by
    rw [← hz]
    rfl
  refine ⟨(State.settle_loop z).trans (hzl.trans (by rw [hloop])), (State.settle_flow z).trans ?_, ?_⟩
  · rw [← hz]
    exact hflow
  · refine z.settle_cleared (by decide) rfl rfl ?_ ?_ ?_
    · rw [hreq]
      exact List.mem_append_right _ List.mem_cons_self
    · rw [hreq]
      intro r hr v o he
      rcases List.mem_append.mp hr with hr | hr
      · have := htrips r hr
        rw [he] at this
        cases this
      · rw [he] at hr
        cases List.mem_singleton.mp hr
    · rw [hreq, List.length_append, List.length_singleton]
      omega

/-- The flow test in phase CONFIGURED, by the flow state and the loop (08 R147). -/
theorem State.flowTest_ends (x : State) (hc : x.Calm) (hconf : x.configured = true) :
    (x.clc.flow = .flowOk → x.anyRunning = false → x.flowTest.settle.loop =
        { x.loop with flow := .flowGrace, graceTimer := some (x.prm.flowGrace * 1000) } ∧
      x.flowTest.settle.stc.flow = .flowGrace) ∧
    (x.clc.flow = .flowGrace → x.anyRunning = true → x.flowTest.settle.loop = { x.loop with flow := .flowOk, graceTimer := none } ∧
      x.flowTest.settle.stc.flow = .flowOk) ∧
    (x.clc.flow = .flowLost → x.anyRunning = true → x.flowTest.settle.loop = { x.loop with flow := .flowOk, lostFlag := false } ∧
      x.flowTest.settle.stc.flow = .flowOk ∧
      (x.clc.lostFlag = true → inMembers .flowLost x.flowTest.settle.flu.members = false)) ∧
    ((x.clc.flow = .flowOk → x.anyRunning = true) → (x.clc.flow ≠ .flowOk → x.anyRunning = false) →
      x.flowTest.settle = x) := by
  refine ⟨fun hf ho => ?_, fun hf ho => ?_, fun hf ho => ?_, fun h1 h2 => ?_⟩
  · have he : x.flowTest =
        State.setFlow { x with clc := { x.clc with graceTimer := some (x.prm.flowGrace * 1000) } } .flowGrace := by
      unfold State.flowTest
      rw [if_pos hconf, hf, ho]
    rw [he]
    exact State.setFlow_settled _ _
  · have he : x.flowTest = State.setFlow { x with clc := { x.clc with graceTimer := none } } .flowOk := by
      unfold State.flowTest
      rw [if_pos hconf, hf, ho]
    rw [he]
    exact State.setFlow_settled _ _
  · have hkept : (x.setFlow .flowOk).clc.lostFlag = x.clc.lostFlag := (congrArg Clc.lostFlag (x.setFlow_leaves .flowOk).1 :)
    have he : x.flowTest = if x.clc.lostFlag = true then
        State.clear { x.setFlow .flowOk with clc := { (x.setFlow .flowOk).clc with lostFlag := false } } .flowLost
        else x.setFlow .flowOk := by
      unfold State.flowTest
      rw [if_pos hconf, hf, ho]
      dsimp only
      rw [hkept]
    cases hl : x.clc.lostFlag with
    | true =>
      rw [he, if_pos hl]
      obtain ⟨k1, k2, k3⟩ := x.flowFound_settled hc.1 rfl
      exact ⟨k1, k2, fun _ => k3⟩
    | false =>
      rw [he, if_neg (by rw [hl]; decide)]
      obtain ⟨k1, k2⟩ := x.setFlow_settled .flowOk
      refine ⟨k1.trans ?_, k2, fun k => by cases k⟩
      have hx : x.loop.lostFlag = false := hl
      generalize x.loop = c at hx
      rw [← hx]
  · have he : x.flowTest = x := by
      unfold State.flowTest
      rw [if_pos hconf]
      split
      · rename_i hf ho
        rw [h1 hf] at ho
        cases ho
      · rename_i hf ho
        rw [h2 (by rw [hf]; decide)] at ho
        cases ho
      · rename_i hf ho
        rw [h2 (by rw [hf]; decide)] at ho
        cases ho
      · rfl
    rw [he, State.settle_of_empty _ hc.1]

/-! ### A station without a pump -/

theorem State.lookAgain_noPump {x : State} (h : x.icu.straps.pumpRole = .noRole) : x.lookAgain = x.flowTest.settle := by
  have hs : x.startTests = x := by
    unfold State.startTests
    rw [h]
  have hb : x.bothRunningTest = x := State.bothRunningTest_still fun ⟨k, _⟩ => by
    rw [h] at k
    cases k
  have hg : x.outgoingTest = x := by
    unfold State.outgoingTest State.ownPump
    rw [h]
  exact congrArg State.settle (State.viewTests_rests 7 hs rfl hb hg)

theorem State.handoverRequest_none {x : State} (f : PumpFields) (h : x.ownPump ≠ some f.pump.other) : x.handoverRequest f = x :=
  if_neg fun k => h k.2.2.1

/-- The flow state after a flow test (08 R147). -/
def flowAfter : FlowState → Bool → FlowState
  | .flowOk, false => .flowGrace
  | .flowGrace, true | .flowLost, true => .flowOk
  | f, _ => f

/-- Settles O47: a PUMP_STATE at a station without a pump. -/
theorem pumpReported : Obligations.PumpReported := by
  intro source p o duty s payload hh hd hrole hc u view viewed on flow
  have he := exec_pumpState_heard source p o duty s hh hd
  have hnone : s.ownPump = none := by
    unfold State.ownPump
    rw [hrole]
  obtain ⟨htaken, hignored⟩ := State.heard_takePump source p o duty s hh.2.2.1 (by rw [hnone]; simp)
  refine ⟨fun hv => ?_, fun n hn hlt hp => he.trans (congrArg Host.Outcome.next (hignored n hn hlt hp))⟩
  rw [htaken hv] at he
  generalize hx : ({ u with clc := viewed } : State) = x
  have hreq : State.handoverRequest { s.heard (some .pumpState) source with clc := s.clc.viewed p o source }
      { pump := p, owner := o, handover := o == .handingOff, duty := duty } = x := by
    rw [← hx]
    exact State.handoverRequest_none _ (by show s.ownPump ≠ _; rw [hnone]; simp)
  rw [hreq, State.lookAgain_noPump (by rw [← hx]; exact hrole)] at he
  have hxc : x.Calm := by
    rw [← hx]
    exact hc
  have hxconf : x.configured = s.configured := by rw [← hx]; rfl
  have hxclc : x.clc = viewed := by rw [← hx]
  refine ⟨fun hconf => ?_, fun hconf => ?_⟩
  · have hf : x.flowTest = x := if_neg (by rw [hxconf, hconf]; decide)
    rw [he, hf, State.settle_of_empty _ hxc.1]
  · have hon : on = x.anyRunning := by rw [← hx]
    have hflow : x.clc.flow = s.clc.flow := by rw [hxclc]
    have hgrace : x.clc.graceTimer = s.clc.graceTimer := by rw [hxclc]
    have hprm : x.prm = s.prm := by rw [← hx]; rfl
    have houter : x.flowTest.settle.outer = x.outer := (State.settle_outer _).trans (by simp)
    have hicu : x.flowTest.settle.icu = s.icu := (State.outer_icu houter).trans (by rw [← hx]; rfl)
    have hptb : x.flowTest.settle.ptb = u.ptb := (State.outer_ptb houter).trans (by rw [← hx])
    have hlev : x.flowTest.settle.levels = s.levels := (State.outer_levels houter).trans (by rw [← hx]; rfl)
    obtain ⟨k1, k2, k3, k4⟩ := x.flowTest_ends hxc (hxconf.trans hconf)
    have hafter : flow = flowAfter s.clc.flow x.anyRunning := by
      rw [← hon]
      rfl
    have hviews {d : Clc} (h : x.flowTest.settle.loop = d) (ha : d.viewA = x.clc.viewA) (hb : d.viewB = x.clc.viewB) :
        x.flowTest.settle.clc.viewA = viewed.viewA ∧ x.flowTest.settle.clc.viewB = viewed.viewB := by
      rw [← hxclc]
      exact ⟨(congrArg Clc.viewA h :).trans ha, (congrArg Clc.viewB h :).trans hb⟩
    have hstands (h : x.flowTest.settle = x) : x.flowTest.settle.clc.viewA = viewed.viewA ∧
        x.flowTest.settle.clc.viewB = viewed.viewB ∧ x.flowTest.settle.clc.flow = s.clc.flow := by
      rw [h, hxclc]
      exact ⟨rfl, rfl, rfl⟩
    refine ⟨_, he, ?_⟩
    rw [hon]
    cases hf : s.clc.flow <;> cases ho : x.anyRunning <;> rw [hf, ho] at hafter <;> rw [hf] at hflow hstands <;> rw [hafter]
    case flowOk.false =>
      obtain ⟨hl, hs⟩ := k1 hflow ho
      obtain ⟨ha, hb⟩ := hviews hl rfl rfl
      exact ⟨ha, hb, (congrArg Clc.flow hl :), fun _ => ⟨hs, (congrArg Clc.graceTimer hl :).trans (by rw [hprm])⟩,
        nofun, nofun, hicu, hptb, hlev⟩
    case flowGrace.true =>
      obtain ⟨hl, hs⟩ := k2 hflow ho
      obtain ⟨ha, hb⟩ := hviews hl rfl rfl
      exact ⟨ha, hb, (congrArg Clc.flow hl :), fun _ => ⟨hs, (congrArg Clc.graceTimer hl :)⟩,
        nofun, nofun, hicu, hptb, hlev⟩
    case flowLost.true =>
      obtain ⟨hl, hs, hm⟩ := k3 hflow ho
      obtain ⟨ha, hb⟩ := hviews hl rfl rfl
      exact ⟨ha, hb, (congrArg Clc.flow hl :), fun _ => ⟨hs, (congrArg Clc.graceTimer hl :).trans hgrace⟩,
        nofun, fun _ _ => ⟨(congrArg Clc.lostFlag hl :), fun k => hm (by rw [hxclc]; exact k)⟩, hicu, hptb, hlev⟩
    case flowOk.true =>
      have ht := k4 (fun _ => ho) (fun k => absurd hflow k)
      obtain ⟨ha, hb, hs⟩ := hstands ht
      exact ⟨ha, hb, hs, fun k => absurd rfl k, fun _ => ht, nofun, hicu, hptb, hlev⟩
    case flowGrace.false =>
      have ht := k4 (fun k => by rw [hflow] at k; cases k) (fun _ => ho)
      obtain ⟨ha, hb, hs⟩ := hstands ht
      exact ⟨ha, hb, hs, fun k => absurd rfl k, fun _ => ht, nofun, hicu, hptb, hlev⟩
    case flowLost.false =>
      have ht := k4 (fun k => by rw [hflow] at k; cases k) (fun _ => ho)
      obtain ⟨ha, hb, hs⟩ := hstands ht
      exact ⟨ha, hb, hs, fun k => absurd rfl k, fun _ => ht, nofun, hicu, hptb, hlev⟩

end Sys2Proof.Machine
end

section
/-! SUPPORT. The own pump's record through the loop view changes, and through what comes before one in the configured
indication (08 R136, R138 to R145; 02 R25). -/

namespace Sys2Proof.Machine

/-! ### The record after a loop view change -/

theorem State.lookAgain_cannot {x : State} (hc : x.Calm) (h : x.mayStartPump = false) (h1 : x.clc.owner ≠ .running)
    (h2 : x.clc.owner ≠ .handingOff) : x.lookAgain.pumping = x.unheld.pumping :=
  (State.lookAgain_of (State.viewTests_cannot 7 h h1 h2) (x.unheld_keeps.calm hc)).1

theorem State.lookAgain_starts {x : State} (hc : x.Calm) (h : x.starts = true) (ho : x.clc.owner = .standby)
    (hf : x.levels.flow = false) : x.lookAgain.pumping = (x.changeOwner .starting).unheld.pumping :=
  (State.lookAgain_of (State.viewTests_starts 6 h ho hf) (State.changed_calm hc _)).1

theorem State.lookAgain_standby {x : State} {p : Pump} (hc : x.Calm) (hp : x.ownPump = some p) (ho : x.clc.owner = .standby)
    (hr : x.countsRunning p.other = true) : x.lookAgain.pumping = x.unheld.pumping :=
  (State.lookAgain_of (State.viewTests_standby 7 hp ho hr) (x.unheld_keeps.calm hc)).1

theorem State.holdStart_keeps (x : State) : x.Keeps x.holdStart := by
  unfold State.holdStart
  exact .ite _ (fun _ => .ite _ (fun _ => .refl x) fun _ => x.keeps_clc _ rfl rfl rfl) fun _ => x.keeps_clc _ rfl rfl rfl

theorem State.lookAgain_holds {x : State} (hc : x.Calm) (hb : x.icu.straps.pumpRole = .b) (h : x.starts = false)
    (ho : x.clc.owner = .standby) : x.lookAgain.pumping = x.holdStart.pumping :=
  (State.lookAgain_of (State.viewTests_holds 7 hb h ho) (x.holdStart_keeps.calm hc)).1

theorem State.lookAgain_yields {x : State} (hc : x.Calm) (h : x.yields) :
    x.lookAgain.pumping = (x.unheld.changeOwner .standby).unheld.pumping :=
  (State.lookAgain_of (State.viewTests_yields 6 h) (State.changed_calm (x.unheld_keeps.calm hc) _)).1

theorem State.lookAgain_runs {x : State} (hc : x.Calm) (ho : x.clc.owner = .running) (h : ¬ x.yields) :
    x.lookAgain.pumping = x.unheld.pumping :=
  (State.lookAgain_of (State.viewTests_unheld 7 (State.startTests_cannot (State.mayStartPump_owner (by rw [ho]; decide))) h
    (by rw [ho]; decide)) (x.unheld_keeps.calm hc)).1

/-- The start of a pump at a loop view change (08 R140). -/
theorem State.lookAgain_starting {x : State} (hc : x.Calm) (h : x.starts = true) (ho : x.clc.owner = .standby)
    (hf : x.levels.flow = false) : x.lookAgain.clc.owner = .starting ∧ x.lookAgain.clc.pumpOutput = true ∧
      x.lookAgain.clc.confirmTimer = some 10000 ∧ x.lookAgain.clc.startHold = none := by
  have hp := State.lookAgain_starts hc h ho hf
  rw [x.changed_pumping] at hp
  exact ⟨(congrArg Clc.owner hp :), (congrArg Clc.pumpOutput hp :), (congrArg Clc.confirmTimer hp :),
    (congrArg Clc.startHold hp :).trans (ite_self _)⟩

/-- What an owner that no test moves keeps, and the start hold it stops. -/
theorem State.lookAgain_still {x : State} (h : x.lookAgain.pumping = x.unheld.pumping) :
    x.lookAgain.clc.owner = x.clc.owner ∧ x.lookAgain.clc.pumpOutput = x.clc.pumpOutput ∧
      (x.icu.straps.pumpRole = .b → x.lookAgain.clc.startHold = none) := by
  rw [x.unheld_pumping] at h
  exact ⟨(congrArg Clc.owner h :), (congrArg Clc.pumpOutput h :), fun hb => (congrArg Clc.startHold h :).trans (if_pos hb)⟩

/-- The start hold of pump B (08 R139). -/
theorem State.lookAgain_holding {x : State} (hc : x.Calm) (hb : x.icu.straps.pumpRole = .b) (hm : x.mayStartPump = true)
    (hn : x.anyRunning = false) (hr : x.reported .a ≠ .shown .failed) : x.lookAgain.clc.owner = .standby ∧
      x.lookAgain.clc.startHold = (if x.clc.startHold.isSome then x.clc.startHold else some 15000) := by
  have ho := State.owner_standby hm
  have hs : x.starts = false := by
    unfold State.starts
    rw [hb]
    dsimp only
    rw [beq_eq_false_iff_ne.mpr hr, Bool.and_false]
  have hp := State.lookAgain_holds hc hb hs ho
  have hh : x.holdStart = if x.clc.startHold.isSome then x else { x with clc := { x.clc with startHold := some 15000 } } := by
    unfold State.holdStart
    exact if_pos (by rw [hm, hn]; rfl)
  rw [hh] at hp
  split at hp
  · rename_i hi
    exact ⟨(congrArg Clc.owner hp :).trans ho, (congrArg Clc.startHold hp :).trans (if_pos hi).symm⟩
  · rename_i hi
    exact ⟨(congrArg Clc.owner hp :).trans ho, (congrArg Clc.startHold hp :).trans (if_neg hi).symm⟩

theorem State.starts_a {x : State} (ha : x.icu.straps.pumpRole = .a) (hm : x.mayStartPump = true) (hn : x.anyRunning = false) :
    x.starts = true := by
  unfold State.starts
  rw [ha, hm, hn]
  rfl

theorem State.starts_b {x : State} (hb : x.icu.straps.pumpRole = .b) (hm : x.mayStartPump = true)
    (hr : x.reported .a = .shown .failed) : x.starts = true := by
  unfold State.starts
  rw [hb, hm, hr]
  rfl

/-! ### The configured indication -/

theorem State.Spares.after {s x t : State} (k : x.Spares t) (h : s.Spares x) : s.Spares t := h.trans k

theorem State.raiseNow_spares (s : State) (c : Code) (v : Int) (o : Option Origin) (hc : s.Calm)
    (ha : (c.actions o).pumpLatch = false) : s.Spares (s.raiseNow c v o) := by
  refine (State.settle_spares (s.raise c v o) hc.2 fun r hr => ?_).after (.of_coolant rfl)
  have hreq : (s.raise c v o).requests = [.raised c v o] := by
    show s.flu.inbox ++ [_] = _
    rw [hc.1]
    rfl
  rw [hreq, List.mem_singleton] at hr
  rw [hr, Request.sparesPump, ha]
  rfl

theorem State.clearNow_spares (s : State) (c : Code) (hc : s.Calm) : s.Spares (s.clearNow c) := by
  refine (State.settle_spares (s.clear c) hc.2 fun r hr => ?_).after (.of_coolant rfl)
  rw [s.clear_requests c hc.1, List.mem_singleton] at hr
  rw [hr]
  rfl

theorem State.mismatchTest_spares (s : State) (hc : s.Calm) : s.Spares s.mismatchTest := by
  unfold State.mismatchTest
  split
  · split
    · exact .refl s
    · exact (State.raiseNow_spares (s.setMismatch true) .configMismatch _ _ hc rfl).after (.of_coolant rfl)
  · split
    · exact (State.clearNow_spares (s.setMismatch false) _ hc).after (.of_coolant rfl)
    · exact .refl s

/-- Work of the string, with the FLU's work on what it brings about. -/
theorem State.Onward.spares {s t : State} (h : s.Onward t) (k : t.coolant = s.coolant) (hc : s.Calm) (ht : t.Indicated) :
    s.Spares t.settle := by
  obtain ⟨l, hl, htrip, _⟩ := h
  refine (t.settle_spares ht fun r hr => ?_).after (.of_coolant k)
  have hs : s.requests = [] := hc.1
  rw [hl, hs, List.nil_append] at hr
  exact Request.sparesPump_of_isTrip (htrip r hr)

theorem State.givePermits_spares (s : State) (run yaw : Bool) (hc : s.Calm) : s.Spares (s.givePermits run yaw) := by
  have h1 : s.Spares (if s.effectiveRun = run then s else (s.stcPermit s.effectiveRun).settle) ∧
      (if s.effectiveRun = run then s else (s.stcPermit s.effectiveRun).settle).Calm := by
    split
    · exact ⟨.refl s, hc⟩
    · exact ⟨(s.stcPermit_onward s.effectiveRun).spares (by simp) hc ((State.Carries.of_string (by simp [State.besidesString]) (s.stcPermit_work s.effectiveRun)).indicated hc.2),
        (s.stcPermit_keeps _).calm hc⟩
  unfold State.givePermits
  dsimp only
  generalize (if s.effectiveRun = run then s else (s.stcPermit s.effectiveRun).settle) = t at h1 ⊢
  obtain ⟨hs, ht⟩ := h1
  split
  · exact hs
  · have he : (t.ywcPermit t.effectiveYaw).settle = t.ywcPermit t.effectiveYaw :=
      State.settle_of_empty _ ((t.ywcPermit_requests _).trans ht.1)
    rw [he]
    exact hs.trans (.of_coolant (by simp))

theorem State.ptbConfigured_spares (s : State) (hc : s.Calm) : s.Spares s.ptbConfigured := by
  unfold State.ptbConfigured
  dsimp only
  generalize hx : ({ s with ptb := { s.ptb with silenceTimer := some s.period } } : State) = x
  have hxs : s.Spares x ∧ x.Calm := by
    rw [← hx]
    exact ⟨.of_coolant rfl, hc⟩
  have hi := x.supervisorIndication_keeps (x.isPresent s.prm.supervisor)
  have his : s.Spares (x.supervisorIndication (x.isPresent s.prm.supervisor)) := hxs.1.trans (.of_coolant (by simp))
  generalize x.supervisorIndication (x.isPresent s.prm.supervisor) = y at hi his
  have hyc := hi.calm hxs.2
  generalize hz : (if y.isPresent s.prm.supervisor = true then y else y.raiseNow .supervisorLost s.prm.supervisor.val) = z
  have hzs : s.Spares z ∧ z.Calm := by
    rw [← hz]
    split
    · exact ⟨his, hyc⟩
    · exact ⟨his.trans (y.raiseNow_spares _ _ _ hyc rfl), (State.raiseNow_keeps _ _ _ _).calm hyc⟩
  exact (hzs.1.trans (z.mismatchTest_spares hzs.2)).trans (State.givePermits_spares _ _ _ (z.mismatchTest_keeps.calm hzs.2))

theorem State.stcConfigured_onward (s : State) : s.Onward s.stcConfigured := by
  have hf : s.Onward (State.formLimit { s with stc := { s.stc with shareTimer := some s.period } }) :=
    State.Onward.from (s' := { s with stc := { s.stc with shareTimer := some s.period } }) rfl rfl (State.formLimit_onward _)
  unfold State.stcConfigured
  dsimp only
  split
  · refine hf.trans ?_
    rw [State.drive_eq]
    exact .of_eq rfl (Nat.zero_le _)
  · exact hf.trans (State.startTest_onward _)

theorem State.stcConfigured_spares (s : State) (hc : s.Calm) : s.Spares s.stcConfigured.settle := by
  refine s.stcConfigured_onward.spares ?_ hc (s.stcConfigured_carries.indicated hc.2)
  unfold State.stcConfigured
  dsimp only
  split
  · exact (State.drive_coolant _ _ _).trans (State.formLimit_coolant _)
  · exact (State.startTest_coolant _).trans (State.formLimit_coolant _)

theorem State.ptbConfigured_entries (s : State) : s.ptbConfigured.ptb.entries = s.ptb.entries := by
  unfold State.ptbConfigured
  dsimp only
  generalize hx : ({ s with ptb := { s.ptb with silenceTimer := some s.period } } : State) = x
  have hxe : x.ptb.entries = s.ptb.entries := by rw [← hx]
  have hi := x.supervisorIndication_outer (x.isPresent s.prm.supervisor)
  generalize x.supervisorIndication (x.isPresent s.prm.supervisor) = y at hi
  generalize hz : (if y.isPresent s.prm.supervisor = true then y else y.raiseNow .supervisorLost s.prm.supervisor.val) = z
  have hzo : z.outer = x.outer := by
    rw [← hz]
    split
    · exact hi
    · exact (State.raiseNow_outer _ _ _ _).trans hi
  have hg : (z.mismatchTest.givePermits false false).ptb.entries = z.mismatchTest.ptb.entries :=
    congrArg Ptb.entries (State.outer_ptb (z.mismatchTest.givePermits_outer false false))
  exact hg.trans (z.mismatchTest_work.entries.trans ((congrArg Ptb.entries (State.outer_ptb hzo)).trans hxe))

/-- The configured indication is a loop view change of a state whose pump and loop stand as they stood (08 R138, R139). -/
theorem State.configuredIndication_looks (s : State) (hc : s.Calm) : ∃ x : State, s.configuredIndication = x.lookAgain ∧
    x.Calm ∧ x.icu = s.icu ∧ x.levels = s.levels ∧ x.ptb.entries = s.ptb.entries ∧
    x.clc.owner = s.clc.owner ∧ x.clc.startHold = s.clc.startHold ∧ x.clc.viewA = s.clc.viewA ∧ x.clc.viewB = s.clc.viewB ∧
    (s.clc.latch = false → x.clc.latch = false) := by
  have hlif : s.Keeps s.lifConfigured.testPressure := (s.keeps_lif _).trans (State.testPressure_keeps _)
  have he : s.configuredIndication =
      s.lifConfigured.testPressure.ptbConfigured.stcConfigured.settle.ywcConfigured.clcConfigured.settle := rfl
  have hw : s.lifConfigured.testPressure.clc = s.clc ∧ s.lifConfigured.testPressure.outer = s.outer := ⟨rfl, rfl⟩
  generalize s.lifConfigured.testPressure = w at hlif he hw
  have hwc := hlif.calm hc
  have hzc := w.ptbConfigured_keeps.calm hwc
  have hzs := w.ptbConfigured_spares hwc
  have hze := w.ptbConfigured_entries
  obtain ⟨hi, hl, _⟩ := w.ptbConfigured_work
  generalize w.ptbConfigured = z at he hzc hzs hze hi hl
  have hvs := hzs.trans (z.stcConfigured_spares hzc)
  have hvc := z.stcConfigured_keeps.calm hzc
  have hvo : z.stcConfigured.settle.outer = z.outer := (State.settle_outer _).trans (State.stcConfigured_outer _)
  generalize z.stcConfigured.settle = v at he hvs hvc hvo
  have hys : w.Spares v.ywcConfigured := hvs.trans (.of_coolant (by
    obtain ⟨y, hy⟩ := v.ywcConfigured_only
    rw [hy]
    rfl))
  have hyc := (v.ywcConfigured_carries.keeps v.ywcConfigured_requests).calm hvc
  have hout := v.ywcConfigured_outer.trans hvo
  generalize v.ywcConfigured = y at he hys hyc hout
  have hu : y.unlatched = s.unlatched := hys.clc.trans (by unfold State.unlatched; rw [hw.1])
  refine ⟨{ y with clc := { y.clc with
      sampleTimer := some y.period
      fanStepTimer := if y.ownsFans then some 60000 else y.clc.fanStepTimer
      cover := .uncovered } }, he, hyc, (State.outer_icu hout).trans (hi.trans (State.outer_icu hw.2)),
    (State.outer_levels hout).trans (hl.trans (State.outer_levels hw.2)),
    (congrArg Ptb.entries (State.outer_ptb hout)).trans (hze.trans (congrArg Ptb.entries (State.outer_ptb hw.2))),
    (congrArg Clc.owner hu :), (congrArg Clc.startHold hu :), (congrArg Clc.viewA hu :), (congrArg Clc.viewB hu :),
    fun k => hys.latch (by rw [hw.1]; exact k)⟩

end Sys2Proof.Machine
end

section
/-! PROOFS. How a pump comes to STARTING, to RUNNING and back to STANDBY (08 R138 to R145). -/

namespace Sys2Proof.Machine

/-! ### A frame for the other pump taken -/

/-- The state with a PUMP_STATE for a pump counted and taken into the view. -/
def State.seen (s : State) (source : Station) (p : Pump) (o : PumpOwner) : State :=
  { s.heard (some .pumpState) source with clc := s.clc.viewed p o source }

theorem Clc.viewed_view (c : Clc) (p : Pump) (o : PumpOwner) (source : Station) :
    (c.viewed p o source).view p = { owner := some source, reported := .shown o, handover := o == .handingOff } := by
  cases p <;> rfl

theorem Clc.viewed_view_other (c : Clc) (p : Pump) (o : PumpOwner) (source : Station) :
    (c.viewed p.other o source).view p = c.view p := by
  cases p <;> rfl

/-- What the loop view shows of the other pump once its frame is taken (08 R135, R136). -/
theorem State.seen_other (s : State) (source : Station) {own : Pump} (o : PumpOwner) (hown : s.ownPump = some own)
    (hp : (s.peer source).presence = .present) : (s.seen source own.other o).reported own.other = .shown o ∧
      (s.seen source own.other o).countsRunning own.other = (o == .running || o == .handingOff) := by
  have hne : (s.seen source own.other o).ownPump ≠ some own.other := by
    show s.ownPump ≠ _
    rw [hown]
    exact own.other_ne
  have hview : (s.seen source own.other o).clc.view own.other = _ := s.clc.viewed_view own.other o source
  have hrep : (s.seen source own.other o).reported own.other = .shown o := by
    rw [State.reported_other hne, hview]
  have hpres : (s.seen source own.other o).ownerPresent own.other = true := by
    unfold State.ownerPresent
    rw [hview]
    exact (s.heard_isPresent (some .pumpState) hp source).trans ((s.isPresent_iff source).mpr hp)
  refine ⟨hrep, ?_⟩
  unfold State.countsRunning
  rw [hrep, hpres]
  dsimp only
  rw [Bool.or_true, Bool.and_true]
  cases o <;> rfl

/-- A frame for the other pump that is taken (08 R135, R143). -/
theorem exec_pumpState_other (source : Station) (o : PumpOwner) (duty : Nat) (s : State) {own : Pump}
    (hh : s.Hears .pumpState source (encodePump own.other o duty)) (hd : duty < 65536) (hown : s.ownPump = some own)
    (hv : ∀ n, (s.clc.view own.other).owner = some n → n = source ∨ source.val < n.val ∨ (s.peer n).presence ≠ .present) :
    exec (.pumpState source (encodePump own.other o duty)) s = .next (((s.seen source own.other o).handoverRequest
      { pump := own.other, owner := o, handover := o == .handingOff, duty := duty }).lookAgain) := by
  rw [exec_pumpState_heard source own.other o duty s hh hd,
    (State.heard_takePump source own.other o duty s hh.2.2.1 (by rw [hown]; exact own.other_ne)).1 hv]
  rfl

/-- A handover request that starts the pump (08 R143, R145). -/
theorem State.handoverRequest_starts {x : State} {own : Pump} (duty : Nat) (hc : x.Calm) (ho : x.ownPump = some own)
    (hm : x.mayStartPump = true) (hf : x.levels.flow = false) {t : State}
    (ht : t = (x.handoverRequest { pump := own.other, owner := .handingOff, handover := true, duty := duty }).lookAgain) :
    t.clc.owner = .starting ∧ t.clc.pumpOutput = true ∧ t.clc.confirmTimer = some 10000 ∧ t.clc.startHold = none ∧
      (own = .b → t.clc.incoming = true) := by
  have hrole : (x.icu.straps.pumpRole = .b) ↔ own = .b := by
    unfold State.ownPump at ho
    split at ho
    · cases ho
    · rename_i hr
      cases ho
      simp [hr]
    · rename_i hr
      cases ho
      simp [hr]
  have he : x.handoverRequest { pump := own.other, owner := .handingOff, handover := true, duty := duty } =
      if own = .b then { x.changeOwner .starting with clc := { (x.changeOwner .starting).clc with incoming := true } }
      else x.changeOwner .starting := by
    unfold State.handoverRequest
    rw [if_pos ⟨rfl, rfl, ho.trans (by cases own <;> rfl), hm⟩, State.enterStarting_eq hf]
    simp only [hrole]
  have hcc := (x.changeOwner_keeps .starting).calm hc
  generalize hy : x.handoverRequest _ = y at ht he
  have hyc : y.Calm := by
    rw [← hy]
    exact (x.handoverRequest_keeps _).calm hc
  have hcool := x.changeOwner_coolant .starting
  have hpump : y.pumping = { (x.setOwner .starting).pumping with
      incoming := if own = .b then true else (x.setOwner .starting).clc.incoming } := by
    have h := x.changeOwner_pumping .starting
    rw [he]
    split
    · exact (congrArg (fun c : Clc => { c with incoming := true }) h :)
    · exact h
  have hown : y.clc.owner = .starting := (congrArg Clc.owner hpump :)
  have hl := State.lookAgain_cannot hyc (State.mayStartPump_owner (by rw [hown]; decide)) (by rw [hown]; decide)
    (by rw [hown]; decide)
  have hsh : y.clc.startHold = none := (congrArg Clc.startHold hpump :)
  rw [y.unheld_pumping, hpump, hsh, ite_self, ← ht] at hl
  exact ⟨(congrArg Clc.owner hl :), (congrArg Clc.pumpOutput hl :), (congrArg Clc.confirmTimer hl :),
    (congrArg Clc.startHold hl :), fun hb => (congrArg Clc.incoming hl :).trans (if_pos hb)⟩

/-- A frame that requests no handover, or one at a pump that may not start. -/
theorem State.handoverRequest_waits {x : State} (p : Pump) (o : PumpOwner) (duty : Nat)
    (h : o ≠ .handingOff ∨ x.mayStartPump = false) :
    x.handoverRequest { pump := p, owner := o, handover := o == .handingOff, duty := duty } = x := by
  refine if_neg fun ⟨h1, _, _, h4⟩ => ?_
  rcases h with h | h
  · exact h h1
  · rw [h] at h4
    cases h4

theorem State.role_of_ownPump {s : State} {own : Pump} (h : s.ownPump = some own) :
    s.icu.straps.pumpRole = match own with | .a => .a | .b => .b := by
  unfold State.ownPump at h
  split at h
  · cases h
  · rename_i hr
    cases h
    exact hr
  · rename_i hr
    cases h
    exact hr

theorem State.mayStartPump_iff (s : State) :
    s.mayStartPump = true ↔ s.clc.owner = .standby ∧ s.configured = true ∧ s.clc.latch = false := by
  unfold State.mayStartPump
  simp only [Bool.and_eq_true, beq_iff_eq, Bool.not_eq_true', and_assoc]

/-- What a frame for the other pump does at an owner in STANDBY that may start (08 R138, R139, R143). -/
theorem State.seen_starts (s : State) (source : Station) (own : Pump) (o : PumpOwner) (duty : Nat) (hc : s.Calm)
    (hown : s.ownPump = some own) (hp : (s.peer source).presence = .present) (hf : s.levels.flow = false)
    (hm : s.mayStartPump = true) {t : State}
    (ht : t = ((s.seen source own.other o).handoverRequest
      { pump := own.other, owner := o, handover := o == .handingOff, duty := duty }).lookAgain) :
    (own = .a ∧ o ≠ .running ∨ own = .b ∧ o = .failed →
      t.clc.owner = .starting ∧ t.clc.pumpOutput = true ∧ t.clc.confirmTimer = some 10000 ∧ t.clc.startHold = none) ∧
    (o = .running → t.clc.owner = .standby ∧ (own = .b → t.clc.startHold = none)) ∧
    (own = .b → o ∈ [.noPump, .standby, .starting] → t.clc.owner = .standby ∧
      t.clc.startHold = (if s.clc.startHold.isSome then s.clc.startHold else some 15000)) := by
  obtain ⟨hrep, hcount⟩ := s.seen_other source o hown hp
  have hrole := State.role_of_ownPump hown
  generalize hx : s.seen source own.other o = x at ht hrep hcount
  have hxc : x.Calm := by
    rw [← hx]
    exact hc
  have hxown : x.ownPump = some own := by
    rw [← hx]
    exact hown
  have hxm : x.mayStartPump = true := by
    rw [← hx]
    exact hm
  have hxf : x.levels.flow = false := by
    rw [← hx]
    exact hf
  have hxr : x.icu.straps.pumpRole = s.icu.straps.pumpRole := by
    rw [← hx]
    rfl
  have hxh : x.clc.startHold = s.clc.startHold := by
    rw [← hx]
    rfl
  have hxo := State.owner_standby hxm
  have hany : x.anyRunning = (o == .running || o == .handingOff) :=
    (State.anyRunning_standing hxown (by rw [hxo]; decide) (by rw [hxo]; decide)).trans hcount
  have waits (ho : o ≠ .handingOff) : t = x.lookAgain := ht.trans (by rw [State.handoverRequest_waits _ o duty (.inl ho)])
  refine ⟨fun hcase => ?_, fun ho => ?_, fun hb ho => ?_⟩
  · by_cases hh : o = .handingOff
    · subst hh
      obtain ⟨h1, h2, h3, h4, _⟩ := State.handoverRequest_starts duty hxc hxown hxm hxf ht
      exact ⟨h1, h2, h3, h4⟩
    · have hstarts : x.starts = true := by
        rcases hcase with ⟨ha, hr⟩ | ⟨hb, hr⟩
        · subst ha
          exact State.starts_a (hxr.trans hrole) hxm
            (by rw [hany, beq_eq_false_iff_ne.mpr hr, beq_eq_false_iff_ne.mpr hh]; rfl)
        · subst hb hr
          exact State.starts_b (hxr.trans hrole) hxm hrep
      rw [waits hh]
      exact State.lookAgain_starting hxc hstarts hxo hxf
  · subst ho
    obtain ⟨h1, _, h3⟩ := State.lookAgain_still (State.lookAgain_standby hxc hxown hxo hcount)
    rw [waits (by decide)]
    exact ⟨h1.trans hxo, fun hb => h3 (by subst hb; exact hxr.trans hrole)⟩
  · subst hb
    have hne : o ≠ .running ∧ o ≠ .handingOff ∧ o ≠ .failed := by
      revert ho
      cases o <;> decide
    obtain ⟨h1, h2, h3⟩ := hne
    have hrepa : x.reported .a = .shown o := hrep
    rw [waits h2, ← hxh]
    exact State.lookAgain_holding hxc (hxr.trans hrole) hxm
      (by rw [hany, beq_eq_false_iff_ne.mpr h1, beq_eq_false_iff_ne.mpr h2]; rfl)
      (by rw [hrepa]; exact fun k => h3 (by cases k; rfl))

/-- What a frame for the other pump does at a RUNNING owner (08 R145). -/
theorem State.seen_runs (s : State) (source : Station) (own : Pump) (o : PumpOwner) (duty : Nat) (hc : s.Calm)
    (hown : s.ownPump = some own) (hp : (s.peer source).presence = .present) (ho : s.clc.owner = .running) {t : State}
    (ht : t = ((s.seen source own.other o).handoverRequest
      { pump := own.other, owner := o, handover := o == .handingOff, duty := duty }).lookAgain) :
    (own = .b → o = .running → t.clc.owner = .standby ∧ t.clc.pumpOutput = false ∧ t.clc.dutyTimer = none ∧
      t.clc.duty = s.clc.duty) ∧
    (own = .a ∨ o ≠ .running → t.clc.owner = .running ∧ t.clc.pumpOutput = s.clc.pumpOutput) := by
  obtain ⟨hrep, hcount⟩ := s.seen_other source o hown hp
  have hrole := State.role_of_ownPump hown
  have hinc : own = .b → o = .running → (s.seen source own.other o).clc.incoming = false := by
    rintro rfl rfl
    rfl
  generalize hx : s.seen source own.other o = x at ht hrep hcount hinc
  have hxc : x.Calm := by
    rw [← hx]
    exact hc
  have hxo : x.clc.owner = .running := by
    rw [← hx]
    exact ho
  have hxr : x.icu.straps.pumpRole = s.icu.straps.pumpRole := by
    rw [← hx]
    rfl
  have hkeep : x.clc.duty = s.clc.duty ∧ x.clc.pumpOutput = s.clc.pumpOutput := by
    rw [← hx]
    exact ⟨rfl, rfl⟩
  rw [State.handoverRequest_waits _ o duty (.inr (State.mayStartPump_owner (by rw [hxo]; decide)))] at ht
  refine ⟨fun hb hr => ?_, fun hcase => ?_⟩
  · subst hb hr
    have hy : x.yields := ⟨hxr.trans hrole, hxo, hinc rfl rfl, hcount, hrep⟩
    have hl := State.lookAgain_yields hxc hy
    rw [State.changed_pumping, ← ht] at hl
    have hu : x.unheld.clc.duty = x.clc.duty := by
      obtain ⟨_, _, _, h⟩ := x.unheld_spec
      rw [h]
    exact ⟨(congrArg Clc.owner hl :), (congrArg Clc.pumpOutput hl :), (congrArg Clc.dutyTimer hl :),
      (congrArg Clc.duty hl :).trans (hu.trans hkeep.1)⟩
  · have hn : ¬ x.yields := by
      rintro ⟨hb, _, _, _, hra⟩
      rw [hxr, hrole] at hb
      cases own with
      | a => cases hb
      | b =>
        have hrepa : x.reported .a = .shown o := hrep
        rw [hrepa] at hra
        rcases hcase with h | h
        · cases h
        · exact h (by cases hra; rfl)
    obtain ⟨h1, h2, _⟩ := State.lookAgain_still (State.lookAgain_runs hxc hxo hn)
    rw [ht]
    exact ⟨h1.trans hxo, h2.trans hkeep.2⟩

theorem Pump.eq_other {own other : Pump} (h : other ≠ own) : other = own.other := by
  cases own <;> cases other <;> first | rfl | exact absurd rfl h

/-- A frame for the other pump at an owner in STANDBY that may not start. -/
theorem State.seen_cannot (s : State) (source : Station) (own : Pump) (o : PumpOwner) (duty : Nat) (hc : s.Calm)
    (hown : s.ownPump = some own) (ho : s.clc.owner = .standby) (hm : s.mayStartPump = false) {t : State}
    (ht : t = ((s.seen source own.other o).handoverRequest
      { pump := own.other, owner := o, handover := o == .handingOff, duty := duty }).lookAgain) :
    t.clc.owner = .standby ∧ (own = .b → t.clc.startHold = none) := by
  have hxm : (s.seen source own.other o).mayStartPump = false := hm
  have hxo : (s.seen source own.other o).clc.owner = .standby := ho
  rw [State.handoverRequest_waits _ o duty (.inr hxm)] at ht
  have hl := State.lookAgain_cannot (x := s.seen source own.other o) hc hxm (by rw [hxo]; decide) (by rw [hxo]; decide)
  obtain ⟨h1, _, h3⟩ := State.lookAgain_still hl
  rw [ht]
  refine ⟨h1.trans hxo, fun hb => h3 ?_⟩
  subst hb
  exact State.role_of_ownPump hown

theorem State.mayStartPump_barred {s : State} (h : s.configured = false ∨ s.clc.latch = true) : s.mayStartPump = false := by
  unfold State.mayStartPump
  rcases h with h | h
  · rw [h, Bool.and_false]
    rfl
  · rw [h]
    exact Bool.and_false _

/-- Entry to RUNNING and the loop view change that it is (08 R140, R144). -/
theorem State.enterRunning_looks (s : State) (hc : s.Calm) :
    ((s.icu.straps.pumpRole ≠ .b ∨ s.clc.incoming = true ∨ s.countsRunning .a = false) →
      s.enterRunning.lookAgain.clc.owner = .running ∧ s.enterRunning.lookAgain.clc.pumpOutput = true ∧
        s.enterRunning.lookAgain.clc.duty = 60 * s.prm.dutyHours ∧ s.enterRunning.lookAgain.clc.confirmTimer = none ∧
        s.enterRunning.lookAgain.clc.handoffTimer = none ∧ s.enterRunning.lookAgain.clc.dutyTimer = some 60000) ∧
    (s.icu.straps.pumpRole = .b → s.clc.incoming = false → s.countsRunning .a = true → s.reported .a = .shown .running →
      s.enterRunning.lookAgain.clc.owner = .standby ∧ s.enterRunning.lookAgain.clc.pumpOutput = false ∧
        s.enterRunning.lookAgain.clc.duty = 60 * s.prm.dutyHours ∧ s.enterRunning.lookAgain.clc.dutyTimer = none ∧
        s.enterRunning.lookAgain.clc.handoffTimer = none ∧ s.enterRunning.lookAgain.clc.startHold = none) := by
  have hcalm := s.enterRunning_keeps.calm hc
  have hpump : s.enterRunning.pumping = (s.loadDuty.setOwner .running).pumping := s.loadDuty.changeOwner_pumping .running
  have hicu : s.enterRunning.icu = s.icu := State.outer_icu s.enterRunning_outer
  have hptb : s.enterRunning.ptb = s.ptb := State.outer_ptb s.enterRunning_outer
  have hother (hb : s.icu.straps.pumpRole = .b) : s.enterRunning.countsRunning .a = s.countsRunning .a ∧
      s.enterRunning.reported .a = s.reported .a := by
    obtain ⟨_, h2, h3⟩ := s.loadDuty.changeOwner_other .running (p := .b) (State.ownPump_b hb)
    exact ⟨h2, h3⟩
  generalize s.enterRunning = y at *
  have hown : y.clc.owner = .running := (congrArg Clc.owner hpump :)
  have hinc : y.clc.incoming = s.clc.incoming := (congrArg Clc.incoming hpump :)
  refine ⟨fun hcase => ?_, fun hb hi hr hrep => ?_⟩
  · have hn : ¬ y.yields := by
      rintro ⟨hb, _, hi, hr, _⟩
      rw [hicu] at hb
      rw [(hother hb).1] at hr
      rw [hinc] at hi
      rcases hcase with h | h | h
      · exact h hb
      · rw [h] at hi
        cases hi
      · rw [h] at hr
        cases hr
    have hl := State.lookAgain_runs hcalm hown hn
    rw [y.unheld_pumping, hpump] at hl
    exact ⟨(congrArg Clc.owner hl :), (congrArg Clc.pumpOutput hl :), (congrArg Clc.duty hl :), (congrArg Clc.confirmTimer hl :),
      (congrArg Clc.handoffTimer hl :), (congrArg Clc.dutyTimer hl :)⟩
  · obtain ⟨h1, h2⟩ := hother hb
    have hl := State.lookAgain_yields hcalm ⟨by rw [hicu]; exact hb, hown, hinc.trans hi, h1.trans hr, h2.trans hrep⟩
    rw [State.changed_pumping, y.unheld_icu, hicu, if_pos hb] at hl
    have hu : y.unheld.clc.duty = y.clc.duty := by
      obtain ⟨_, _, _, h⟩ := y.unheld_spec
      rw [h]
    exact ⟨(congrArg Clc.owner hl :), (congrArg Clc.pumpOutput hl :),
      (congrArg Clc.duty hl :).trans (hu.trans (congrArg Clc.duty hpump :)), (congrArg Clc.dutyTimer hl :),
      (congrArg Clc.handoffTimer hl :), (congrArg Clc.startHold hl :)⟩

end Sys2Proof.Machine
end

section
/-! PROOFS. Pump starts and the exchange of PUMP_STATE between owners (08 R135, R138 to R146). -/

namespace Sys2Proof.Machine

/-! ### Starts -/

/-- The start of pump B at the end of its start hold (08 R139). -/
theorem exec_startHoldExpiry_starts (s : State) (hc : s.Calm) (ht : s.clc.startHold.isSome = true)
    (hm : s.mayStartPump = true) (hf : s.levels.flow = false) : ∃ t, exec .startHoldExpiry s = .next t ∧
      t.clc.owner = .starting ∧ t.clc.pumpOutput = true ∧ t.clc.confirmTimer = some 10000 ∧ t.clc.startHold = none ∧
      t.icu = s.icu ∧ t.ptb = s.ptb ∧ t.levels = s.levels := by
  generalize hx : ({ s with clc := { s.clc with startHold := none } } : State) = x
  have hxm : x.mayStartPump = true := by
    rw [← hx]
    exact hm
  have hxf : x.levels.flow = false := by
    rw [← hx]
    exact hf
  have hxc : x.Calm := by
    rw [← hx]
    exact hc
  have hxo : x.outer = s.outer := by
    rw [← hx]
    rfl
  have he : exec .startHoldExpiry s = .next (x.changeOwner .starting).lookAgain := by
    rw [← State.enterStarting_eq hxf]
    rw [← hx] at hxm ⊢
    exact congrArg Host.Outcome.next ((if_pos ht).trans (if_pos hxm))
  have hcalm := (x.changeOwner_keeps .starting).calm hxc
  have hpump := x.changeOwner_pumping .starting
  have hout := (x.changeOwner_outer .starting).trans hxo
  generalize x.changeOwner .starting = y at he hcalm hpump hout
  have hown : y.clc.owner = .starting := (congrArg Clc.owner hpump :)
  have hsh : y.clc.startHold = none := (congrArg Clc.startHold hpump :)
  have hl := State.lookAgain_cannot hcalm (State.mayStartPump_owner (by rw [hown]; decide)) (by rw [hown]; decide)
    (by rw [hown]; decide)
  rw [y.unheld_pumping, hpump, hsh, ite_self] at hl
  have ho := y.lookAgain_outer.trans hout
  exact ⟨_, he, (congrArg Clc.owner hl :), (congrArg Clc.pumpOutput hl :), (congrArg Clc.confirmTimer hl :),
    (congrArg Clc.startHold hl :), State.outer_icu ho, State.outer_ptb ho, State.outer_levels ho⟩

/-- A flow switch coming on in STARTING (08 R140). -/
theorem exec_flowSwitch_starting (s : State) (hf : s.levels.flow = false) (ho : s.clc.owner = .starting) :
    exec .flowSwitchShowsFlow s =
      .next (State.enterRunning { s with levels := { s.levels with flow := true } }).lookAgain :=
  congrArg Host.Outcome.next ((if_neg (by rw [hf]; decide)).trans (if_pos ho))

theorem exec_handoffTimer (s : State) (h : s.clc.handoffTimer.isSome = true) :
    exec .handoffTimerExpiry s = .next s.enterRunning.lookAgain := congrArg Host.Outcome.next (if_pos h)

theorem State.enterRunning_lookAgain_outer (s : State) : s.enterRunning.lookAgain.outer = s.outer :=
  (State.lookAgain_outer _).trans s.enterRunning_outer

/-- The pump of an owner in STANDBY at the configured indication (08 R138, R139). -/
theorem State.accept_pump (u : State) (serial : Nat) (r : Params) (hc : u.Calm) (ho : u.clc.owner = .standby)
    (hl : u.clc.latch = false) (hf : u.levels.flow = false) :
    (u.icu.straps.pumpRole = .a ∧ u.anyRunning = false ∨ u.icu.straps.pumpRole = .b ∧ u.reported .a = .shown .failed →
      (u.accept serial r).clc.owner = .starting ∧ (u.accept serial r).clc.pumpOutput = true ∧
        (u.accept serial r).clc.confirmTimer = some 10000 ∧ (u.accept serial r).clc.startHold = none) ∧
    (u.icu.straps.pumpRole ≠ .noRole → u.anyRunning = true → (u.accept serial r).clc.owner = .standby ∧
      (u.icu.straps.pumpRole = .b → (u.accept serial r).clc.startHold = none)) ∧
    (u.icu.straps.pumpRole = .b → u.anyRunning = false → u.reported .a ≠ .shown .failed →
      (u.accept serial r).clc.owner = .standby ∧
        (u.accept serial r).clc.startHold = (if u.clc.startHold.isSome then u.clc.startHold else some 15000)) := by
  generalize hw : ({ u with icu := { u.icu with
    phase := .configured, assembly := none, params := some r, serial := serial, reject := 0 } } : State) = w
  have hacc : u.accept serial r = w.configuredIndication := by
    rw [← hw]
    rfl
  obtain ⟨x, he, hxc, hxi, hxl, hxe, hxo, hxh, hxa, hxb, hxlatch⟩ := w.configuredIndication_looks (by rw [← hw]; exact hc)
  rw [hacc, he]
  have hwo : w.clc = u.clc := by rw [← hw]
  have hview (p : Pump) : x.clc.view p = w.clc.view p := by cases p with
    | a => exact hxa
    | b => exact hxb
  have hpres (n : Station) : x.isPresent n = w.isPresent n := by
    unfold State.isPresent State.peer
    rw [hxe]
  have hrun (p : Pump) : x.reported p = u.reported p ∧ x.countsRunning p = u.countsRunning p := by
    obtain ⟨h1, h2⟩ := State.countsRunning_eq hxi hpres hxo hview p
    rw [h1, h2, ← hw]
    exact ⟨rfl, rfl⟩
  have hany : x.anyRunning = u.anyRunning := by
    unfold State.anyRunning
    rw [(hrun .a).2, (hrun .b).2]
  have hstandby : x.clc.owner = .standby := hxo.trans (by rw [hwo]; exact ho)
  have hm : x.mayStartPump = true := by
    refine x.mayStartPump_iff.mpr ⟨hstandby, ?_, hxlatch (by rw [hwo]; exact hl)⟩
    unfold State.configured
    rw [hxi, ← hw]
    rfl
  have hrole : x.icu.straps.pumpRole = u.icu.straps.pumpRole := by rw [hxi, ← hw]
  have hflow : x.levels.flow = false := by
    rw [hxl, ← hw]
    exact hf
  refine ⟨fun hcase => ?_, fun hr hn => ?_, fun hb hn hr => ?_⟩
  · refine State.lookAgain_starting hxc ?_ hstandby hflow
    rcases hcase with ⟨ha, hn⟩ | ⟨hb, hr⟩
    · exact State.starts_a (hrole.trans ha) hm (hany.trans hn)
    · exact State.starts_b (hrole.trans hb) hm ((hrun .a).1.trans hr)
  · obtain ⟨p, hp⟩ : ∃ p, x.ownPump = some p := by
      unfold State.ownPump
      rw [hrole]
      cases hrr : u.icu.straps.pumpRole with
      | noRole => exact absurd hrr hr
      | a => exact ⟨.a, rfl⟩
      | b => exact ⟨.b, rfl⟩
    have hother : x.countsRunning p.other = true :=
      (State.anyRunning_standing hp (by rw [hstandby]; decide) (by rw [hstandby]; decide)).symm.trans (hany.trans hn)
    obtain ⟨h1, _, h3⟩ := State.lookAgain_still (State.lookAgain_standby hxc hp hstandby hother)
    exact ⟨h1.trans hstandby, fun hb => h3 (hrole.trans hb)⟩
  · obtain ⟨h1, h2⟩ := State.lookAgain_holding hxc (hrole.trans hb) hm (hany.trans hn) (by rw [(hrun .a).1]; exact hr)
    rw [hxh, hwo] at h2
    exact ⟨h1, h2⟩

/-- Entry to RUNNING at the flow switch's coming on, with what it shows of pump A (08 R140, R145). -/
theorem exec_flowSwitch_enters (s : State) (hc : s.Calm) (hf : s.levels.flow = false) (ho : s.clc.owner = .starting) :
    ∃ x : State, exec .flowSwitchShowsFlow s = .next x.enterRunning.lookAgain ∧ x.Calm ∧ x.icu = s.icu ∧ x.ptb = s.ptb ∧
      x.levels = { s.levels with flow := true } ∧ x.prm = s.prm ∧ x.clc.incoming = s.clc.incoming ∧
      x.countsRunning .a = s.countsRunning .a ∧ x.reported .a = s.reported .a := by
  refine ⟨{ s with levels := { s.levels with flow := true } }, exec_flowSwitch_starting s hf ho, hc, rfl, rfl, rfl, rfl, rfl, ?_⟩
  generalize hx : ({ s with levels := { s.levels with flow := true } } : State) = x
  have hi : x.icu = s.icu := by rw [← hx]
  have hp : x.ptb = s.ptb := by rw [← hx]
  have hk : x.clc = s.clc := by rw [← hx]
  obtain ⟨h1, h2⟩ := State.countsRunning_eq hi (fun n => State.isPresent_eq hp n) (by rw [hk]) (fun q => by rw [hk]) .a
  exact ⟨h2, h1⟩

/-- Settles O49: pump starts at a PUMP_STATE taken, at the configured indication and at the start hold's end, the entries to
RUNNING, and pump B's yielding. -/
theorem pumpStarts : Obligations.PumpStarts := by
  refine ⟨?_, ?_, fun s hc _ ht hm hf => exec_startHoldExpiry_starts s hc ht hm hf, fun s hc hcase => ?_,
    fun s hc hb hi hr hrep => ?_⟩
  · intro source o duty s own other payload hh hd hown hne hc hv hf
    obtain rfl := Pump.eq_other hne
    have hp := hh.2.2.1
    refine ⟨_, exec_pumpState_other source o duty s hh hd hown hv, ?_⟩
    generalize ht : ((s.seen source own.other o).handoverRequest
      { pump := own.other, owner := o, handover := o == .handingOff, duty := duty }).lookAgain = t
    have hout : t.outer = (s.seen source own.other o).outer := by
      rw [← ht]
      exact (State.lookAgain_outer _).trans (State.handoverRequest_outer _ _)
    refine ⟨(State.outer_icu hout).trans rfl, (State.outer_levels hout).trans rfl, fun ho hm => ?_, fun ho hconf hl => ?_, fun hb ho => ?_,
      fun ha ho => ?_⟩
    · exact s.seen_cannot source own o duty hc hown ho (State.mayStartPump_barred hm) ht.symm
    · exact s.seen_starts source own o duty hc hown hp hf (s.mayStartPump_iff.mpr ⟨ho, hconf, hl⟩) ht.symm
    · obtain ⟨h1, h2⟩ := s.seen_runs source own o duty hc hown hp ho ht.symm
      exact ⟨h1 hb, fun h => h2 (.inr h)⟩
    · exact (s.seen_runs source own o duty hc hown hp ho ht.symm).2 (.inl ha)
  · intro source payload f a s hh hd hconf ht h5 ha hn hs hv hc ho hl hf
    have he := exec_configPart_heard source payload f s hh hd
    have hpres := s.heard_isPresent (some .configPart) hh.2.2.1
    generalize hu : s.heard (some .configPart) source = u at he hpres
    have hicu : u.icu = s.icu := by rw [← hu]; rfl
    have hclc : u.clc = s.clc := by rw [← hu]; rfl
    rw [u.takePart_inTurn f a (by rw [← hu]; exact hconf) (by rw [← hu]; exact ht) (by omega) (by omega)
      (by rw [hicu]; exact ha) (by omega) hs, if_pos h5, u.validateRecord_accepts _ (by rw [← hu]; exact hv)] at he
    dsimp only at he
    have hrun (p : Pump) : u.reported p = s.reported p ∧ u.countsRunning p = s.countsRunning p :=
      State.countsRunning_eq hicu hpres (by rw [hclc]) (fun q => by rw [hclc]) p
    have hany : u.anyRunning = s.anyRunning := by
      unfold State.anyRunning
      rw [(hrun .a).2, (hrun .b).2]
    obtain ⟨h1, h2, h3⟩ := u.accept_pump a.serial (decodeRecord (a.bytes ++ f.bytes)) (by rw [← hu]; exact hc)
      (by rw [hclc]; exact ho) (by rw [hclc]; exact hl) (by rw [← hu]; exact hf)
    rw [hicu, hany, (hrun .a).1] at h1
    rw [hicu, hany] at h2
    rw [hicu, hany, (hrun .a).1, hclc] at h3
    exact ⟨_, he, h1, h2, h3⟩
  · refine ⟨fun hf ho => ?_, fun ht => ?_⟩
    · obtain ⟨x, he, hxc, hxi, hxp, hxl, hprm, hinc, hrun, _⟩ := exec_flowSwitch_enters s hc hf ho
      obtain ⟨h1, h2, h3, h4, _, h6⟩ := (x.enterRunning_looks hxc).1 (by rw [hxi, hinc, hrun]; exact hcase)
      have hout := x.enterRunning_lookAgain_outer
      exact ⟨_, he, h1, h2, h3.trans (by rw [hprm]), h4, h6, (State.outer_levels hout).trans hxl,
        (State.outer_icu hout).trans hxi, (State.outer_ptb hout).trans hxp⟩
    · obtain ⟨h1, h2, h3, _, h5, h6⟩ := (s.enterRunning_looks hc).1 hcase
      have hout := s.enterRunning_lookAgain_outer
      exact ⟨_, exec_handoffTimer s ht, h1, h2, h3, h5, h6, State.outer_levels hout, State.outer_icu hout, State.outer_ptb hout⟩
  · refine ⟨fun hf ho => ?_, fun ht => ?_⟩
    · obtain ⟨x, he, hxc, hxi, _, _, hprm, hinc, hrun, hrepx⟩ := exec_flowSwitch_enters s hc hf ho
      obtain ⟨h1, h2, h3, h4, _, h6⟩ := (x.enterRunning_looks hxc).2 (by rw [hxi]; exact hb) (hinc.trans hi) (hrun.trans hr)
        (hrepx.trans hrep)
      exact ⟨_, he, h1, h2, h3.trans (by rw [hprm]), h4, h6, (State.outer_icu x.enterRunning_lookAgain_outer).trans hxi⟩
    · obtain ⟨h1, h2, h3, h4, h5, _⟩ := (s.enterRunning_looks hc).2 hb hi hr hrep
      exact ⟨_, exec_handoffTimer s ht, h1, h2, h3, h4, h5, State.outer_icu s.enterRunning_lookAgain_outer⟩

end Sys2Proof.Machine
end

section
/-! PROOFS. PUMP_STATE at an owner of a pump: handover, the end of a handover, and the own-pump conflict (08 R135, R143, R144,
R146). -/

namespace Sys2Proof.Machine

/-! ### The own-pump conflict -/

/-- A pump that fails or has failed, with the FLU's work on it (08 R141). -/
theorem State.failPump_settled (y : State) (cause : Int) (hc : y.Calm) {z : State} (hz : z = (y.failPump cause).settle) :
    z.Calm ∧ z.outer = y.outer ∧ z.clc.owner = .failed ∧ z.clc.aside = y.clc.aside ∧ (y.HoldsOff → z.HoldsOff) ∧
      (∀ {c : Code} {a : Actions}, y.Bears c a → z.Bears c a) ∧
      (y.clc.owner ≠ .failed → z.clc.pumpOutput = false ∧ z.Bears .pumpFailed (Code.pumpFailed.actions none)) := by
  by_cases ho : y.clc.owner = .failed
  · have he : z = y := by
      rw [hz, State.failPump, if_pos ho, State.settle_of_empty _ hc.1]
    rw [he]
    exact ⟨hc, rfl, ho, rfl, id, id, fun h => absurd ho h⟩
  · have he : z = (y.changeOwner .failed).raiseNow .pumpFailed cause := by
      rw [hz, State.failPump, if_neg ho]
      rfl
    have hx := y.changeOwner_keeps .failed
    have hpump := y.changeOwner_pumping .failed
    have hout := y.changeOwner_outer .failed
    have haside := y.changeOwner_aside .failed
    have hstand : (y.changeOwner .failed).flu.members = y.flu.members :=
      State.members_of_standing ((State.requestPump_standing _).trans rfl)
    generalize y.changeOwner .failed = x at he hx hpump hout haside hstand
    have hloop : z.loop = x.loop := by
      rw [he]
      exact State.settle_loop _
    refine ⟨by rw [he]; exact (State.raiseNow_keeps _ _ _ _).calm (hx.calm hc), by rw [he]; exact (State.raiseNow_outer _ _ _ _).trans hout,
      (congrArg Clc.owner hloop :).trans (congrArg Clc.owner hpump :), (State.aside_of_loop hloop).trans haside, fun _ => ?_,
      fun hb => ?_, fun _ => ⟨(congrArg Clc.pumpOutput hloop :).trans (congrArg Clc.pumpOutput hpump :), ?_⟩⟩
    · have hxh : x.HoldsOff := fun _ => (congrArg Clc.startHold hpump :)
      rw [he]
      exact State.HoldsOff.settle (by exact hxh)
    · rw [he]
      refine State.settleWithin_bears 32 (x.raise .pumpFailed cause) ?_ fun r hr => ?_
      · show State.Bears x _ _
        unfold State.Bears
        rw [hstand]
        exact hb
      · have hreq : (x.raise .pumpFailed cause).requests = [.raised .pumpFailed cause none] := by
          show x.flu.inbox ++ [_] = _
          rw [(hx.calm hc).1]
          rfl
        rw [hreq, List.mem_singleton] at hr
        rw [hr]
        exact fun k => by cases k
    · rw [he]
      exact x.raiseNow_bears cause none (hx.calm hc).1 rfl

/-- What the own-pump conflict leaves (08 R146). -/
theorem State.pumpConflict_leaves (u : State) (source : Station) (hc : u.Calm) (hf : u.clc.conflict = false) {t : State}
    (ht : t = u.pumpConflict source) : t.clc.conflict = true ∧ inMembers .roleConflict t.flu.members = true ∧
      t.flu.pumpLatch = true ∧ t.clc.latch = true ∧ (u.clc.latch = false → t.clc.startHold = none) ∧
      t.clc.viewA = u.clc.viewA ∧ t.clc.viewB = u.clc.viewB ∧
      (u.own < source → t.clc.owner = u.clc.owner ∧ t.clc.pumpOutput = u.clc.pumpOutput) ∧
      (source < u.own → t.clc.owner = .failed ∧
        (u.clc.owner ≠ .failed → t.clc.pumpOutput = false ∧ inMembers .pumpFailed t.flu.members = true)) ∧ t.outer = u.outer := by
  generalize hy : State.raiseNow { u with clc := { u.clc with conflict := true } } .roleConflict source.val (some .pump) = y
  have he : t = if source.val < y.own.val then y.pumpFails 3 else y := by
    rw [ht, State.pumpConflict, if_neg (by rw [hf]; decide)]
    dsimp only
    rw [hy]
  have hyc : y.Calm := by
    rw [← hy]
    exact (State.raiseNow_keeps _ _ _ _).calm hc
  have hyo : y.outer = u.outer := by
    rw [← hy]
    exact State.raiseNow_outer _ _ _ _
  have hloop : y.loop = { u.loop with conflict := true } := by
    rw [← hy]
    exact State.settle_loop _
  have hb : y.Bears .roleConflict (Code.roleConflict.actions (some .pump)) := by
    rw [← hy]
    exact State.raiseNow_bears _ _ _ hc.1 rfl
  have hh : u.clc.latch = false → y.HoldsOff := fun hl => by
    rw [← hy]
    refine State.HoldsOff.settle fun k => ?_
    have k' : u.clc.latch = true := k
    rw [hl] at k'
    cases k'
  have hown : y.own = u.own := by
    unfold State.own
    rw [State.outer_icu hyo]
  have hlatched {x : State} (hx : x.Calm) (hbx : x.Bears .roleConflict (Code.roleConflict.actions (some .pump))) :
      inMembers .roleConflict x.flu.members = true ∧ x.flu.pumpLatch = true ∧ x.clc.latch = true := by
    have hp := hbx.pumpLatch hx.2 rfl
    exact ⟨hbx.member, hp, hx.2.2.2.2.2.2.2.2.trans hp⟩
  rw [hown] at he
  by_cases hlt : source.val < u.own.val
  · rw [if_pos hlt] at he
    generalize hz : (y.failPump 3).settle = z
    have htz : t = z.lookAgain := he.trans (by rw [← hz]; rfl)
    obtain ⟨hzc, hzo, hzf, hza, hzh, hzb, hzp⟩ := y.failPump_settled 3 hyc hz.symm
    have hv := State.viewTests_cannot 7 (State.mayStartPump_owner (s := z) (by rw [hzf]; decide)) (by rw [hzf]; decide)
      (by rw [hzf]; decide)
    obtain ⟨hpump, _, hbears⟩ := State.lookAgain_of hv (z.unheld_keeps.calm hzc)
    have hubears {c : Code} {a : Actions} (h : z.Bears c a) : z.unheld.Bears c a := by
      unfold State.Bears
      rw [z.unheld_spec.2.2.1]
      exact h
    rw [← htz] at hpump hbears
    rw [z.unheld_pumping] at hpump
    have htc : t.Calm := by
      rw [htz]
      exact z.lookAgain_keeps.calm hzc
    obtain ⟨m1, m2, m3⟩ := hlatched htc (hbears (by decide) (hubears (hzb hb)))
    have hlz := (hlatched hzc (hzb hb)).2.2
    have hside : t.clc.aside = y.clc.aside := (congrArg Clc.aside hpump :).trans hza
    refine ⟨(congrArg Clc.conflict hside :).trans (congrArg Clc.conflict hloop :), m1, m2, m3,
      fun hl => (congrArg Clc.startHold hpump :).trans ?_, (congrArg Clc.viewA hside :).trans (congrArg Clc.viewA hloop :),
      (congrArg Clc.viewB hside :).trans (congrArg Clc.viewB hloop :), fun k => absurd hlt (Nat.lt_asymm k),
      fun _ => ⟨(congrArg Clc.owner hpump :).trans hzf, fun hne => ?_⟩, ?_⟩
    · dsimp only
      rw [hzh (hh hl) hlz, ite_self]
    · have hyown : y.clc.owner = u.clc.owner := (congrArg Clc.owner hloop :)
      have hyne : y.clc.owner ≠ .failed := by
        rw [hyown]
        exact hne
      obtain ⟨h1, h2⟩ := hzp hyne
      exact ⟨(congrArg Clc.pumpOutput hpump :).trans h1, (hbears (by decide) (hubears h2)).member⟩
    · rw [htz]
      exact z.lookAgain_outer.trans (hzo.trans hyo)
  · rw [if_neg hlt] at he
    subst he
    obtain ⟨m1, m2, m3⟩ := hlatched hyc hb
    exact ⟨(congrArg Clc.conflict hloop :), m1, m2, m3, fun hl => hh hl m3, (congrArg Clc.viewA hloop :),
      (congrArg Clc.viewB hloop :), fun _ => ⟨(congrArg Clc.owner hloop :), (congrArg Clc.pumpOutput hloop :)⟩,
      fun k => absurd k hlt, hyo⟩

/-! ### The other pump's frame -/

theorem State.lookAgain_aside (s : State) : s.lookAgain.clc.aside = s.clc.aside :=
  (State.aside_of_loop (State.settle_loop _)).trans (State.viewTests_aside 8 s)

theorem State.handoverRequest_aside (s : State) (f : PumpFields) : (s.handoverRequest f).clc.aside = s.clc.aside := by
  unfold State.handoverRequest
  split
  · dsimp only
    split
    · exact s.enterStarting_aside
    · exact s.enterStarting_aside
  · rfl

/-- The other pump's frame at an owner that hands off (08 R144). -/
theorem State.seen_outgoing (s : State) (source : Station) (own : Pump) (o : PumpOwner) (duty : Nat) (hc : s.Calm)
    (hown : s.ownPump = some own) (hp : (s.peer source).presence = .present) (ho : s.clc.owner = .handingOff) {t : State}
    (ht : t = ((s.seen source own.other o).handoverRequest
      { pump := own.other, owner := o, handover := o == .handingOff, duty := duty }).lookAgain) :
    (o = .running → t.clc.owner = .standby ∧ t.clc.pumpOutput = false ∧ t.clc.handoffTimer = none) ∧
    (o = .failed → t.clc.owner = .running ∧ t.clc.pumpOutput = true ∧ t.clc.duty = 60 * s.prm.dutyHours ∧
      t.clc.handoffTimer = none) := by
  obtain ⟨hrep, hcount⟩ := s.seen_other source o hown hp
  generalize hx : s.seen source own.other o = x at ht hrep hcount
  have hxc : x.Calm := by
    rw [← hx]
    exact hc
  have hxo : x.clc.owner = .handingOff := by
    rw [← hx]
    exact ho
  have hxown : x.ownPump = some own := by
    rw [← hx]
    exact hown
  have hprm : x.prm = s.prm := by
    rw [← hx]
    rfl
  rw [State.handoverRequest_waits _ o duty (.inr (State.mayStartPump_owner (by rw [hxo]; decide)))] at ht
  obtain ⟨h1, h2, _⟩ := State.viewTests_outgoing 6 hxown hxo
  have huc := x.unheld_keeps.calm hxc
  refine ⟨fun hr => ?_, fun hr => ?_⟩
  · subst hr
    obtain ⟨hl, _⟩ := State.lookAgain_of (h1 hcount hrep) (State.changed_calm huc _)
    rw [State.changed_pumping, ← ht] at hl
    exact ⟨(congrArg Clc.owner hl :), (congrArg Clc.pumpOutput hl :), (congrArg Clc.handoffTimer hl :)⟩
  · subst hr
    obtain ⟨hl, _⟩ := State.lookAgain_of (h2 hrep) (((State.enterRunning_keeps _).trans (State.unheld_keeps _)).calm huc)
    have hpump : x.unheld.enterRunning.pumping = (x.unheld.loadDuty.setOwner .running).pumping :=
      x.unheld.loadDuty.changeOwner_pumping .running
    rw [State.unheld_pumping, hpump, ← ht] at hl
    have hduty : x.unheld.prm = s.prm := by
      rw [← hprm]
      unfold State.prm
      rw [x.unheld_icu]
    exact ⟨(congrArg Clc.owner hl :), (congrArg Clc.pumpOutput hl :), (congrArg Clc.duty hl :).trans (by rw [← hduty]; rfl),
      (congrArg Clc.handoffTimer hl :)⟩

/-- Settles O48: PUMP_STATE at an owner, for the own pump and for the other. -/
theorem pumpExchange : Obligations.PumpExchange := by
  intro source own p o duty s payload hh hd hown hc u view
  have he := exec_pumpState_heard source p o duty s hh hd
  have hp := hh.2.2.1
  refine ⟨fun hpo => ?_, fun hpo => ?_⟩
  · subst hpo
    have htake : (s.heard (some .pumpState) source).takePump
        { pump := p, owner := o, handover := o == .handingOff, duty := duty } source = u.pumpConflict source := if_pos hown
    rw [htake] at he
    refine ⟨fun hf => ?_, fun hf => ?_⟩
    · rw [he, State.pumpConflict, if_pos (by exact hf)]
    · obtain ⟨h1, h2, h3, h4, h5, h6, h7, h8, h9, h10⟩ := u.pumpConflict_leaves source hc hf rfl
      exact ⟨_, he, h1, h2, h3, h4, h5, h6, h7, h8, h9, (State.outer_icu h10).trans rfl, State.outer_ptb h10,
        (State.outer_levels h10).trans rfl⟩
  · obtain rfl := Pump.eq_other hpo
    refine ⟨fun ⟨n, hn, hlt, hpn⟩ => ?_, fun hv => ⟨_, exec_pumpState_other source o duty s hh hd hown hv, ?_⟩⟩
    · rw [he, (State.heard_takePump source own.other o duty s hp (by rw [hown]; exact own.other_ne)).2 n hn hlt hpn]
    · generalize ht : ((s.seen source own.other o).handoverRequest
        { pump := own.other, owner := o, handover := o == .handingOff, duty := duty }).lookAgain = t
      have hout : t.outer = (s.seen source own.other o).outer := by
        rw [← ht]
        exact (State.lookAgain_outer _).trans (State.handoverRequest_outer _ _)
      have hside : t.clc.aside = (s.seen source own.other o).clc.aside := by
        rw [← ht]
        exact (State.lookAgain_aside _).trans (State.handoverRequest_aside _ _)
      have hview (q : Pump) : t.clc.view q = (s.clc.viewed own.other o source).view q :=
        (congrArg (fun c : Clc => c.view q) hside :)
      refine ⟨(hview _).trans (s.clc.viewed_view own.other o source), (hview own).trans (s.clc.viewed_view_other own o source),
        (State.outer_icu hout).trans rfl, (State.outer_ptb hout).trans rfl, (State.outer_levels hout).trans rfl,
        fun hr ho hconf hl hf => ?_, fun _ ho hm => ?_, fun ho => (s.seen_outgoing source own o duty hc hown hp ho ht.symm).1,
        fun ho => (s.seen_outgoing source own o duty hc hown hp ho ht.symm).2⟩
      · subst hr
        exact State.handoverRequest_starts (x := s.seen source own.other .handingOff) duty hc hown
          (s.mayStartPump_iff.mpr ⟨ho, hconf, hl⟩) hf ht.symm
      · exact s.seen_cannot source own o duty hc hown ho (State.mayStartPump_barred hm) ht.symm

end Sys2Proof.Machine
end

section
/-! PROOFS. The fan bank: switching, the bank duty, fan steps, fan feedback and fan failure (09 R156, R158 to R160). -/

namespace Sys2Proof.Machine

/-! ### Switching -/

/-- A fan whose output is switched (09 R156). -/
def Fan.turned (f : Fan) (on shows : Bool) : Fan :=
  if f.output = on then f else { f with output := on, timer := if on && !shows then some 5000 else none }

theorem Fan.turned_output (f : Fan) (on shows : Bool) : (f.turned on shows).output = on := by
  unfold Fan.turned
  split
  · assumption
  · rfl

theorem Fan.turned_healthy (f : Fan) (on shows : Bool) : (f.turned on shows).healthy = f.healthy := by
  unfold Fan.turned
  split <;> rfl

theorem fans_get_set (v : Vector Fan 3) (i j : Fin 3) (f : Fan) : (v.set i f)[j] = if j = i then f else v[j] := by
  by_cases h : j = i
  · subst h
    rw [if_pos rfl]
    exact Vector.getElem_set_self _
  · rw [if_neg h]
    exact Vector.getElem_set_ne _ _ fun e => h (Fin.ext e.symm)

/-- Switching one output changes its record alone. -/
theorem State.switchFan_eq (s : State) (i : Fin 3) (on : Bool) : ∃ v, s.switchFan i on = { s with clc := { s.clc with fans := v } } ∧
    ∀ j : Fin 3, v[j] = if j = i then s.clc.fans[i].turned on s.levels.fans[i] else s.clc.fans[j] := by
  unfold State.switchFan Fan.turned
  dsimp only
  split
  · refine ⟨s.clc.fans, rfl, fun j => ?_⟩
    split
    · rename_i h
      rw [h]
    · rfl
  · exact ⟨_, rfl, fun j => fans_get_set _ _ _ _⟩

/-- Every output of the bank switched. -/
def State.turnFans (s : State) (on : Fin 3 → Bool) : State := ((s.switchFan 0 (on 0)).switchFan 1 (on 1)).switchFan 2 (on 2)

theorem State.turnFans_eq (s : State) (on : Fin 3 → Bool) : ∃ v, s.turnFans on = { s with clc := { s.clc with fans := v } } ∧
    ∀ j : Fin 3, v[j] = s.clc.fans[j].turned (on j) s.levels.fans[j] := by
  obtain ⟨v, hv, hvj⟩ := s.switchFan_eq 0 (on 0)
  obtain ⟨w, hw, hwj⟩ := (s.switchFan 0 (on 0)).switchFan_eq 1 (on 1)
  obtain ⟨x, hx, hxj⟩ := ((s.switchFan 0 (on 0)).switchFan 1 (on 1)).switchFan_eq 2 (on 2)
  rw [hw] at hx hxj
  rw [hv] at hx hxj hwj
  refine ⟨x, (congrArg (fun y : State => y.switchFan 2 (on 2)) hw).trans (by rw [hv]; exact hx), fun j => ?_⟩
  have h0 := hvj
  have h1 := hwj
  have h2 := hxj
  dsimp only at h1 h2
  match j with
  | 0 =>
    rw [h2 0, if_neg (by decide), h1 0, if_neg (by decide), h0 0, if_pos rfl]
  | 1 =>
    rw [h2 1, if_neg (by decide), h1 1, if_pos rfl, h0 1, if_neg (by decide)]
  | 2 =>
    rw [h2 2, if_pos rfl, h1 2, if_neg (by decide), h0 2, if_neg (by decide)]

/-- The fans that the bank duty runs (09 R160). -/
def State.called (s : State) (i : Fin 3) : Bool :=
  s.clc.fans[i].healthy && decide (healthyBefore s.clc.fans i < bankDuty s.icu.straps.fanRole s.clc.nFan s.clc.cover)

theorem State.applyDuty_eq (s : State) (h : s.clc.heldOff = false) : s.applyDuty = s.turnFans s.called := if_neg (by rw [h]; decide)

theorem State.applyDuty_held (s : State) (h : s.clc.heldOff = true) : s.applyDuty = s := if_pos h

/-- The bank duty changes the fan records alone, and no fan's health. -/
theorem State.applyDuty_fans (s : State) : ∃ v, s.applyDuty = { s with clc := { s.clc with fans := v } } ∧
    (∀ j : Fin 3, v[j].healthy = s.clc.fans[j].healthy) ∧ (s.clc.heldOff = true → v = s.clc.fans) ∧
    (s.clc.heldOff = false → ∀ j : Fin 3, v[j] = s.clc.fans[j].turned (s.called j) s.levels.fans[j]) := by
  cases h : s.clc.heldOff with
  | true => exact ⟨s.clc.fans, s.applyDuty_held h, fun _ => rfl, fun _ => rfl, nofun⟩
  | false =>
    obtain ⟨v, hv, hj⟩ := s.turnFans_eq s.called
    refine ⟨v, (s.applyDuty_eq h).trans hv, fun j => ?_, nofun, fun _ => hj⟩
    rw [hj j, Fan.turned_healthy]

/-- A stage count set (09 R159). -/
theorem State.setStages_fans (s : State) (n : Nat) : ∃ v,
    s.setStages n = { s with clc := { s.clc with nFan := n, fans := v } } ∧
    (∀ j : Fin 3, v[j].healthy = s.clc.fans[j].healthy) ∧ (s.clc.heldOff = true ∨ n = s.clc.nFan → v = s.clc.fans) ∧
    (s.clc.heldOff = false → n ≠ s.clc.nFan → ∀ j : Fin 3, v[j] = s.clc.fans[j].turned
      (State.called { s with clc := { s.clc with nFan := n } } j) s.levels.fans[j]) := by
  unfold State.setStages
  split
  · rename_i h
    subst h
    exact ⟨s.clc.fans, rfl, fun _ => rfl, fun _ => rfl, fun _ k => absurd rfl k⟩
  · rename_i h
    obtain ⟨v, hv, h1, h2, h3⟩ := State.applyDuty_fans { s with clc := { s.clc with nFan := n } }
    exact ⟨v, hv, h1, fun k => h2 (k.resolve_right h), fun k _ => h3 k⟩

/-! ### Fan steps and feedback -/

theorem stepTemp_eq (n start : Nat) (theta : Option Int) : stepTemp n start theta =
    match theta with
    | none => min 6 (n + 1)
    | some v =>
      if (start : Int) - 50 ≤ v then min 6 (n + 1)
      else if v ≤ (start : Int) - 100 then n - 1
      else n := by
  cases theta with
  | none => rfl
  | some v =>
    unfold stepTemp
    dsimp only
    by_cases h1 : (start : Int) - 50 ≤ v
    · rw [if_pos h1, if_pos h1]
    · rw [if_neg h1, if_neg h1]
      by_cases h2 : v ≤ (start : Int) - 100
      · rw [if_pos h2, if_neg (by omega)]
      · rw [if_neg h2, if_pos (by omega)]

/-- The stage count after a fan step expiry (09 R159). -/
theorem State.stepStages_fans (s : State) : ∃ v, s.stepStages = { s with clc := { s.clc with
    nFan := if s.clc.nFan < s.clc.required then s.clc.required
      else if s.clc.required < s.clc.nFan then s.clc.nFan - 1 else s.clc.nFan
    fans := v } } := by
  unfold State.stepStages
  split
  · exact ⟨_, (s.setStages_fans _).choose_spec.1⟩
  · split
    · exact ⟨_, (s.setStages_fans _).choose_spec.1⟩
    · exact ⟨s.clc.fans, rfl⟩

/-- A failed fan with its codes (09 R156). -/
theorem exec_fanFeedbackTimer (fan : Fin 3) (s : State) (h : s.clc.fans[fan].timer.isSome = true) :
    exec (.fanFeedbackTimerExpiry fan) s = .next (State.applyDuty (State.raiseNow
      { s with clc := { s.clc with fans := s.clc.fans.set fan { output := false, healthy := false, timer := none } } }
      .fanFailed (s.fanNumber fan))) := congrArg Host.Outcome.next (if_pos h)

/-- Settles O54: the fan step, the feedback change, and the failure of a fan. -/
theorem fanEvents : Obligations.FanEvents := by
  refine ⟨?_, fun fan shows s hl => ?_, fun fan s hc ht => ?_⟩
  · intro s ht n required
    have hn : n = stepTemp s.clc.nTemp s.prm.derateStart s.clc.theta := (stepTemp_eq _ _ _).symm
    have hreq : required = max s.clc.nHeat (stepTemp s.clc.nTemp s.prm.derateStart s.clc.theta) := congrArg (max s.clc.nHeat) hn
    generalize hx : ({ s with clc := { s.clc with
      fanStepTimer := some 60000, nTemp := stepTemp s.clc.nTemp s.prm.derateStart s.clc.theta } } : State) = x
    have he : exec .fanStepExpiry s = .next x.stepStages := by
      rw [← hx]
      exact congrArg Host.Outcome.next (if_pos ht)
    obtain ⟨v, hv⟩ := x.stepStages_fans
    rw [hv, ← hx] at he
    exact ⟨_, he, hn.symm, rfl, by rw [hreq]; rfl, rfl, rfl⟩
  · have hne : ¬ shows = s.levels.fans[fan] := by
      rw [hl]
      cases shows <;> decide
    have he : exec (.fanFeedbackChange fan shows) s = _ := congrArg Host.Outcome.next (if_neg hne)
    refine ⟨_, he, Vector.getElem_set_self _, ?_, ?_, ?_, fun i hi => ?_, rfl⟩
    · refine (congrArg Fan.timer (fans_get_set _ fan fan _)).trans ?_
      rw [if_pos rfl]
      cases s.clc.fans[fan].output <;> cases shows <;> rfl
    · exact (congrArg Fan.output (fans_get_set _ fan fan _)).trans (by rw [if_pos rfl])
    · exact (congrArg Fan.healthy (fans_get_set _ fan fan _)).trans (by rw [if_pos rfl])
    · exact (fans_get_set _ fan i _).trans (if_neg hi)
  · have he := exec_fanFeedbackTimer fan s ht
    generalize hx : ({ s with clc := { s.clc with
      fans := s.clc.fans.set fan { output := false, healthy := false, timer := none } } } : State) = x at he
    have hxc : x.Calm := by
      rw [← hx]
      exact hc
    have hfan : x.clc.fans[fan] = { output := false, healthy := false, timer := none } := by
      rw [← hx]
      exact Vector.getElem_set_self _
    have hw := x.raiseNow_logWork .fanFailed (s.fanNumber fan) none hxc rfl rfl
    have hb := x.raiseNow_bears (c := .fanFailed) (s.fanNumber fan) none hxc.1 rfl
    generalize x.raiseNow .fanFailed (s.fanNumber fan) = y at he hw hb
    have hclc : y.clc = x.clc := hw.clc
    obtain ⟨v, hv, _, hheld, hduty⟩ := y.applyDuty_fans
    have hvf : v[fan] = { output := false, healthy := false, timer := none } := by
      cases hh : y.clc.heldOff with
      | true => rw [hheld hh, hclc, hfan]
      | false =>
        have hcalled : y.called fan = false := by
          unfold State.called
          rw [hclc, hfan]
          rfl
        rw [hduty hh fan, hcalled, hclc, hfan]
        rfl
    rw [hv] at he
    refine ⟨_, he, congrArg Fan.healthy hvf, congrArg Fan.output hvf, congrArg Fan.timer hvf, hb.member, ?_, hw.stc.trans ?_,
      hw.ywc.trans ?_, hw.icu.trans ?_, hw.ptb.trans ?_, hw.levels.trans ?_⟩
    · show y.clc.nFan = s.clc.nFan
      rw [hclc, ← hx]
    all_goals rw [← hx]

end Sys2Proof.Machine
end

section
/-! PROOFS. Heat count, cover, rival and running fans at a sample (09 R157 to R162). -/

namespace Sys2Proof.Machine

/-! ### The rival of a bank -/

/-- Whether a station shows the own fan role (09 R162). -/
def State.Rivals (s : State) (n : Station) : Prop :=
  s.icu.straps.fanRole ≠ .noRole ∧ ∃ r, s.peerShowing n = some r ∧ r.fanRole = s.icu.straps.fanRole

/-- The stations shown stand in ascending order. -/
theorem State.showing_sorted (s : State) : s.showing.Pairwise (fun p q => p.1 < q.1) := by
  have hst : stations.Pairwise (fun m n => m < n) := by decide
  unfold State.showing
  refine List.Pairwise.filterMap _ (fun m n hmn x hx y hy => ?_) hst
  cases hm : s.peerShowing m with
  | none => rw [hm] at hx; cases hx
  | some a =>
    cases hn : s.peerShowing n with
    | none => rw [hn] at hy; cases hy
    | some b =>
      rw [hm] at hx
      rw [hn] at hy
      cases hx
      cases hy
      exact hmn

theorem State.ownsFans_iff (s : State) : s.ownsFans = true ↔ s.icu.straps.fanRole ≠ .noRole := bne_iff_ne

/-- No rival, and the lowest-numbered of several (09 R162, log entry 18). -/
theorem State.rival_spec (s : State) : ((∀ n, ¬ s.Rivals n) → s.rival = none) ∧
    ∀ n, s.Rivals n → (∀ m, m < n → ¬ s.Rivals m) → s.rival = some n := by
  have rivals {p : Station × StatusRecord} (ho : s.ownsFans = true) (hp : p ∈ s.showing)
      (hr : (p.2.fanRole == s.icu.straps.fanRole) = true) : s.Rivals p.1 :=
    ⟨s.ownsFans_iff.mp ho, p.2, (s.mem_showing p.1 p.2).mp hp, eq_of_beq hr⟩
  constructor
  · intro h
    unfold State.rival
    split
    · rename_i ho
      have hf : s.showing.find? (fun p => p.2.fanRole == s.icu.straps.fanRole) = none :=
        List.find?_eq_none.mpr fun p hp hr => h p.1 (rivals ho hp hr)
      rw [hf]
    · rfl
  · rintro n ⟨ho, r, hs, hr⟩ hlow
    have hown := s.ownsFans_iff.mpr ho
    have hn : (n, r) ∈ s.showing := (s.mem_showing n r).mpr hs
    unfold State.rival
    rw [if_pos hown]
    cases hf : s.showing.find? (fun p => p.2.fanRole == s.icu.straps.fanRole) with
    | none => exact absurd (beq_iff_eq.mpr hr) (List.find?_eq_none.mp hf (n, r) hn)
    | some p =>
      obtain ⟨hp, as, bs, happ, has⟩ := List.find?_eq_some_iff_append.mp hf
      have hmem : p ∈ s.showing := List.mem_of_find?_eq_some hf
      have hsort := s.showing_sorted
      rw [happ] at hn hsort
      rcases List.mem_append.mp hn with hn | hn
      · have hno := has _ hn
        rw [beq_iff_eq.mpr hr] at hno
        cases hno
      · rcases List.mem_cons.mp hn with hn | hn
        · rw [← hn]
        · have hlt : p.1 < n := List.rel_of_pairwise_cons (List.pairwise_append.mp hsort).2.1 hn
          exact absurd (rivals hown hmem hp) (hlow p.1 hlt)

/-! ### The rival test -/

theorem any_stringLatch_joinSet (c : Code) (a : Actions) (ms : List Member) (h : a.stringLatch = false) :
    (joinSet c a ms).any (fun m => m.actions.stringLatch) = ms.any (fun m => m.actions.stringLatch) := by
  induction ms with
  | nil => simp [joinSet, h]
  | cons m rest ih =>
    unfold joinSet
    split
    · simp [Actions.join, h]
    · simp only [List.any_cons, ih]

/-- The raise of a fan bank's conflict gives no indication (10 R165). -/
theorem State.raiseNow_fanBank (s : State) (v : Int) (h : s.Calm) : State.LogWork
    { s with flu := { s.flu with
      members := joinSet .roleConflict (Code.roleConflict.actions (some .fanBank)) s.flu.members } }
    (s.raiseNow .roleConflict v (some .fanBank)) := by
  obtain ⟨hi, h1, h2, h3, h4, _⟩ := h
  have hj : s.joined .roleConflict (some .fanBank) = { s with flu := { s.flu with
      members := joinSet .roleConflict (Code.roleConflict.actions (some .fanBank)) s.flu.members } } := by
    unfold State.joined
    exact (if_pos rfl).trans (State.indicate_still _ (h1.trans (exponentOf_joinSet _ _ _ rfl).symm)
      (h2.trans (any_stringLatch_joinSet _ _ _ rfl).symm) (h3.trans (any_yawLock_joinSet _ _ _ rfl).symm)
      (h4.trans (any_pumpLatch_joinSet _ _ _ rfl).symm))
  have he : s.takeRaise .roleConflict v (some .fanBank) = State.logCondition { s with flu := { s.flu with
      members := joinSet .roleConflict (Code.roleConflict.actions (some .fanBank)) s.flu.members } } .roleConflict
      (clampInt (-32768) 32767 v) := by
    rw [State.takeRaise_eq, if_pos (show Code.roleConflict.isCondition = true from rfl), State.acted, if_neg (by decide), hj]
  rw [s.raiseNow_eq .roleConflict v (some .fanBank) hi (by rw [he, State.logCondition_requests]; exact hi), he]
  exact .of_eq (State.logCondition_besidesLog _ _ _)

/-- The rival test without a rival, or with the conflict flag set (09 R162). -/
theorem State.rivalTest_still (s : State) (hc : s.Calm) (h : s.rival = none ∨ s.clc.fanConflict = true) :
    s.rivalTest.settle = s := by
  have he : s.rivalTest = s := by
    unfold State.rivalTest
    rcases h with h | h
    · rw [h]
    · split
      · exact if_pos h
      · rfl
  rw [he, State.settle_of_empty _ hc.1]

/-- A rival found (09 R162). -/
theorem State.rivalTest_found (s : State) (hc : s.Calm) {n : Station} (h : s.rival = some n) (hf : s.clc.fanConflict = false) :
    ∃ v, s.rivalTest.settle.clc =
        { s.clc with fanConflict := true, heldOff := s.clc.heldOff || decide (n < s.own), fans := v } ∧
      (n < s.own → ∀ i : Fin 3, v[i].output = false) ∧ (¬ n < s.own → v = s.clc.fans) ∧
      (∀ i : Fin 3, v[i].healthy = s.clc.fans[i].healthy) ∧ s.rivalTest.settle.stc = s.stc ∧
      ∀ d, inMembers d s.rivalTest.settle.flu.members = if d = .roleConflict then true else inMembers d s.flu.members := by
  obtain ⟨v, he, h1, h2, h3⟩ : ∃ v, s.rivalTest = State.raise { s with clc := { s.clc with
        fanConflict := true, heldOff := s.clc.heldOff || decide (n < s.own), fans := v } } .roleConflict n.val (some .fanBank) ∧
      (n < s.own → ∀ i : Fin 3, v[i].output = false) ∧ (¬ n < s.own → v = s.clc.fans) ∧
      (∀ i : Fin 3, v[i].healthy = s.clc.fans[i].healthy) := by
    unfold State.rivalTest
    rw [h]
    dsimp only
    rw [if_neg (by rw [hf]; decide)]
    by_cases hlt : n < s.own
    · obtain ⟨v, hv, hj⟩ := State.turnFans_eq
        (State.raise { s with clc := { s.clc with fanConflict := true } } .roleConflict n.val (some .fanBank)) (fun _ => false)
      refine ⟨v, ?_, fun _ i => by rw [hj i, Fan.turned_output], fun k => absurd hlt k,
        fun i => (congrArg Fan.healthy (hj i)).trans (Fan.turned_healthy _ _ _)⟩
      rw [if_pos (show n.val < s.own.val from hlt), decide_eq_true hlt, Bool.or_true]
      exact congrArg (fun x : State => { x with clc := { x.clc with heldOff := true } }) hv
    · refine ⟨s.clc.fans, ?_, fun k => absurd k hlt, fun _ => rfl, fun _ => rfl⟩
      rw [if_neg (show ¬ n.val < s.own.val from hlt), decide_eq_false hlt, Bool.or_false]
  generalize hx : ({ s with clc := { s.clc with
    fanConflict := true, heldOff := s.clc.heldOff || decide (n < s.own), fans := v } } : State) = x at he
  have hxc : x.Calm := by
    rw [← hx]
    exact hc
  have hw := x.raiseNow_fanBank n.val hxc
  have hset : s.rivalTest.settle = x.raiseNow .roleConflict n.val (some .fanBank) := congrArg State.settle he
  rw [hset]
  refine ⟨v, hw.clc.trans (by rw [← hx]), h1, h2, h3, hw.stc.trans (by rw [← hx]), fun d => ?_⟩
  rw [hw.members]
  refine (inMembers_joinSet _ _ _ _).trans ?_
  by_cases hd : d = .roleConflict
  · rw [if_pos hd, hd, beq_self_eq_true, Bool.true_or]
  · rw [if_neg hd, beq_false_of_ne (Ne.symm hd), Bool.false_or, ← hx]

/-- What the rival test leaves, with a rival or without (09 R162). -/
theorem State.rivalTest_settled (s : State) (hc : s.Calm) {t : State} (ht : t = s.rivalTest.settle) : ∃ (f h : Bool) (v : Vector Fan 3),
    t.clc = { s.clc with fanConflict := f, heldOff := h, fans := v } ∧ t.stc = s.stc ∧
    (∀ d, d ≠ .roleConflict → inMembers d t.flu.members = inMembers d s.flu.members) ∧
    (∀ i : Fin 3, v[i].healthy = s.clc.fans[i].healthy) ∧
    (s.rival = none ∨ s.clc.fanConflict = true → f = s.clc.fanConflict ∧ h = s.clc.heldOff ∧ v = s.clc.fans) ∧
    (∀ n, s.rival = some n → s.clc.fanConflict = false → f = true ∧ inMembers .roleConflict t.flu.members = true ∧
      h = (s.clc.heldOff || decide (n < s.own)) ∧ (n < s.own → ∀ i : Fin 3, v[i].output = false) ∧
      (¬ n < s.own → v = s.clc.fans)) := by
  by_cases hstill : s.rival = none ∨ s.clc.fanConflict = true
  · rw [s.rivalTest_still hc hstill] at ht
    subst ht
    refine ⟨_, _, _, rfl, rfl, fun _ _ => rfl, fun _ => rfl, fun _ => ⟨rfl, rfl, rfl⟩, fun n hn hf => ?_⟩
    rcases hstill with k | k
    · rw [k] at hn
      cases hn
    · rw [k] at hf
      cases hf
  · rw [not_or, Bool.not_eq_true] at hstill
    obtain ⟨n, hn⟩ := Option.ne_none_iff_exists'.mp hstill.1
    obtain ⟨v, h1, h2, h3, h4, h5, h6⟩ := s.rivalTest_found hc hn hstill.2
    subst ht
    refine ⟨_, _, v, h1, h5, fun d hd => (h6 d).trans (if_neg hd), h4, fun k => ?_, fun m hm _ => ?_⟩
    · rcases k with k | k
      · exact absurd k hstill.1
      · rw [hstill.2] at k
        cases k
    · rw [hn] at hm
      cases hm
      exact ⟨rfl, (h6 _).trans (if_pos rfl), rfl, h2, h3⟩

/-! ### The duty through a sample -/

/-- The bank duty applied where the stage count or the cover has changed (09 R160). -/
structure State.Staffs (s t : State) : Prop where
  health : ∀ i : Fin 3, t.clc.fans[i].healthy = s.clc.fans[i].healthy
  still : s.clc.heldOff = true ∨ (t.clc.nFan = s.clc.nFan ∧ t.clc.cover = s.clc.cover) → t.clc.fans = s.clc.fans
  duty : s.clc.heldOff = false → t.clc.nFan ≠ s.clc.nFan ∨ t.clc.cover ≠ s.clc.cover →
    ∀ i : Fin 3, t.clc.fans[i].output = t.called i

theorem healthyBefore_eq {v w : Vector Fan 3} (h : ∀ i : Fin 3, w[i].healthy = v[i].healthy) (i : Fin 3) :
    healthyBefore w i = healthyBefore v i := by
  unfold healthyBefore
  simp only [h]

theorem State.called_fans (x : State) {v : Vector Fan 3} (h : ∀ i : Fin 3, v[i].healthy = x.clc.fans[i].healthy) (i : Fin 3) :
    State.called { x with clc := { x.clc with fans := v } } i = x.called i := by
  unfold State.called
  dsimp only
  rw [healthyBefore_eq h, h i]

/-- The heat round (09 R157, R159). -/
theorem State.heatRound_spec (s : State) : ∃ (n k : Nat) (v : Vector Fan 3),
    s.heatRound = { s with clc := { s.clc with nHeat := n, nFan := k, fans := v } } ∧
    (s.configured = true ∧ s.ownsFans = true → n = min 6 (ceilDiv s.heatTotal s.prm.fanCapacity) ∧
      k = max s.clc.nFan (max n s.clc.nTemp)) ∧
    (s.configured = false ∨ s.ownsFans = false → n = s.clc.nHeat ∧ k = s.clc.nFan) ∧ s.Staffs s.heatRound := by
  cases h : (s.configured && s.ownsFans) with
  | false =>
    have he : s.heatRound = s := if_neg (by rw [h]; decide)
    refine ⟨s.clc.nHeat, s.clc.nFan, s.clc.fans, he, fun ⟨h1, h2⟩ => ?_, fun _ => ⟨rfl, rfl⟩, ?_⟩
    · rw [h1, h2] at h
      cases h
    · rw [he]
      exact ⟨fun _ => rfl, fun _ => rfl, fun _ k => by rcases k with k | k <;> exact absurd rfl k⟩
  | true =>
    obtain ⟨hconf, howns⟩ := Bool.and_eq_true_iff.mp h
    have hr : s.formHeat.raiseStages = if s.formHeat.clc.nFan < s.formHeat.clc.required then
        s.formHeat.setStages s.formHeat.clc.required else s.formHeat := rfl
    have he : s.heatRound = s.formHeat.raiseStages := if_pos h
    have hno : ¬ (s.configured = false ∨ s.ownsFans = false) := by
      rw [hconf, howns]
      decide
    rw [he, hr]
    have hfan : s.formHeat.clc.nFan = s.clc.nFan := rfl
    split
    · rename_i hlt
      obtain ⟨v, hv, h1, h2, h3⟩ := s.formHeat.setStages_fans s.formHeat.clc.required
      refine ⟨_, _, v, hv, fun _ => ⟨rfl, ?_⟩, fun k => absurd k hno, ?_⟩
      · rw [hfan] at hlt
        exact (Nat.max_eq_right (Nat.le_of_lt hlt)).symm
      · rw [hv]
        refine ⟨h1, fun k => ?_, fun hh k i => ?_⟩
        · rcases k with k | ⟨k, _⟩
          · exact h2 (.inl k)
          · exact h2 (.inr k)
        · have hne : s.formHeat.clc.required ≠ s.formHeat.clc.nFan := by omega
          rw [show (_ : Fan).output = _ from congrArg Fan.output (h3 hh hne i), Fan.turned_output]
          exact (State.called_fans { s.formHeat with clc := { s.formHeat.clc with nFan := s.formHeat.clc.required } } h1 i).symm
    · rename_i hlt
      refine ⟨_, s.clc.nFan, s.clc.fans, rfl, fun _ => ⟨rfl, ?_⟩, fun k => absurd k hno, ?_⟩
      · rw [hfan] at hlt
        exact (Nat.max_eq_left (Nat.not_lt.mp hlt)).symm
      · exact ⟨fun _ => rfl, fun _ => rfl, fun _ k => by rcases k with k | k <;> exact absurd rfl k⟩

/-- The cover at a sample (09 R161). -/
theorem State.setCover_spec (s : State) : ∃ (c : Cover) (v : Vector Fan 3),
    s.setCover = { s with clc := { s.clc with cover := c, fans := v } } ∧
    (s.icu.straps.fanRole = .b → (c = .covered ↔
      ∃ n r, s.peerShowing n = some r ∧ r.fanRole = .a ∧ r.phase = .configured)) ∧
    (s.icu.straps.fanRole ≠ .b → c = s.clc.cover) ∧ s.Staffs s.setCover := by
  have hstill : s.Staffs s := ⟨fun _ => rfl, fun _ => rfl, fun _ k => by rcases k with k | k <;> exact absurd rfl k⟩
  by_cases hb : s.icu.straps.fanRole = .b
  · generalize hc : (if s.showing.any (fun p => p.2.fanRole == .a && p.2.phase == .configured) then Cover.covered
      else .uncovered) = c
    have he : s.setCover = if c = s.clc.cover then s else State.applyDuty { s with clc := { s.clc with cover := c } } := by
      unfold State.setCover
      rw [if_pos hb]
      dsimp only
      rw [hc]
    have hcov : c = .covered ↔ ∃ n r, s.peerShowing n = some r ∧ r.fanRole = .a ∧ r.phase = .configured := by
      have hany : s.showing.any (fun p => p.2.fanRole == .a && p.2.phase == .configured) = true ↔
          ∃ n r, s.peerShowing n = some r ∧ r.fanRole = .a ∧ r.phase = .configured := by
        rw [List.any_eq_true]
        simp only [Bool.and_eq_true, beq_iff_eq]
        exact ⟨fun ⟨p, hp, h⟩ => ⟨p.1, p.2, (s.mem_showing _ _).mp hp, h⟩,
          fun ⟨n, r, hs, h⟩ => ⟨(n, r), (s.mem_showing n r).mpr hs, h⟩⟩
      rw [← hany, ← hc]
      split
      · rename_i h
        exact iff_of_true rfl h
      · rename_i h
        exact iff_of_false (by decide) h
    rw [he]
    split
    · rename_i hsame
      exact ⟨c, s.clc.fans, by rw [hsame], fun _ => hcov, fun k => absurd hb k, hstill⟩
    · rename_i hne
      obtain ⟨v, hv, h1, h2, h3⟩ := State.applyDuty_fans { s with clc := { s.clc with cover := c } }
      refine ⟨c, v, hv, fun _ => hcov, fun k => absurd hb k, ?_⟩
      rw [hv]
      refine ⟨h1, fun k => ?_, fun hh _ i => ?_⟩
      · rcases k with k | ⟨_, k⟩
        · exact h2 k
        · exact absurd k hne
      · rw [show (_ : Fan).output = _ from congrArg Fan.output (h3 hh i), Fan.turned_output]
        exact (State.called_fans { s with clc := { s.clc with cover := c } } h1 i).symm
  · have he : s.setCover = s := if_neg hb
    exact ⟨s.clc.cover, s.clc.fans, he, fun k => absurd k hb, fun _ => rfl, by rw [he]; exact hstill⟩

end Sys2Proof.Machine
end

section
/-! SUPPORT. The temperature test and the code tests of the vote, with the taking of what they raise and clear (04 R69;
05 R79, R81; 09 R154). -/

namespace Sys2Proof.Machine

/-! ### A string without a limit -/

/-- A CONFIGURED station whose string the temperature holds out of the active states: the thermal part of the limit is 0 (05
R81). -/
structure State.Cold (s : State) : Prop where
  configured : s.configured = true
  thermal : dTherm s.prm.ratedPower s.prm.derateStart s.prm.tripTemp s.stc.theta = 0
  passive : s.stc.state.isActive = false
  limit : s.stc.limit = 0

theorem State.Cold.of_string {s t : State} (h : s.Cold) (hi : t.icu = s.icu) (hs : t.string = s.string) : t.Cold := by
  have h1 : t.stc.theta = s.stc.theta := (congrArg Stc.theta hs :)
  have h2 : t.stc.state = s.stc.state := (congrArg Stc.state hs :)
  have h3 : t.stc.limit = s.stc.limit := (congrArg Stc.limit hs :)
  obtain ⟨k1, k2, k3, k4⟩ := h
  unfold State.configured at k1
  unfold State.prm at k2
  exact ⟨by unfold State.configured; rw [hi]; exact k1, by unfold State.prm; rw [hi, h1]; exact k2, by rw [h2]; exact k3,
    by rw [h3]; exact k4⟩

/-- The limit formed under such a temperature (05 R79, R81). -/
theorem State.formLimit_cold {s : State} (hc : s.configured = true)
    (ht : dTherm s.prm.ratedPower s.prm.derateStart s.prm.tripTemp s.stc.theta = 0) : s.formLimit.stc.limit = 0 ∧
      s.formLimit.stc.theta = s.stc.theta ∧ s.formLimit.stc.state = s.stc.state := by
  have htheta : s.formLimit.stc.theta = s.stc.theta := (congrArg (fun g => g.2.2.1) s.formLimit_given :)
  have hleast : (limitParts s.prm s.stc.exponent s.stc.theta s.stc.flow).least = 0 :=
    (LimitParts.least_eq_zero _).mpr (.inr (.inl ht))
  refine ⟨?_, htheta, ?_⟩
  · have hi := s.formLimit_icu
    rw [s.formLimit_limited (by unfold State.configured; rw [hi]; exact hc), LimitParts.least_eq_zero]
    refine .inr (.inl ?_)
    unfold limitParts State.prm
    rw [hi, htheta]
    exact ht
  · unfold State.formLimit
    rw [if_pos hc]
    dsimp only
    rw [hleast]
    split
    · rfl
    · generalize hx : ({ s with stc := { s.stc with
        parts := some (limitParts s.prm s.stc.exponent s.stc.theta s.stc.flow), limit := 0 } } : State) = x
      have hcut : x.cutSetpoint.stc.state = s.stc.state ∧ x.cutSetpoint.stc.limit = 0 := by
        rw [← hx]
        unfold State.cutSetpoint
        split <;> exact ⟨rfl, rfl⟩
      generalize x.cutSetpoint = y at hcut
      obtain ⟨hstate, hlimit⟩ := hcut
      unfold State.respondToLimit
      split
      · rw [State.startTest_stays y (by unfold State.mayStart; rw [hlimit]; simp)]
        exact hstate
      all_goals exact hstate

theorem State.Cold.formLimit {s : State} (h : s.Cold) : s.formLimit.Cold := by
  obtain ⟨h1, h2, h3⟩ := State.formLimit_cold h.configured h.thermal
  have hi := s.formLimit_icu
  have hc := h.configured
  have ht := h.thermal
  unfold State.configured at hc
  unfold State.prm at ht
  exact ⟨by unfold State.configured; rw [hi]; exact hc, by unfold State.prm; rw [hi, h2]; exact ht,
    by rw [h3]; exact h.passive, h1⟩

theorem State.Cold.stcLatch {s : State} (h : s.Cold) (on : Bool) : (s.stcLatch on).Cold := by
  unfold State.stcLatch
  split
  · unfold State.stcLatchOn
    dsimp only
    rw [if_neg (by rw [h.passive]; decide)]
    split
    · rw [State.drive_eq]
      exact ⟨h.configured, h.thermal, rfl, h.limit⟩
    · exact ⟨h.configured, h.thermal, h.passive, h.limit⟩
  · exact ⟨h.configured, h.thermal, h.passive, h.limit⟩

theorem State.Cold.stcDerate {s : State} (h : s.Cold) (e : Nat) : (s.stcDerate e).Cold :=
  State.Cold.formLimit ⟨h.configured, h.thermal, h.passive, h.limit⟩

theorem State.Cold.ywcLock {s : State} (h : s.Cold) (on : Bool) : (s.ywcLock on).Cold :=
  h.of_string (State.outer_icu (State.ywcLock_outer _ _)) (State.ywcLock_string _ _)

theorem State.Cold.clcLatch {s : State} (h : s.Cold) (on : Bool) : (s.clcLatch on).Cold := h.of_string rfl rfl

theorem State.Cold.indicate {s : State} (h : s.Cold) : s.indicate.Cold := by
  have go {x : State} (hx : x.Cold) (c : Prop) [Decidable c] (f : State → State)
      (hf : x.Cold → (f x).Cold) : (if c then x else f x).Cold := by
    split
    · exact hx
    · exact hf hx
  unfold State.indicate
  dsimp only
  generalize hx : ({ s with flu := { s.flu with
    exponent := exponentOf s.flu.members
    stringLatch := s.flu.members.any (fun m => m.actions.stringLatch)
    yawLock := s.flu.members.any (fun m => m.actions.yawLock)
    pumpLatch := s.flu.members.any (fun m => m.actions.pumpLatch) } } : State) = x
  have h0 : x.Cold := h.of_string (by rw [← hx]) (by rw [← hx]; rfl)
  exact go (go (go (go h0 _ (fun y => y.stcDerate _) (fun k => k.stcDerate _)) _ (fun y => y.stcLatch _)
    (fun k => k.stcLatch _)) _ (fun y => y.ywcLock _) (fun k => k.ywcLock _)) _ (fun y => y.clcLatch _) (fun k => k.clcLatch _)

theorem State.Cold.serve {s : State} (h : s.Cold) (r : Request) : (s.serve r).Cold := by
  cases r with
  | raised code v o =>
    have hj : (s.joined code o).Cold := by
      unfold State.joined
      split
      · exact State.Cold.indicate (by exact h.of_string rfl rfl)
      · exact h
    have ha : (s.acted code o).Cold := by
      unfold State.acted
      split
      · rw [State.stcTripRequest, State.trip_passive _ _ _ hj.passive]
        exact hj
      · exact hj
    rw [State.serve, State.takeRaise_eq]
    split
    · exact ha.of_string (State.outer_icu (by simp)) (by simp)
    · exact ha.of_string (State.outer_icu (by simp)) (by simp)
  | cleared code =>
    show (s.takeClear code).Cold
    unfold State.takeClear
    split
    · exact h
    · have hi := State.Cold.indicate (s := { s with flu := { s.flu with
        members := s.flu.members.filter (fun m => m.code != code) } }) (h.of_string rfl rfl)
      exact hi.of_string rfl rfl

theorem State.Cold.settleWithin {s : State} (h : s.Cold) (n : Nat) : (s.settleWithin n).Cold := by
  induction n generalizing s with
  | zero => exact h
  | succ n ih =>
    unfold State.settleWithin
    split
    · exact h
    · exact ih (State.Cold.serve (by exact h.of_string rfl rfl) _)

theorem State.Cold.settle {s : State} (h : s.Cold) : s.settle.Cold := h.settleWithin 32

/-! ### A code raised or cleared -/

theorem State.settle_same (s : State) {c : Code} (hk : c.isCondition = true) (hc : c ≠ .repeatedTrips)
    (h : ∀ r ∈ s.requests, r ≠ .cleared c ∧ ∀ v o, r ≠ .raised c v o) :
    inMembers c s.settle.flu.members = inMembers c s.flu.members := by
  cases hm : inMembers c s.flu.members with
  | true => exact s.settle_keeps c hm fun r hr => (h r hr).1
  | false => exact State.settle_absent c hc hk s hm fun r hr => (h r hr).2

/-- Work of the taking of requests that raise or clear one code, and of what the string raises of itself. -/
structure State.TestWork (c : Code) (s t : State) : Prop where
  calm : t.Calm
  outer : t.outer = s.outer
  loop : t.loop = s.loop
  given : t.given = s.given
  limited : s.Limited → t.Limited
  cold : s.Cold → t.Cold
  others : ∀ d, d.isCondition = true → d ≠ .repeatedTrips → d ≠ c →
    inMembers d t.flu.members = inMembers d s.flu.members

theorem State.raiseNow_tests (s : State) (c : Code) (v : Int) (o : Option Origin) (hc : s.Calm) :
    State.TestWork c s (s.raiseNow c v o) where
  calm := (s.raiseNow_keeps c v o).calm hc
  outer := s.raiseNow_outer c v o
  loop := State.settle_loop _
  given := State.settle_given _
  limited h := State.Limited.settle (by exact h)
  cold h := State.Cold.settle (h.of_string rfl rfl)
  others d hk hr hd := by
    have hreq : (s.raise c v o).requests = [.raised c v o] := by
      show s.flu.inbox ++ [_] = _
      rw [hc.1]
      rfl
    refine State.settle_same (s.raise c v o) hk hr fun r h => ?_
    rw [hreq, List.mem_singleton] at h
    rw [h]
    exact ⟨nofun, fun v' o' k => hd (by cases k; rfl)⟩

theorem State.clearNow_tests (s : State) (c : Code) (hc : s.Calm) : State.TestWork c s (s.clearNow c) where
  calm := (s.clearNow_keeps c).calm hc
  outer := s.clearNow_outer c
  loop := State.settle_loop _
  given := State.settle_given _
  limited h := State.Limited.settle (by exact h)
  cold h := State.Cold.settle (h.of_string rfl rfl)
  others d hk hr hd := by
    refine State.settle_same (s.clear c) hk hr fun r h => ?_
    rw [s.clear_requests c hc.1, List.mem_singleton] at h
    rw [h]
    exact ⟨fun k => hd (by cases k; rfl), nofun⟩

theorem State.TestWork.refl (c : Code) {s : State} (h : s.Calm) : s.TestWork c s := ⟨h, rfl, rfl, rfl, id, id, fun _ _ _ _ => rfl⟩

/-- A code raised or cleared as its flag changes: `s` becomes `y` with the flag at `on`, from `was`. -/
theorem State.flagTest (y : State) (c : Code) (v : Int) (hy : y.Calm) (hk : c.isCondition = true) (hr : c ≠ .repeatedTrips)
    (hl : c.isLatched = false) {on was : Bool} {z : State}
    (hz : z = if on = was then y else if on then y.raiseNow c v else y.clearNow c) :
    y.TestWork c z ∧ inMembers c z.flu.members = if on = was then inMembers c y.flu.members else on := by
  by_cases h : on = was
  · rw [hz, if_pos h, if_pos h]
    exact ⟨.refl c hy, rfl⟩
  · rw [if_neg h] at hz ⊢
    cases on with
    | true =>
      rw [hz, if_pos rfl]
      exact ⟨y.raiseNow_tests c v none hy, (y.raiseNow_bears v none hy.1 hk).member⟩
    | false =>
      rw [hz, if_neg (by decide)]
      exact ⟨y.clearNow_tests c hy, y.clearNow_absent c hy.1 hr hk hl⟩

/-! ### The code tests of the vote -/

/-- Whether a vote shows the own reading off the median (09 R154). -/
def Vote.isOff : Vote → Bool
  | .median _ => true
  | .own _ | .peers _ | .noValue => false

/-- Whether a vote was made without an own reading (09 R154). -/
def Vote.isBlind : Vote → Bool
  | .peers _ | .noValue => true
  | .own _ | .median _ => false

theorem State.disagreeTest_tests (x : State) (v : Vote) (hc : x.Calm) : State.TestWork .sensorDisagree
      { x with clc := { x.clc with disagree := v.isOff } } (x.disagreeTest v).settle ∧
    inMembers .sensorDisagree (x.disagreeTest v).settle.flu.members =
      if v.isOff = x.clc.disagree then inMembers .sensorDisagree x.flu.members else v.isOff := by
  have still (h : v.isOff = x.clc.disagree) : ({ x with clc := { x.clc with disagree := v.isOff } } : State) = x := by rw [h]
  obtain ⟨w, hz⟩ : ∃ w, (x.disagreeTest v).settle = if v.isOff = x.clc.disagree then
      { x with clc := { x.clc with disagree := v.isOff } } else if v.isOff then
        State.raiseNow { x with clc := { x.clc with disagree := v.isOff } } .sensorDisagree w
      else State.clearNow { x with clc := { x.clc with disagree := v.isOff } } .sensorDisagree := by
    cases hd : x.clc.disagree <;> rw [hd] at still <;> unfold State.disagreeTest <;> rw [hd] <;> cases v
    case false.median m => exact ⟨x.clc.raw - m, rfl⟩
    case true.median m => exact ⟨0, (State.settle_of_empty _ hc.1).trans (still rfl).symm⟩
    case false.own m => exact ⟨0, (State.settle_of_empty _ hc.1).trans (still rfl).symm⟩
    case false.peers m => exact ⟨0, (State.settle_of_empty _ hc.1).trans (still rfl).symm⟩
    case false.noValue => exact ⟨0, (State.settle_of_empty _ hc.1).trans (still rfl).symm⟩
    case true.own m => exact ⟨0, rfl⟩
    case true.peers m => exact ⟨0, rfl⟩
    case true.noValue => exact ⟨0, rfl⟩
  exact State.flagTest { x with clc := { x.clc with disagree := v.isOff } } .sensorDisagree w hc rfl (by decide) rfl hz

theorem State.supplyTest_tests (x : State) (v : Vote) (n : Nat) (hc : x.Calm) : State.TestWork .sensorSupply
      { x with clc := { x.clc with supply := v.isBlind } } (x.supplyTest v n).settle ∧
    inMembers .sensorSupply (x.supplyTest v n).settle.flu.members =
      if v.isBlind = x.clc.supply then inMembers .sensorSupply x.flu.members else v.isBlind := by
  have still (h : v.isBlind = x.clc.supply) : ({ x with clc := { x.clc with supply := v.isBlind } } : State) = x := by rw [h]
  have hz : (x.supplyTest v n).settle = if v.isBlind = x.clc.supply then
      { x with clc := { x.clc with supply := v.isBlind } } else if v.isBlind then
        State.raiseNow { x with clc := { x.clc with supply := v.isBlind } } .sensorSupply n
      else State.clearNow { x with clc := { x.clc with supply := v.isBlind } } .sensorSupply := by
    cases hd : x.clc.supply <;> rw [hd] at still <;> unfold State.supplyTest <;> rw [hd] <;> cases v
    case false.median m => exact (State.settle_of_empty _ hc.1).trans (still rfl).symm
    case false.own m => exact (State.settle_of_empty _ hc.1).trans (still rfl).symm
    case true.peers m => exact (State.settle_of_empty _ hc.1).trans (still rfl).symm
    case true.noValue => exact (State.settle_of_empty _ hc.1).trans (still rfl).symm
    case false.peers m => rfl
    case false.noValue => rfl
    case true.own m => rfl
    case true.median m => rfl
  exact State.flagTest { x with clc := { x.clc with supply := v.isBlind } } .sensorSupply n hc rfl (by decide) rfl hz

end Sys2Proof.Machine
end

section
/-! SUPPORT. A voted temperature given to the string, and the round of the vote (04 R69; 05 R79; 09 R152 to R154). -/

namespace Sys2Proof.Machine

/-! ### The temperature test -/

/-- The string with a voted temperature given and its limit formed (05 R79). -/
def State.warmed (s : State) (theta : Option Int) : State := State.formLimit { s with stc := { s.stc with theta := theta } }

theorem State.warmed_given (s : State) (theta : Option Int) : (s.warmed theta).given =
    (s.stc.permit, s.stc.flow, theta, s.stc.overtemp, s.stc.contactorFault, s.stc.shareTimer) := State.formLimit_given _

theorem State.warmed_frame (s : State) (theta : Option Int) : (s.warmed theta).outer = s.outer ∧
    (s.warmed theta).coolant = s.coolant ∧ (s.warmed theta).flu.members = s.flu.members :=
  ⟨(State.formLimit_outer _).trans rfl, (State.formLimit_coolant _).trans rfl,
    (State.members_of_standing (State.formLimit_standing _)).trans rfl⟩

theorem State.warmed_requests (s : State) (theta : Option Int) (h : s.requests = []) :
    (∀ r ∈ (s.warmed theta).requests, r.isTrip = true) ∧ (s.warmed theta).requests.length ≤ 3 := by
  obtain ⟨l, hl, ht, hn⟩ := State.formLimit_onward { s with stc := { s.stc with theta := theta } }
  have he : (s.warmed theta).requests = l := hl.trans (by
    show s.requests ++ l = l
    rw [h, List.nil_append])
  have := StringState.spare_le s.stc.state
  rw [he]
  exact ⟨ht, by have hx : l.length + _ ≤ s.stc.state.spare := hn; omega⟩

/-- A temperature at or above the trip temperature (04 R69). -/
theorem State.tempTest_hot {x : State} {v : Int} (hc : x.configured = true) (hv : (x.prm.tripTemp : Int) ≤ v) :
    x.tempTest (some v) = if x.stc.overtemp then x.trip .overtemp none
      else State.raise { x.trip .overtemp none with stc := { (x.trip .overtemp none).stc with overtemp := true } } .overtemp v := by
  have hk : (x.trip .overtemp none).stc.overtemp = x.stc.overtemp := (congrArg (fun g => g.2.2.2.1) (x.trip_given .overtemp none) :)
  unfold State.tempTest
  dsimp only
  rw [if_pos hc, if_pos hv, hk]

theorem State.tempTest_cool {x : State} {v : Int} (hc : x.configured = true) (hv : v < (x.prm.tripTemp : Int)) :
    x.tempTest (some v) = if x.stc.overtemp then State.clear { x with stc := { x.stc with overtemp := false } } .overtemp else x := by
  unfold State.tempTest
  dsimp only
  rw [if_pos hc, if_neg (by omega)]

theorem State.tempTest_none {x : State} {theta : Option Int} (h : x.configured = false ∨ theta = none) :
    x.tempTest theta = x := by
  unfold State.tempTest
  split
  · rfl
  · rcases h with h | h
    · exact if_neg (by rw [h]; decide)
    · cases h

/-- The trip of an overtemperature leaves no active string. -/
theorem State.trip_isPassive (x : State) (c : TripCause) (r : Option (Code × Int)) : (x.trip c r).stc.state.isActive = false := by
  cases h : x.stc.state.isActive with
  | false => rw [x.trip_passive c r h, h]
  | true =>
    have hs : (x.trip c r).stc.state = x.stopped.stc.state := (congrArg Stc.state (x.trip_string c r h) :)
    rw [hs]
    show StringState.isActive (if _ then StringState.locked else .tripped) = false
    split <;> rfl

theorem dTherm_hot {rated start trip : Nat} {v : Int} (h : start < trip) (hv : (trip : Int) ≤ v) :
    dTherm rated start trip (some v) = 0 := by
  unfold dTherm
  dsimp only
  rw [if_neg (by omega), if_pos hv]

/-- Requests among which no condition code but OVERTEMP is raised or cleared. -/
theorem State.settle_others (u : State) (hu : ∀ r ∈ u.requests, r.isTrip = true ∨ (∃ v, r = .raised .overtemp v none) ∨
    r = .cleared .overtemp) {d : Code} (hk : d.isCondition = true) (hr : d ≠ .repeatedTrips) (hd : d ≠ .overtemp) :
    inMembers d u.settle.flu.members = inMembers d u.flu.members := by
  refine u.settle_same hk hr fun r h => ?_
  rcases hu r h with ht | ⟨v, rfl⟩ | rfl
  · refine ⟨Request.isTrip_ne_cleared ht d, fun v o he => ?_⟩
    rw [he, Request.isTrip_raised hr hk] at ht
    cases ht
  · exact ⟨nofun, fun v' o' k => hd (by cases k; rfl)⟩
  · exact ⟨fun k => hd (by cases k; rfl), nofun⟩

/-- What the string keeps of a voted temperature given to it, and OVERTEMP, by the temperature (04 R69). -/
structure State.Tempered (s : State) (theta : Option Int) (t : State) : Prop where
  calm : t.Calm
  outer : t.outer = s.outer
  loop : t.loop = s.loop
  kept : t.stc.theta = theta
  flow : t.stc.flow = s.stc.flow
  limited : t.Limited
  others : ∀ d, d.isCondition = true → d ≠ .repeatedTrips → d ≠ .overtemp →
    inMembers d t.flu.members = inMembers d s.flu.members
  hot : ∀ v, s.configured = true → theta = some v → (s.prm.tripTemp : Int) ≤ v → t.stc.overtemp = true ∧
    (s.prm.derateStart < s.prm.tripTemp → t.Cold) ∧
    inMembers .overtemp t.flu.members = if s.stc.overtemp then inMembers .overtemp s.flu.members else true
  cool : ∀ v, s.configured = true → theta = some v → v < (s.prm.tripTemp : Int) → t.stc.overtemp = false ∧
    inMembers .overtemp t.flu.members = if s.stc.overtemp then false else inMembers .overtemp s.flu.members
  idle : s.configured = false ∨ theta = none → t.stc.overtemp = s.stc.overtemp ∧
    inMembers .overtemp t.flu.members = inMembers .overtemp s.flu.members

/-- What the work of the temperature test hands on to the FLU. -/
structure State.Handed (s : State) (theta : Option Int) (u : State) : Prop where
  outer : u.outer = s.outer
  coolant : u.coolant = s.coolant
  members : u.flu.members = s.flu.members
  capping : u.capping = (s.warmed theta).capping
  requests : ∀ r ∈ u.requests, r.isTrip = true ∨ (∃ v, r = .raised .overtemp v none) ∨ r = .cleared .overtemp

theorem State.Handed.of_warmed {s u : State} {theta : Option Int} (h : s.requests = []) (hu : u = s.warmed theta) :
    s.Handed theta u := by
  obtain ⟨h1, h2, h3⟩ := s.warmed_frame theta
  rw [hu]
  exact ⟨h1, h2, h3, rfl, fun r hr => .inl ((s.warmed_requests theta h).1 r hr)⟩

/-- The work of the temperature test, and the requests it makes. -/
theorem State.stcTheta_handed (s : State) (theta : Option Int) (h : s.requests = []) : s.Handed theta (s.stcTheta theta) := by
  obtain ⟨h1, h2, h3⟩ := s.warmed_frame theta
  have hx := (s.warmed_requests theta h).1
  have ht : s.stcTheta theta = (s.warmed theta).tempTest theta := rfl
  rw [ht]
  generalize hxe : s.warmed theta = x at h1 h2 h3 hx
  have stands : s.Handed theta x := .of_warmed h hxe.symm
  have tripped : s.Handed theta (x.trip .overtemp none) := by
    obtain ⟨l, hl, htrip, _⟩ := x.trip_onward .overtemp none rfl
    refine ⟨(State.trip_outer _ _ _).trans h1, (State.trip_coolant _ _ _).trans h2,
      (State.members_of_standing (State.trip_standing _ _ _)).trans h3, by rw [hxe]; exact State.trip_capping _ _ _, fun r hr => ?_⟩
    rw [hl] at hr
    rcases List.mem_append.mp hr with hr | hr
    · exact .inl (hx r hr)
    · exact .inl (htrip r hr)
  have more {y : State} (hy : s.Handed theta y) (b : Bool) {q : Request}
      (hq : (∃ v, q = .raised .overtemp v none) ∨ q = .cleared .overtemp) : s.Handed theta
      { y with stc := { y.stc with overtemp := b }, flu := { y.flu with inbox := y.flu.inbox ++ [q] } } := by
    refine ⟨hy.outer, hy.coolant, hy.members, hy.capping, fun r hr => ?_⟩
    rcases List.mem_append.mp (show r ∈ y.requests ++ [q] from hr) with hr | hr
    · exact hy.requests r hr
    · rw [List.mem_singleton.mp hr]
      exact .inr hq
  cases theta with
  | none => exact stands
  | some v =>
    unfold State.tempTest
    dsimp only
    split
    · split
      · split
        · exact tripped
        · exact more tripped true (.inl ⟨v, rfl⟩)
      · split
        · exact more stands false (.inr rfl)
        · exact stands
    · exact stands

theorem State.settle_untouched (u : State) (h : ∀ r ∈ u.requests, r.isTrip = true) :
    inMembers .overtemp u.settle.flu.members = inMembers .overtemp u.flu.members := by
  refine u.settle_same rfl (by decide) fun r hr => ⟨Request.isTrip_ne_cleared (h r hr) _, fun v o he => ?_⟩
  have := h r hr
  rw [he] at this
  cases this

/-- A voted temperature given to the string, with the FLU's work on what it brings about. -/
theorem State.stcTheta_settled (s : State) (hc : s.Calm) (theta : Option Int) : s.Tempered theta (s.stcTheta theta).settle := by
  have hand := s.stcTheta_handed theta hc.1
  have hcalm := ((s.stcTheta_carries theta).settled (s.stcTheta_adds theta) (by decide)).calm hc
  have hlen : (s.stcTheta theta).requests.length ≤ 29 := by
    have h := s.stcTheta_adds theta
    unfold State.Adds at h
    have h0 : s.requests = [] := hc.1
    rw [h0] at h
    exact Nat.le_trans h (by decide)
  have hu : s.stcTheta theta = (s.warmed theta).tempTest theta := rfl
  obtain ⟨hwo, _, hwm⟩ := s.warmed_frame theta
  have hwr := (s.warmed_requests theta hc.1).1
  have hgiven := s.warmed_given theta
  have hwl : (s.warmed theta).Limited := State.formLimit_limited _
  have hcold (hconf : s.configured = true) (ht : dTherm s.prm.ratedPower s.prm.derateStart s.prm.tripTemp theta = 0) :
      (s.warmed theta).stc.limit = 0 :=
    (State.formLimit_cold (s := { s with stc := { s.stc with theta := theta } }) hconf ht).1
  generalize hx : s.warmed theta = x at hu hwo hwm hwr hgiven hwl hcold
  have hxi : x.icu = s.icu := State.outer_icu hwo
  have hxconf : x.configured = s.configured := by
    unfold State.configured
    rw [hxi]
  have hxprm : x.prm = s.prm := by
    unfold State.prm
    rw [hxi]
  have hxover : x.stc.overtemp = s.stc.overtemp := (congrArg (fun g => g.2.2.2.1) hgiven :)
  generalize s.stcTheta theta = u at hand hcalm hlen hu
  have hcap := hand.capping
  rw [hx] at hcap
  have htheta : u.stc.theta = theta := (congrArg (fun c => c.2.1) hcap :).trans (congrArg (fun g => g.2.2.1) hgiven :)
  have hflow : u.stc.flow = s.stc.flow := (congrArg (fun c => c.2.2.1) hcap :).trans (congrArg (fun g => g.2.1) hgiven :)
  have hui : u.icu = s.icu := State.outer_icu hand.outer
  have hlimited : u.Limited := hwl.of_capping (hui.trans hxi.symm) hcap
  have hover : u.settle.stc.overtemp = u.stc.overtemp := (congrArg (fun g => g.2.2.2.1) u.settle_given :)
  refine ⟨hcalm, (State.settle_outer _).trans hand.outer, (State.settle_loop _).trans (State.loop_of_coolant hand.coolant),
    (congrArg (fun g => g.2.2.1) u.settle_given :).trans htheta, (State.settle_flow u).trans hflow, hlimited.settle,
    fun d hk hr hd => (u.settle_others hand.requests hk hr hd).trans (by rw [hand.members]), fun v hconf hth hv => ?_,
    fun v hconf hth hv => ?_, fun hidle => ?_⟩
  · subst hth
    have hk := State.tempTest_hot (x := x) (v := v) (hxconf.trans hconf) (by rw [hxprm]; exact hv)
    rw [← hu, hxover] at hk
    have hpassive : u.stc.state.isActive = false := by
      rw [hk]
      split
      · exact State.trip_isPassive _ _ _
      · exact State.trip_isPassive _ _ _
    refine ⟨hover.trans ?_, fun hlt => State.Cold.settle ?_, ?_⟩
    · rw [hk]
      split
      · rename_i ho
        exact ((congrArg (fun g => g.2.2.2.1) (x.trip_given .overtemp none) :).trans hxover).trans ho
      · rfl
    · have hd : dTherm s.prm.ratedPower s.prm.derateStart s.prm.tripTemp (some v) = 0 := dTherm_hot hlt hv
      refine ⟨by unfold State.configured; rw [hui]; exact hconf, ?_, hpassive,
        (congrArg (fun c => c.2.2.2) hcap :).trans (hcold hconf hd)⟩
      unfold State.prm
      rw [hui, htheta]
      exact hd
    · split
      · rename_i ho
        rw [if_pos ho] at hk
        refine (u.settle_untouched fun r hr => ?_).trans (by rw [hand.members])
        obtain ⟨l, hl, htrip, _⟩ := x.trip_onward .overtemp none rfl
        rw [hk, hl] at hr
        rcases List.mem_append.mp hr with hr | hr
        · exact hwr r hr
        · exact htrip r hr
      · rename_i ho
        rw [if_neg ho] at hk
        refine (u.settle_raised (c := .overtemp) (v := v) (o := none) rfl ?_ (fun r hr he => ?_) hlen).member
        · rw [hk]
          exact List.mem_append_right _ List.mem_cons_self
        · subst he
          rw [hk] at hr
          obtain ⟨l, hl, htrip, _⟩ := x.trip_onward .overtemp none rfl
          rcases List.mem_append.mp (show _ ∈ (x.trip .overtemp none).requests ++ [.raised .overtemp v none] from hr) with hr | hr
          · rw [hl] at hr
            rcases List.mem_append.mp hr with hr | hr
            · cases hwr _ hr
            · cases htrip _ hr
          · cases List.mem_singleton.mp hr
  · subst hth
    have hk := State.tempTest_cool (x := x) (v := v) (hxconf.trans hconf) (by rw [hxprm]; exact hv)
    rw [← hu, hxover] at hk
    cases ho : s.stc.overtemp with
    | true =>
      rw [ho, if_pos rfl] at hk
      rw [if_pos rfl]
      refine ⟨hover.trans (by rw [hk]; rfl), u.settle_cleared (by decide) rfl rfl ?_ (fun r hr v' o he => ?_) hlen⟩
      · rw [hk]
        exact List.mem_append_right _ List.mem_cons_self
      · subst he
        rw [hk] at hr
        rcases List.mem_append.mp (show _ ∈ x.requests ++ [.cleared .overtemp] from hr) with hr | hr
        · cases hwr _ hr
        · cases List.mem_singleton.mp hr
    | false =>
      rw [ho, if_neg (by decide)] at hk
      rw [if_neg (by decide)]
      subst hk
      exact ⟨hover.trans (hxover.trans ho), (u.settle_untouched hwr).trans (by rw [hwm])⟩
  · rw [State.tempTest_none (by rw [hxconf]; exact hidle)] at hu
    subst hu
    exact ⟨hover.trans hxover, (u.settle_untouched hwr).trans (by rw [hwm])⟩

end Sys2Proof.Machine
end

section
/-! PROOFS. The sample timer: the reading, the vote with what it brings, and the fan bank (04 R69; 05 R79; 09 R151 to R154, R157
to R162). -/

namespace Sys2Proof.Machine

/-! ### The round of the vote -/

/-- What a vote leaves: the voted temperature with the limit and OVERTEMP, and the two sensor codes by its row. -/
structure State.Voted (x : State) (v : Vote) (y : State) : Prop where
  calm : y.Calm
  outer : y.outer = x.outer
  loop : y.loop = { x.loop with theta := v.theta, disagree := v.isOff, supply := v.isBlind }
  kept : y.stc.theta = v.theta
  flow : y.stc.flow = x.stc.flow
  limited : y.Limited
  disagree : inMembers .sensorDisagree y.flu.members =
    if v.isOff = x.clc.disagree then inMembers .sensorDisagree x.flu.members else v.isOff
  supply : inMembers .sensorSupply y.flu.members =
    if v.isBlind = x.clc.supply then inMembers .sensorSupply x.flu.members else v.isBlind
  hot : ∀ w, x.configured = true → v.theta = some w → (x.prm.tripTemp : Int) ≤ w → y.stc.overtemp = true ∧
    (x.prm.derateStart < x.prm.tripTemp → y.Cold) ∧
    inMembers .overtemp y.flu.members = if x.stc.overtemp then inMembers .overtemp x.flu.members else true
  cool : ∀ w, x.configured = true → v.theta = some w → w < (x.prm.tripTemp : Int) → y.stc.overtemp = false ∧
    inMembers .overtemp y.flu.members = if x.stc.overtemp then false else inMembers .overtemp x.flu.members
  idle : x.configured = false ∨ v.theta = none → y.stc.overtemp = x.stc.overtemp ∧
    inMembers .overtemp y.flu.members = inMembers .overtemp x.flu.members

theorem State.voteRound_voted (x : State) (hc : x.Calm) :
    x.Voted (voteOf x.clc.raw x.clc.rawValid x.peerReadings) x.voteRound := by
  generalize hv : voteOf x.clc.raw x.clc.rawValid x.peerReadings = v
  generalize hn : x.peerReadings.length = n
  have he : x.voteRound = ((State.disagreeTest (State.stcTheta { x with clc := { x.clc with theta := v.theta } } v.theta).settle
      v).settle.supplyTest v n).settle := by
    rw [← hv, ← hn]
    rfl
  have T := State.stcTheta_settled { x with clc := { x.clc with theta := v.theta } } hc v.theta
  generalize (State.stcTheta { x with clc := { x.clc with theta := v.theta } } v.theta).settle = a at he T
  obtain ⟨D, hd⟩ := a.disagreeTest_tests v T.calm
  have hDl : (a.disagreeTest v).settle.loop = { x.loop with theta := v.theta, disagree := v.isOff } := by
    have h : State.loop { a with clc := { a.clc with disagree := v.isOff } } = { a.loop with disagree := v.isOff } := rfl
    rw [D.loop, h, T.loop]
    rfl
  generalize (a.disagreeTest v).settle = b at he D hd hDl
  obtain ⟨S, hs⟩ := b.supplyTest_tests v n D.calm
  have hSl : (b.supplyTest v n).settle.loop = { x.loop with theta := v.theta, disagree := v.isOff, supply := v.isBlind } := by
    have h : State.loop { b with clc := { b.clc with supply := v.isBlind } } = { b.loop with supply := v.isBlind } := rfl
    rw [S.loop, h, hDl]
  rw [← he] at S hs hSl
  have had : a.clc.disagree = x.clc.disagree := (congrArg Clc.disagree T.loop :)
  have hbs : b.clc.supply = x.clc.supply := (congrArg Clc.supply hDl :)
  have hgiven : x.voteRound.given = a.given := S.given.trans D.given
  have hover : x.voteRound.stc.overtemp = a.stc.overtemp := (congrArg (fun g => g.2.2.2.1) hgiven :)
  have hovermem : inMembers .overtemp x.voteRound.flu.members = inMembers .overtemp a.flu.members :=
    (S.others .overtemp rfl (by decide) (by decide)).trans (D.others .overtemp rfl (by decide) (by decide))
  refine ⟨S.calm, S.outer.trans (D.outer.trans T.outer), hSl, (congrArg (fun g => g.2.2.1) hgiven :).trans T.kept,
    (congrArg (fun g => g.2.1) hgiven :).trans T.flow, S.limited (D.limited T.limited), ?_, ?_, fun w h1 h2 h3 => ?_,
    fun w h1 h2 h3 => ?_, fun h => ?_⟩
  · refine (S.others .sensorDisagree rfl (by decide) (by decide)).trans (hd.trans ?_)
    rw [had, T.others .sensorDisagree rfl (by decide) (by decide)]
  · have hb := (D.others .sensorSupply rfl (by decide) (by decide)).trans (T.others .sensorSupply rfl (by decide) (by decide))
    rw [hs, hbs, hb]
  · obtain ⟨k1, k2, k3⟩ := T.hot w h1 h2 h3
    refine ⟨hover.trans k1, fun hlt => ?_, hovermem.trans k3⟩
    have hca : a.Cold := k2 hlt
    have hcb : b.Cold := D.cold (hca.of_string rfl rfl)
    exact S.cold (hcb.of_string rfl rfl)
  · obtain ⟨k1, k2⟩ := T.cool w h1 h2 h3
    exact ⟨hover.trans k1, hovermem.trans k2⟩
  · obtain ⟨k1, k2⟩ := T.idle h
    exact ⟨hover.trans k1, hovermem.trans k2⟩

/-! ### The fans after the vote -/

/-- The CLC without the fan bank. -/
def Clc.fanless (c : Clc) : Clc :=
  { c with fans := Vector.replicate 3 { output := false, healthy := false, timer := none }, nHeat := 0, nFan := 0
           cover := .uncovered, fanConflict := false, heldOff := false }

/-- The heat round and the cover change the CLC's fan bank alone. -/
theorem State.covered_only (y : State) : ∃ (n k : Nat) (c : Cover) (v : Vector Fan 3), y.heatRound.setCover =
    { y with clc := { y.clc with nHeat := n, nFan := k, cover := c, fans := v } } ∧
    (y.configured = true ∧ y.ownsFans = true → n = min 6 (ceilDiv y.heatTotal y.prm.fanCapacity) ∧
      k = max y.clc.nFan (max n y.clc.nTemp)) ∧
    (y.configured = false ∨ y.ownsFans = false → n = y.clc.nHeat ∧ k = y.clc.nFan) ∧
    (y.icu.straps.fanRole = .b → (c = .covered ↔
      ∃ n r, y.peerShowing n = some r ∧ r.fanRole = .a ∧ r.phase = .configured)) ∧
    (y.icu.straps.fanRole ≠ .b → c = y.clc.cover) ∧ y.Staffs y.heatRound.setCover := by
  obtain ⟨n, k, v, ha, h1, h2, hs⟩ := y.heatRound_spec
  obtain ⟨c, w, hb, h3, h4, hu⟩ := y.heatRound.setCover_spec
  rw [ha] at h3 h4
  have hbe : y.heatRound.setCover = { y with clc := { y.clc with nHeat := n, nFan := k, cover := c, fans := w } } :=
    hb.trans (by rw [ha])
  refine ⟨n, k, c, w, hbe, h1, h2, h3, h4, ?_⟩
  have hnfan : y.heatRound.setCover.clc.nFan = y.heatRound.clc.nFan := by rw [hbe, ha]
  have hcover : y.heatRound.clc.cover = y.clc.cover := by rw [ha]
  have hheld : y.heatRound.clc.heldOff = y.clc.heldOff := by rw [ha]
  have hicu : y.heatRound.setCover.icu = y.heatRound.icu := by rw [hbe, ha]
  refine ⟨fun i => (hu.health i).trans (hs.health i), fun hk => ?_, fun hh hk i => ?_⟩
  · rcases hk with hk | ⟨hk1, hk2⟩
    · exact (hu.still (.inl (hheld.trans hk))).trans (hs.still (.inl hk))
    · exact (hu.still (.inr ⟨hnfan, hk2.trans hcover.symm⟩)).trans (hs.still (.inr ⟨hnfan.symm.trans hk1, hcover⟩))
  · by_cases hc : y.heatRound.setCover.clc.cover = y.heatRound.clc.cover
    · have hn : y.heatRound.clc.nFan ≠ y.clc.nFan := by
        rcases hk with hk | hk
        · rw [← hnfan]
          exact hk
        · exact absurd (hc.trans hcover) hk
      have hfans := hu.still (.inr ⟨hnfan, hc⟩)
      rw [hfans, hs.duty hh (.inl hn) i]
      unfold State.called
      rw [hfans, hicu, hnfan, hc]
    · exact hu.duty (hheld.trans hh) (.inr hc) i

/-! ### The whole sample -/

/-- The state with the sample's reading (09 R151). -/
def State.sampled (s : State) (word : BitVec 12) : State :=
  State.readSupply { s with clc := { s.clc with sampleTimer := some s.period } } word

theorem exec_sampleTimer (word : BitVec 12) (s : State) (h : s.clc.sampleTimer.isSome = true) :
    exec (.sampleTimerExpiry word) s = .next ((s.sampled word).voteRound.heatRound.setCover.rivalTest.settle) :=
  congrArg Host.Outcome.next (if_pos h)

theorem State.peerShowing_eq {s t : State} (hi : t.icu = s.icu) (hp : t.ptb = s.ptb) (n : Station) :
    t.peerShowing n = s.peerShowing n := by
  unfold State.peerShowing State.own State.peer
  rw [hi, hp]

theorem State.runningPeers_eq {s t : State} (hi : t.icu = s.icu) (hp : t.ptb = s.ptb) : t.runningPeers = s.runningPeers := by
  unfold State.runningPeers State.showing State.peer
  simp only [State.peerShowing_eq hi hp, hp]

/-- What a sample leaves after its vote: the voted CLC with the fan bank worked. -/
theorem State.sample_leaves (word : BitVec 12) (s : State) (hc : s.Calm) {t : State}
    (ht : t = (s.sampled word).voteRound.heatRound.setCover.rivalTest.settle) : ∃ y : State,
    (s.sampled word).Voted (voteOf word.toInt (decide (-400 ≤ word.toInt) && decide (word.toInt ≤ 1500)) s.peerReadings) y ∧
    y = (s.sampled word).voteRound ∧ t.Calm ∧ t.outer = s.outer ∧ t.stc = y.stc ∧ t.clc.fanless = y.clc.fanless ∧
    ∀ d, d ≠ .roleConflict → inMembers d t.flu.members = inMembers d y.flu.members := by
  have hv := State.voteRound_voted (s.sampled word) hc
  refine ⟨_, hv, rfl, ?_⟩
  generalize hy : (s.sampled word).voteRound = y at ht hv
  have hyo : y.outer = s.outer := hv.outer
  have hbc := (y.heatRound_keeps.trans y.heatRound.setCover_keeps).calm hv.calm
  obtain ⟨n, k, c, v, hb, _⟩ := y.covered_only
  obtain ⟨f, h, w, hclc, hstc, hmem, _⟩ := State.rivalTest_settled y.heatRound.setCover hbc ht
  have hto : t.outer = y.outer := by
    rw [ht]
    exact (State.settle_outer _).trans ((State.rivalTest_outer _).trans (by rw [hb]; rfl))
  refine ⟨?_, hto.trans hyo, hstc.trans (by rw [hb]), ?_, fun d hd => (hmem d hd).trans (by rw [hb])⟩
  · rw [ht]
    exact (State.rivalTest_keeps _).calm hbc
  · rw [hclc, hb]
    rfl

end Sys2Proof.Machine
end

section
/-! PROOFS. The vote of a sample with the codes and the limit (04 R69; 05 R79; 09 R151 to R154), and the fan bank at a sample (09
R157 to R162). -/

namespace Sys2Proof.Machine

/-! ### The rows of the vote -/

theorem voteOf_valid (v : Int) (peers : List Int) {m : Int} (h : upperMedian (v :: peers) = some m) :
    (voteOf v true peers).theta = some (if (v - m).natAbs ≤ 30 then v else m) := by
  unfold voteOf
  rw [if_pos rfl, h]
  dsimp only
  split <;> rfl

theorem voteOf_invalid (v : Int) (peers : List Int) : (voteOf v false peers).theta = upperMedian peers := by
  unfold voteOf
  rw [if_neg (by decide)]
  cases upperMedian peers <;> rfl

theorem voteOf_isOff (v : Int) (ok : Bool) (peers : List Int) : (voteOf v ok peers).isOff = true ↔
    ok = true ∧ ∃ m, upperMedian (v :: peers) = some m ∧ 30 < (v - m).natAbs := by
  unfold voteOf
  cases ok with
  | false =>
    rw [if_neg (by decide)]
    refine iff_of_false ?_ (fun k => by cases k.1)
    cases upperMedian peers <;> exact Bool.false_ne_true
  | true =>
    rw [if_pos rfl]
    cases h : upperMedian (v :: peers) with
    | none => exact iff_of_false Bool.false_ne_true (fun ⟨_, m, hm, _⟩ => by cases hm)
    | some m =>
      dsimp only
      split
      · rename_i hle
        refine iff_of_false Bool.false_ne_true fun ⟨_, k, hk, hlt⟩ => ?_
        cases hk
        omega
      · rename_i hgt
        exact iff_of_true rfl ⟨rfl, m, rfl, by omega⟩

theorem voteOf_isBlind (v : Int) (ok : Bool) (peers : List Int) : (voteOf v ok peers).isBlind = !ok := by
  unfold voteOf
  cases ok with
  | false =>
    rw [if_neg (by decide)]
    cases upperMedian peers <;> rfl
  | true =>
    rw [if_pos rfl]
    cases upperMedian (v :: peers) with
    | none => rfl
    | some m =>
      dsimp only
      split <;> rfl

/-- Settles O52: the reading, the vote, the sensor codes, the limit and OVERTEMP at a sample. -/
theorem sampleVoted : Obligations.SampleVoted := by
  intro word s hc ht v valid off
  obtain ⟨y, V, _, hcalm, hout, hstc, hfan, hmem⟩ := s.sample_leaves word hc rfl
  refine ⟨_, exec_sampleTimer word s ht, ?_⟩
  generalize (s.sampled word).voteRound.heatRound.setCover.rivalTest.settle = t at hcalm hout hstc hfan hmem
  generalize hok : (decide (-400 ≤ word.toInt) && decide (word.toInt ≤ 1500)) = ok at V
  have hvalid : ok = true ↔ valid := by
    rw [← hok, Bool.and_eq_true, decide_eq_true_iff, decide_eq_true_iff]
  have hraw : y.clc.rawValid = ok := (congrArg Clc.rawValid V.loop :).trans hok
  have hi := State.outer_icu hout
  have htheta : t.clc.theta = (voteOf v ok s.peerReadings).theta :=
    (congrArg Clc.theta hfan :).trans (congrArg Clc.theta V.loop :)
  have hdis : t.clc.disagree = (voteOf v ok s.peerReadings).isOff :=
    (congrArg Clc.disagree hfan :).trans (congrArg Clc.disagree V.loop :)
  have hsup : t.clc.supply = (voteOf v ok s.peerReadings).isBlind :=
    (congrArg Clc.supply hfan :).trans (congrArg Clc.supply V.loop :)
  have hkept : t.stc.theta = t.clc.theta := by rw [hstc, V.kept, htheta]
  have hover := hmem .overtemp (by decide)
  refine ⟨(congrArg Clc.raw hfan :).trans (congrArg Clc.raw V.loop :), ?_,
    (congrArg Clc.sampleTimer hfan :).trans (congrArg Clc.sampleTimer V.loop :), hkept, fun m hm hmed => ?_, fun hno => ?_, hi,
    State.outer_ptb hout, State.outer_levels hout, ?_, ?_, ?_, ?_, fun hconf => ⟨?_, fun x hx => ⟨fun hge => ?_, fun hlt => ?_⟩⟩,
    fun hidle => ?_⟩
  · have htraw : t.clc.rawValid = ok := (congrArg Clc.rawValid hfan :).trans hraw
    rw [htraw, hvalid]
  · rw [htheta, hvalid.mpr hm]
    exact voteOf_valid v s.peerReadings hmed
  · have hf : ok = false := by
      rw [Bool.eq_false_iff]
      exact fun k => hno (hvalid.mp k)
    rw [htheta, hf]
    exact voteOf_invalid v s.peerReadings
  · rw [hdis, voteOf_isOff, hvalid]
  · rw [hsup, voteOf_isBlind, Bool.not_eq_true', ← hvalid, Bool.not_eq_true]
  · rw [hmem .sensorDisagree (by decide), V.disagree, hdis]
    rfl
  · rw [hmem .sensorSupply (by decide), V.supply, hsup]
    rfl
  · have hlimit := V.limited (by unfold State.configured; rw [State.outer_icu V.outer]; exact hconf)
    have hexp : t.stc.exponent = t.flu.exponent := hcalm.2.2.2.2.2.1
    have hprm : y.prm = s.prm := by
      unfold State.prm
      rw [State.outer_icu V.outer]
      rfl
    rw [← hexp, ← hkept, hstc, hlimit, hprm, V.flow]
    rfl
  · obtain ⟨k1, k2, k3⟩ := V.hot x hconf (htheta.symm.trans hx) hge
    refine ⟨by rw [hstc, k1], fun hlt => by rw [hstc]; exact (k2 hlt).passive, fun hno => ?_⟩
    have hno' : (s.sampled word).stc.overtemp = false := hno
    rw [hover, k3, hno', if_neg (by decide)]
  · obtain ⟨k1, k2⟩ := V.cool x hconf (htheta.symm.trans hx) hlt
    refine ⟨by rw [hstc, k1], fun hyes => ?_⟩
    have hyes' : (s.sampled word).stc.overtemp = true := hyes
    rw [hover, k2, hyes', if_pos rfl]
  · obtain ⟨k1, k2⟩ := V.idle (by rw [← htheta]; exact hidle)
    exact ⟨by rw [hstc, k1]; rfl, hover.trans k2⟩

end Sys2Proof.Machine
end

section
/-! PROOFS. The fan bank at a sample (09 R157 to R162). -/

namespace Sys2Proof.Machine

/-- The held-off flag and the records after a rival test (09 R162). -/
theorem State.rivalTest_heldOff (s : State) (hc : s.Calm) {t : State} (ht : t = s.rivalTest.settle) :
    (t.clc.heldOff = false → s.clc.heldOff = false ∧ t.clc.fans = s.clc.fans) ∧ (s.clc.heldOff = true → t.clc.heldOff = true) := by
  obtain ⟨f, h, v, hclc, _, _, _, hstill, hfound⟩ := s.rivalTest_settled hc ht
  rw [hclc]
  dsimp only
  cases hr : s.rival with
  | none =>
    obtain ⟨_, h2, h3⟩ := hstill (.inl hr)
    rw [h2, h3]
    exact ⟨fun k => ⟨k, rfl⟩, id⟩
  | some n =>
    cases hf : s.clc.fanConflict with
    | true =>
      obtain ⟨_, h2, h3⟩ := hstill (.inr hf)
      rw [h2, h3]
      exact ⟨fun k => ⟨k, rfl⟩, id⟩
    | false =>
      obtain ⟨_, _, h3, _, h5⟩ := hfound n hr hf
      rw [h3]
      refine ⟨fun k => ?_, fun k => by rw [k, Bool.true_or]⟩
      obtain ⟨k1, k2⟩ := Bool.or_eq_false_iff.mp k
      exact ⟨k1, h5 (of_decide_eq_false k2)⟩

/-- The duty of an owner's bank (09 R160). -/
theorem bankDuty_owner (role : Role) (n : Nat) (c : Cover) : role ≠ .noRole → bankDuty role n c =
    match role, c with
    | .b, .covered => n - 3
    | _, _ => min 3 n := by
  intro h
  cases role with
  | noRole => exact absurd rfl h
  | a => rfl
  | b => cases c <;> rfl

/-- Settles O53: the heat count, the cover, the rival and the running fans at a sample. -/
theorem fansCalled : Obligations.FansCalled := by
  intro word s hc ht owns rival
  obtain ⟨y, V, hy, _, hout, _, hfan, _⟩ := s.sample_leaves word hc rfl
  refine ⟨_, exec_sampleTimer word s ht, ?_⟩
  rw [← hy] at hout hfan ⊢
  have hbc := (y.heatRound_keeps.trans y.heatRound.setCover_keeps).calm V.calm
  obtain ⟨n, k, c, v, hb, hheat, hcold, hcover, hopen, S⟩ := y.covered_only
  generalize y.heatRound.setCover = b at hb hbc hout hfan S ⊢
  obtain ⟨hheld, hkeep⟩ := b.rivalTest_heldOff hbc rfl
  obtain ⟨f, h, w, hclc, hstc, _, hhealth, hstill, hfound⟩ := b.rivalTest_settled hbc rfl
  generalize b.rivalTest.settle = t at hout hfan hheld hkeep hclc hstc hfound ⊢
  have hyi : y.icu = s.icu := State.outer_icu V.outer
  have hyp : y.ptb = s.ptb := State.outer_ptb V.outer
  have hyn : y.clc.nFan = s.clc.nFan := (congrArg Clc.nFan V.loop :)
  have hyt : y.clc.nTemp = s.clc.nTemp := (congrArg Clc.nTemp V.loop :)
  have hyc : y.clc.cover = s.clc.cover := (congrArg Clc.cover V.loop :)
  have hyf : y.clc.fans = s.clc.fans := (congrArg Clc.fans V.loop :)
  have hyx : y.clc.fanConflict = s.clc.fanConflict := (congrArg Clc.fanConflict V.loop :)
  have hyh : y.clc.heldOff = s.clc.heldOff := (congrArg Clc.heldOff V.loop :)
  have hyo : y.ownsFans = true ↔ owns := by
    unfold State.ownsFans
    rw [hyi]
    exact bne_iff_ne
  have hbi : b.icu = s.icu := by rw [hb]; exact hyi
  have hbx : b.clc.fanConflict = s.clc.fanConflict := by rw [hb]; exact hyx
  have hbh : b.clc.heldOff = s.clc.heldOff := by rw [hb]; exact hyh
  have hbown : b.own = s.own := by
    unfold State.own
    rw [hbi]
  have hshow (m : Station) : y.peerShowing m = s.peerShowing m := State.peerShowing_eq hyi hyp m
  have hriv (m : Station) : b.Rivals m ↔ rival m := by
    unfold State.Rivals
    rw [State.peerShowing_eq hbi (by rw [hb]; exact hyp) m, hbi]
  have hnone (hq : s.clc.fanConflict = true ∨ ∀ m, ¬ rival m) : b.rival = none ∨ b.clc.fanConflict = true := by
    rcases hq with hq | hq
    · exact .inr (hbx.trans hq)
    · exact .inl (b.rival_spec.1 fun m hm => hq m ((hriv m).mp hm))
  have hnfan : t.clc.nFan = k := by rw [hclc, hb]
  have hcov : t.clc.cover = c := by rw [hclc, hb]
  have hbfan : b.clc.nFan = k := by rw [hb]
  have hbcov : b.clc.cover = c := by rw [hb]
  have hfans : t.clc.fans = w := by rw [hclc]
  have hwell (i : Fin 3) : t.clc.fans[i].healthy = s.clc.fans[i].healthy := by
    rw [hfans, hhealth i, S.health i, hyf]
  refine ⟨State.outer_icu hout, State.outer_ptb hout, ?_, ?_, fun hq => ?_, fun hq => ?_, fun hbank => ?_, fun hbank => ?_,
    fun hq => ?_, fun m hx hm hlow => ?_, fun i => ⟨hwell i, fun hoff => ⟨fun h1 h2 => ?_, fun hq => ?_⟩, fun hoff => ?_⟩⟩
  · rw [hclc, hb]
    exact hyt
  · rw [hclc, hb]
    exact (congrArg Clc.fanStepTimer V.loop :)
  · obtain ⟨h1, h2⟩ := hheat ⟨by unfold State.configured; rw [hyi]; exact hq.1, hyo.mpr hq.2⟩
    have hts : t.stc = y.stc := hstc.trans (by rw [hb])
    have hprm : y.prm = s.prm := by
      unfold State.prm
      rw [hyi]
    have hn : t.clc.nHeat = n := by rw [hclc, hb]
    rw [hnfan, hn, h2, hyn, hyt]
    refine ⟨?_, rfl⟩
    rw [h1, hprm, hts]
    unfold State.heatTotal
    rw [State.runningPeers_eq hyi hyp]
    rfl
  · obtain ⟨h1, h2⟩ := hcold (by
      rcases hq with hq | hq
      · exact .inl (by unfold State.configured; rw [hyi]; exact hq)
      · exact .inr (by rw [← Bool.not_eq_true, hyo]; exact hq))
    have hn : t.clc.nHeat = n := by rw [hclc, hb]
    exact ⟨hn.trans (h1.trans (congrArg Clc.nHeat V.loop :)), hnfan.trans (h2.trans hyn)⟩
  · rw [hcov, hcover (by rw [hyi]; exact hbank)]
    simp only [hshow]
  · rw [hcov, hopen (by rw [hyi]; exact hbank), hyc]
  · obtain ⟨h1, h2, _⟩ := hstill (hnone hq)
    rw [hclc]
    exact ⟨h1.trans hbx, h2.trans hbh⟩
  · have hr := b.rival_spec.2 m ((hriv m).mpr hm) fun j hj hrj => hlow j hj ((hriv j).mp hrj)
    obtain ⟨h1, h2, h3, h4, _⟩ := hfound m hr (hbx.trans hx)
    rw [hbown] at h3 h4
    refine ⟨by rw [hclc]; exact h1, h2, by rw [hclc, ← hbh]; exact h3, fun hlt i => by rw [hfans]; exact h4 hlt i⟩
  · have hsame := (hheld hoff).2.trans (S.still (.inr ⟨hbfan.trans (hnfan.symm.trans (h1.trans hyn.symm)),
      hbcov.trans (hcov.symm.trans (h2.trans hyc.symm))⟩))
    rw [hsame, hyf]
  · obtain ⟨hbo, hbf⟩ := hheld hoff
    have howns : s.icu.straps.fanRole ≠ .noRole := fun hno => by
      rcases hq with hq | hq
      · refine hq (hnfan.trans ((hcold (.inr ?_)).2.trans hyn))
        rw [← Bool.not_eq_true, hyo]
        exact fun hw => hw hno
      · refine hq (hcov.trans ((hopen ?_).trans hyc))
        rw [hyi, hno]
        decide
    have hduty := S.duty (hyh.trans (hbh.symm.trans hbo)) (by rw [hbfan, hbcov, ← hnfan, ← hcov, hyn, hyc]; exact hq) i
    rw [hbf, hduty]
    unfold State.called
    rw [healthyBefore_eq (v := s.clc.fans) (fun j => (S.health j).trans (by rw [hyf])), S.health i, hyf, hbi, hbfan, hbcov,
      bankDuty_owner _ _ _ howns, hnfan, hcov]
    rfl
  · refine ⟨hkeep (hbh.trans hoff), fun hq => ?_⟩
    obtain ⟨_, _, h3⟩ := hstill (hnone hq)
    rw [hfans, h3, S.still (.inl (hyh.trans hoff)), hyf]

end Sys2Proof.Machine
end

section
/-! SUPPORT. The error count of the line, which no operation but the two counts reads: the queue, the announcement and the place-free
indication commute with a change of it. -/

namespace Sys2Proof.Machine

/-- The state with another error count. -/
def State.recount (s : State) (n : Nat) : State := { s with lif := { s.lif with errors := n } }

section Fields

variable (s : State) (n : Nat)

@[simp] theorem State.recount_icu : (s.recount n).icu = s.icu := rfl
@[simp] theorem State.recount_ptb : (s.recount n).ptb = s.ptb := rfl
@[simp] theorem State.recount_stc : (s.recount n).stc = s.stc := rfl
@[simp] theorem State.recount_ywc : (s.recount n).ywc = s.ywc := rfl
@[simp] theorem State.recount_clc : (s.recount n).clc = s.clc := rfl
@[simp] theorem State.recount_flu : (s.recount n).flu = s.flu := rfl
@[simp] theorem State.recount_levels : (s.recount n).levels = s.levels := rfl
@[simp] theorem State.recount_differing : (s.recount n).differing = s.differing := rfl
@[simp] theorem State.recount_draws : (s.recount n).draws = s.draws := rfl
@[simp] theorem State.recount_pending : (s.recount n).pending = s.pending := rfl
@[simp] theorem State.recount_queue : (s.recount n).lif.queue = s.lif.queue := rfl
@[simp] theorem State.recount_statusPlace : (s.recount n).lif.statusPlace = s.lif.statusPlace := rfl
@[simp] theorem State.recount_prm : (s.recount n).prm = s.prm := rfl
@[simp] theorem State.recount_hasPlace : (s.recount n).hasPlace = s.hasPlace := rfl
@[simp] theorem State.recount_inService (e : Nat) : (s.recount n).inService e = s.inService e := rfl

/-- A record update that leaves the LIF alone. -/
@[simp] theorem State.recount_mk (i : Icu) (p : Ptb) (st : Stc) (y : Ywc) (c : Clc) (f : Flu) (l : Levels) (d : Differing) (r : Nat)
    (q : List Instr) : State.mk i (s.recount n).lif p st y c f l d r q = (State.mk i s.lif p st y c f l d r q).recount n := rfl

end Fields

theorem State.recount_ite {c : Prop} [Decidable c] {n : Nat} {s t s' t' : State} (h1 : c → s' = s.recount n)
    (h2 : ¬ c → t' = t.recount n) : (if c then s' else t') = (if c then s else t).recount n := by
  by_cases h : c
  · rw [if_pos h, if_pos h, h1 h]
  · rw [if_neg h, if_neg h, h2 h]

/-! ### Requests -/

@[simp] theorem State.enqueue_recount (s : State) (n : Nat) (k : Kind) (p : List Byte) :
    (s.recount n).enqueue k p = (s.enqueue k p).recount n := by
  have h (l : Lif) : Lif.beginIfIdle { l with errors := n } = { l.beginIfIdle with errors := n } := by
    obtain ⟨queue, place, holders, errors, degraded, timer, idle, reception, run, sent⟩ := l
    cases queue with
    | nil => rfl
    | cons f rest =>
      symm
      exact apply_ite (fun l : Lif => { l with errors := n }) ((idle && !(f :: rest).any (·.transmitting)) = true) _ _
  exact congrArg (fun l => { s with lif := l }) (h { s.lif with queue := insertFrame (s.newFrame k p) s.lif.queue })

@[simp] theorem State.request_recount (s : State) (n : Nat) (k : Kind) (p : List Byte) :
    (s.recount n).request k p = ((s.request k p).1.recount n, (s.request k p).2) := by
  unfold State.request
  rw [State.recount_hasPlace]
  split
  · rw [State.enqueue_recount]
  · rfl

@[simp] theorem State.noteHolders_recount (s : State) (n : Nat) : (s.recount n).noteHolders = s.noteHolders.recount n := rfl

/-! ### Announcement -/

@[simp] theorem State.testPressure_recount (s : State) (n : Nat) : (s.recount n).testPressure = s.testPressure.recount n := rfl
@[simp] theorem State.dropStaleHeld_recount (s : State) (n : Nat) : (s.recount n).dropStaleHeld = s.dropStaleHeld.recount n := rfl

@[simp] theorem State.requestNotice_recount (s : State) (n : Nat) (e : Entry) :
    (s.recount n).requestNotice e = (s.requestNotice e).recount n := by
  unfold State.requestNotice
  simp only [State.request_recount, State.recount_flu]
  exact State.recount_ite (fun _ => rfl) fun _ => rfl

@[simp] theorem State.announce_recount (s : State) (n : Nat) (e : Entry) : (s.recount n).announce e = (s.announce e).recount n := by
  symm
  exact (State.requestNotice_recount _ n e).symm

@[simp] theorem State.select_recount (s : State) (n : Nat) : (s.recount n).select = s.select.recount n := by
  unfold State.select
  refine State.recount_ite (fun _ => ?_) fun _ => rfl
  rw [State.recount_flu]
  cases selected s.flu.log with
  | none => rfl
  | some e => exact s.announce_recount n e

@[simp] theorem State.noticeDiscarded_recount (s : State) (n e : Nat) :
    (s.recount n).noticeDiscarded e = (s.noticeDiscarded e).recount n := by
  unfold State.noticeDiscarded
  rw [State.recount_inService]
  cases s.inService e with
  | none => rfl
  | some x =>
    symm
    exact (State.select_recount _ n).symm

@[simp] theorem State.discardNotice_recount (s : State) (n : Nat) (f : QueuedFrame) :
    (s.recount n).discardNotice f = (s.discardNotice f).recount n := by
  unfold State.discardNotice
  split
  · exact s.noticeDiscarded_recount n _
  · rfl

/-! ### The place-free indication -/

@[simp] theorem State.offerTrip_recount (s : State) (n : Nat) : (s.recount n).offerTrip = s.offerTrip.recount n := by
  unfold State.offerTrip
  rw [State.recount_stc]
  cases s.stc.heldTrip with
  | none => rfl
  | some p =>
    simp only [State.request_recount]
    exact State.recount_ite (fun _ => rfl) fun _ => rfl

@[simp] theorem State.offerPump_recount (s : State) (n : Nat) : (s.recount n).offerPump = s.offerPump.recount n := by
  unfold State.offerPump
  rw [State.recount_clc]
  cases s.clc.heldPump with
  | none => rfl
  | some p =>
    simp only [State.request_recount]
    exact State.recount_ite (fun _ => rfl) fun _ => rfl

@[simp] theorem State.offerStatus_recount (s : State) (n : Nat) : (s.recount n).offerStatus = s.offerStatus.recount n := by
  unfold State.offerStatus
  rw [State.recount_statusPlace]
  cases s.lif.statusPlace with
  | none => rfl
  | some p =>
    refine State.recount_ite (fun _ => rfl) fun _ => ?_
    simp only [State.request_recount]
    exact State.recount_ite (fun _ => rfl) fun _ => rfl

@[simp] theorem State.offerYaw_recount (n : Nat) (k : Kind) (l : List HeldYaw) (s : State) :
    (s.recount n).offerYaw k l = (s.offerYaw k l).recount n := by
  induction l generalizing s with
  | nil => rfl
  | cons h rest ih =>
    unfold State.offerYaw
    simp only [ih, State.enqueue_recount]
    exact State.recount_ite (fun _ => rfl) fun _ => rfl

@[simp] theorem State.offerNotices_recount (n : Nat) (l : List HeldNotice) (s : State) :
    (s.recount n).offerNotices l = (s.offerNotices l).recount n := by
  induction l generalizing s with
  | nil => rfl
  | cons h rest ih =>
    unfold State.offerNotices
    rw [State.recount_flu]
    cases entryNumbered h.number s.flu.log with
    | none => exact ih s
    | some e =>
      simp only [ih, State.enqueue_recount]
      exact State.recount_ite (fun _ => rfl) fun _ => rfl

@[simp] theorem State.placeFree_recount (s : State) (n : Nat) : (s.recount n).placeFree = s.placeFree.recount n := by
  unfold State.placeFree
  simp only [State.dropStaleHeld_recount, State.offerTrip_recount, State.recount_ywc, State.offerYaw_recount,
    State.offerPump_recount, State.offerStatus_recount, State.recount_flu, State.offerNotices_recount, State.noteHolders_recount]

@[simp] theorem State.requestUrgent_recount (s : State) (n : Nat) (k : Kind) (p : List Byte) :
    (s.recount n).requestUrgent k p = ((s.requestUrgent k p).1.recount n, (s.requestUrgent k p).2) := by
  unfold State.requestUrgent
  rw [State.recount_hasPlace, State.recount_queue]
  split
  · rw [State.enqueue_recount]
  · cases displaced k s.lif.queue with
    | none => rfl
    | some found =>
      obtain ⟨f, rest⟩ := found
      have h : State.enqueue { s.recount n with lif := { (s.recount n).lif with queue := rest } } k p =
          (State.enqueue { s with lif := { s.lif with queue := rest } } k p).recount n :=
        State.enqueue_recount { s with lif := { s.lif with queue := rest } } n k p
      dsimp only
      rw [h, State.discardNotice_recount, State.placeFree_recount]

end Sys2Proof.Machine
end

section
/-! SUPPORT. The string and the yaw commute with a change of the error count of the line. -/

namespace Sys2Proof.Machine

variable (s : State) (n : Nat)

@[simp] theorem State.raise_recount (c : Code) (v : Int) (o : Option Origin) :
    (s.recount n).raise c v o = (s.raise c v o).recount n := rfl

/-! ### The string -/

@[simp] theorem State.setString_recount (st : StringState) : (s.recount n).setString st = (s.setString st).recount n := rfl
@[simp] theorem State.setSetpoint_recount (v : Nat) : (s.recount n).setSetpoint v = (s.setSetpoint v).recount n := rfl
@[simp] theorem State.sendLink_recount : (s.recount n).sendLink = s.sendLink.recount n := rfl

@[simp] theorem State.drive_recount (st : StringState) (v : Nat) : (s.recount n).drive st v = (s.drive st v).recount n :=
  State.recount_ite (fun _ => rfl) fun _ => rfl

@[simp] theorem State.requestTrip_recount (c : TripCause) : (s.recount n).requestTrip c = (s.requestTrip c).recount n := by
  unfold State.requestTrip
  simp only [State.recount_stc, State.requestUrgent_recount]
  exact State.recount_ite (fun _ => rfl) fun _ => rfl

@[simp] theorem State.raiseCause_recount (r : Option (Code × Int)) : (s.recount n).raiseCause r = (s.raiseCause r).recount n := by
  cases r <;> rfl

@[simp] theorem State.trip_recount (c : TripCause) (r : Option (Code × Int)) : (s.recount n).trip c r = (s.trip c r).recount n := by
  unfold State.trip
  refine State.recount_ite (fun _ => ?_) fun _ => rfl
  simp only [State.recount_stc, State.recount_flu, State.recount_prm, State.setString_recount, State.setSetpoint_recount,
    State.sendLink_recount, State.recount_mk, State.recount_icu, State.recount_ptb, State.recount_ywc, State.recount_clc,
    State.recount_levels, State.recount_differing, State.recount_draws, State.recount_pending, State.requestTrip_recount,
    State.raiseCause_recount, State.raise_recount]
  exact State.recount_ite (fun _ => rfl) fun _ => rfl

@[simp] theorem State.modulatorTrip_recount : (s.recount n).modulatorTrip = s.modulatorTrip.recount n := s.trip_recount n _ _
@[simp] theorem State.stcTripRequest_recount : (s.recount n).stcTripRequest = s.stcTripRequest.recount n := s.trip_recount n _ _

@[simp] theorem State.enterSync_recount : (s.recount n).enterSync = s.enterSync.recount n := by
  unfold State.enterSync
  rw [State.drive_recount]
  exact State.recount_ite (fun _ => rfl) fun _ => rfl

@[simp] theorem State.enterPrecharge_recount : (s.recount n).enterPrecharge = s.enterPrecharge.recount n := by
  have h (t : State) : (if (t.recount n).levels.dcLink then (t.recount n).enterSync else t.recount n) =
      (if t.levels.dcLink then t.enterSync else t).recount n := State.recount_ite (fun _ => t.enterSync_recount n) fun _ => rfl
  have k (u : State) : (if (u.recount n).levels.modulatorFault then (u.recount n).modulatorTrip else u.recount n) =
      (if u.levels.modulatorFault then u.modulatorTrip else u).recount n :=
    State.recount_ite (fun _ => u.modulatorTrip_recount n) fun _ => rfl
  symm
  exact ((congrArg (fun u : State => if u.levels.modulatorFault then u.modulatorTrip else u) (h _)).trans (k _)).symm

@[simp] theorem State.startTest_recount : (s.recount n).startTest = s.startTest.recount n :=
  State.recount_ite (fun _ => s.enterPrecharge_recount n) fun _ => rfl

@[simp] theorem State.cutSetpoint_recount : (s.recount n).cutSetpoint = s.cutSetpoint.recount n :=
  State.recount_ite (fun _ => rfl) fun _ => rfl

@[simp] theorem State.respondToLimit_recount : (s.recount n).respondToLimit = s.respondToLimit.recount n := by
  unfold State.respondToLimit
  rw [State.recount_stc]
  cases s.stc.state with
  | off => exact s.startTest_recount n
  | run | precharge | sync | stopping | tripped | locked => rfl

@[simp] theorem State.formLimit_recount : (s.recount n).formLimit = s.formLimit.recount n := by
  refine State.recount_ite (fun _ => ?_) fun _ => rfl
  refine State.recount_ite (fun _ => rfl) fun _ => ?_
  symm
  exact ((congrArg State.respondToLimit (State.cutSetpoint_recount _ n)).trans (State.respondToLimit_recount _ n)).symm

@[simp] theorem State.stcDerate_recount (e : Nat) : (s.recount n).stcDerate e = (s.stcDerate e).recount n := by
  symm
  exact (State.formLimit_recount _ n).symm

@[simp] theorem State.stcFlow_recount (f : FlowState) : (s.recount n).stcFlow f = (s.stcFlow f).recount n := by
  symm
  exact ((congrArg State.startTest (State.formLimit_recount _ n)).trans (State.startTest_recount _ n)).symm

@[simp] theorem State.stcLatch_recount (on : Bool) : (s.recount n).stcLatch on = (s.stcLatch on).recount n := by
  refine State.recount_ite (fun _ => ?_) fun _ => rfl
  refine State.recount_ite (fun _ => ?_) fun _ => State.recount_ite (fun _ => ?_) fun _ => rfl
  · symm
    exact (State.trip_recount _ n _ _).symm
  · symm
    exact (State.drive_recount _ n _ _).symm

/-! ### The yaw -/

@[simp] theorem State.clearProposal_recount : (s.recount n).clearProposal = s.clearProposal.recount n := rfl
@[simp] theorem State.startHoldoff_recount : (s.recount n).startHoldoff = s.startHoldoff.recount n := rfl

@[simp] theorem State.requestYaw_recount (k : Kind) (r : Ref) (p : List Byte) :
    (s.recount n).requestYaw k r p = (s.requestYaw k r p).recount n := by
  have h : (if k = .yawHalt then (s.recount n).requestUrgent k p else (s.recount n).request k p) =
      ((if k = .yawHalt then s.requestUrgent k p else s.request k p).1.recount n,
        (if k = .yawHalt then s.requestUrgent k p else s.request k p).2) := by
    split
    · exact s.requestUrgent_recount n k p
    · exact s.request_recount n k p
  unfold State.requestYaw
  simp only [h]
  exact State.recount_ite (fun _ => rfl) fun _ => rfl

@[simp] theorem State.haltParticipant_recount : (s.recount n).haltParticipant = s.haltParticipant.recount n := by
  unfold State.haltParticipant
  rw [State.recount_ywc]
  cases s.ywc.participant <;> rfl

@[simp] theorem State.takeHalt_recount (r : Ref) : (s.recount n).takeHalt r = (s.takeHalt r).recount n := by
  unfold State.takeHalt
  refine State.recount_ite (fun _ => ?_) fun _ => rfl
  simp only [State.recount_ywc, State.haltParticipant_recount, State.clearProposal_recount, State.startHoldoff_recount]
  exact State.recount_ite (fun _ => rfl) fun _ => rfl

@[simp] theorem State.ownHalt_recount (r : Ref) (a : HaltReason) : (s.recount n).ownHalt r a = (s.ownHalt r a).recount n := by
  unfold State.ownHalt
  rw [State.requestYaw_recount, State.takeHalt_recount]

@[simp] theorem State.haltMove_recount (a : HaltReason) : (s.recount n).haltMove a = (s.haltMove a).recount n := by
  unfold State.haltMove
  rw [State.recount_ywc]
  cases s.ywc.moveRef with
  | none => rfl
  | some r => exact s.ownHalt_recount n r a

@[simp] theorem State.haltProposal_recount (a : HaltReason) : (s.recount n).haltProposal a = (s.haltProposal a).recount n := by
  unfold State.haltProposal
  rw [State.recount_ywc]
  cases s.ywc.proposalRef with
  | none => rfl
  | some r => exact s.ownHalt_recount n r a

@[simp] theorem State.ywcLock_recount (on : Bool) : (s.recount n).ywcLock on = (s.ywcLock on).recount n := by
  refine State.recount_ite (fun _ => ?_) fun _ => rfl
  refine State.recount_ite (fun _ => ?_) fun _ => ?_
  · symm
    exact (State.haltProposal_recount _ n _).symm
  · simp only [State.recount_ywc]
    cases s.ywc.participant with
    | releasing | released | driving =>
      symm
      exact (State.haltMove_recount _ n _).symm
    | answered | idle | stopping | braking => rfl

end Sys2Proof.Machine
end

section
/-! SUPPORT. The fault unit and the coolant controller commute with a change of the error count of the line. -/

namespace Sys2Proof.Machine

variable (s : State) (n : Nat)

/-! ### The condition set -/

@[simp] theorem State.indicate_recount : (s.recount n).indicate = s.indicate.recount n := by
  have derate {p : Prop} [Decidable p] {x t : State} (h : x = t.recount n) (e : Nat) :
      (if p then x else x.stcDerate e) = (if p then t else t.stcDerate e).recount n := by
    subst h
    exact State.recount_ite (fun _ => rfl) fun _ => t.stcDerate_recount n e
  have string {p : Prop} [Decidable p] {x t : State} (h : x = t.recount n) (on : Bool) :
      (if p then x else x.stcLatch on) = (if p then t else t.stcLatch on).recount n := by
    subst h
    exact State.recount_ite (fun _ => rfl) fun _ => t.stcLatch_recount n on
  have yaw {p : Prop} [Decidable p] {x t : State} (h : x = t.recount n) (on : Bool) :
      (if p then x else x.ywcLock on) = (if p then t else t.ywcLock on).recount n := by
    subst h
    exact State.recount_ite (fun _ => rfl) fun _ => t.ywcLock_recount n on
  have pump {p : Prop} [Decidable p] {x t : State} (h : x = t.recount n) (on : Bool) :
      (if p then x else x.clcLatch on) = (if p then t else t.clcLatch on).recount n := by
    subst h
    exact State.recount_ite (fun _ => rfl) fun _ => rfl
  symm
  exact (pump (yaw (string (derate rfl _) _) _) _).symm

/-! ### The log -/

@[simp] theorem State.removedIf_recount (e : Option Entry) : (s.recount n).removedIf e = (s.removedIf e).recount n := by
  cases e with
  | none => rfl
  | some e => exact State.recount_ite (fun _ => rfl) fun _ => rfl

@[simp] theorem State.makeEntry_recount (c : Code) (v : Int) : (s.recount n).makeEntry c v = (s.makeEntry c v).recount n := by
  have h (t : State) (d e : Option Entry) : (((t.recount n).removedIf d).removedIf e).testPressure =
      (((t.removedIf d).removedIf e).testPressure).recount n := by
    rw [State.removedIf_recount, State.removedIf_recount, State.testPressure_recount]
  have k {p : Prop} [Decidable p] {u x : State} (hx : x = u.recount n) :
      (if p then x.select else x) = (if p then u.select else u).recount n := by
    subst hx
    exact State.recount_ite (fun _ => u.select_recount n) fun _ => rfl
  unfold State.makeEntry
  symm
  exact (k (h _ _ _)).symm

@[simp] theorem State.logCondition_recount (c : Code) (v : Int) :
    (s.recount n).logCondition c v = (s.logCondition c v).recount n := by
  unfold State.logCondition
  rw [State.recount_flu]
  cases latestOf c s.flu.log with
  | none => exact s.makeEntry_recount n c v
  | some e => exact State.recount_ite (fun _ => (s.setLog _).makeEntry_recount n c v) fun _ => rfl

@[simp] theorem State.logEvent_recount (c : Code) (v : Int) : (s.recount n).logEvent c v = (s.logEvent c v).recount n := by
  unfold State.logEvent
  rw [State.recount_flu]
  cases latestOf c s.flu.log with
  | none => exact s.makeEntry_recount n c v
  | some e => exact State.recount_ite (fun _ => rfl) fun _ => s.makeEntry_recount n c v

/-! ### Requests -/

theorem State.takeRaise_recount (c : Code) (v : Int) (o : Option Origin) :
    (s.recount n).takeRaise c v o = (s.takeRaise c v o).recount n := by
  have indicated {x t : State} (h : x = t.recount n) {p : Prop} [Decidable p] :
      (if p then x.stcTripRequest else x) = (if p then t.stcTripRequest else t).recount n := by
    subst h
    exact State.recount_ite (fun _ => t.stcTripRequest_recount n) fun _ => rfl
  have logged {x t : State} (h : x = t.recount n) (w : Int) :
      (if c.isCondition then x.logCondition c w else x.logEvent c w) =
        (if c.isCondition then t.logCondition c w else t.logEvent c w).recount n := by
    subst h
    exact State.recount_ite (fun _ => t.logCondition_recount n c w) fun _ => t.logEvent_recount n c w
  refine logged (indicated (State.recount_ite (fun _ => ?_) fun _ => rfl)) _
  symm
  exact (State.indicate_recount _ n).symm

theorem State.takeClear_recount (c : Code) : (s.recount n).takeClear c = (s.takeClear c).recount n := by
  refine State.recount_ite (fun _ => rfl) fun _ => ?_
  have h (t : State) : t.indicate.recount n = (t.recount n).indicate := (t.indicate_recount n).symm
  symm
  exact congrArg (fun t : State => t.setLog (t.flu.log.map
    (fun e => if e.code = c ∧ e.active = true then { e with active := false } else e))) (h _)

theorem State.serve_recount (r : Request) : (s.recount n).serve r = (s.serve r).recount n := by
  cases r with
  | raised c v o => exact s.takeRaise_recount n c v o
  | cleared c => exact s.takeClear_recount n c

theorem State.settleWithin_recount (fuel : Nat) : (s.recount n).settleWithin fuel = (s.settleWithin fuel).recount n := by
  induction fuel generalizing s with
  | zero => rfl
  | succ fuel ih =>
    unfold State.settleWithin
    rw [State.recount_flu]
    cases s.flu.inbox with
    | nil => rfl
    | cons r rest =>
      symm
      exact ((congrArg (State.settleWithin fuel) (State.serve_recount _ n r)).trans (ih _)).symm

@[simp] theorem State.settle_recount : (s.recount n).settle = s.settle.recount n := s.settleWithin_recount n 32

/-! ### The pump and the flow -/

@[simp] theorem State.recount_ownPump : (s.recount n).ownPump = s.ownPump := rfl

@[simp] theorem State.requestPump_recount : (s.recount n).requestPump = s.requestPump.recount n := by
  unfold State.requestPump
  rw [State.recount_ownPump]
  cases s.ownPump with
  | none => rfl
  | some p =>
    simp only [State.recount_clc, State.request_recount]
    rfl

@[simp] theorem State.changeOwner_recount (o : PumpOwner) : (s.recount n).changeOwner o = (s.changeOwner o).recount n :=
  (s.setOwner o).requestPump_recount n

@[simp] theorem State.enterRunning_recount : (s.recount n).enterRunning = s.enterRunning.recount n :=
  s.loadDuty.changeOwner_recount n _

@[simp] theorem State.enterStarting_recount : (s.recount n).enterStarting = s.enterStarting.recount n := by
  unfold State.enterStarting
  simp only [State.changeOwner_recount]
  exact State.recount_ite (fun _ => State.enterRunning_recount _ n) fun _ => rfl

@[simp] theorem State.holdStart_recount : (s.recount n).holdStart = s.holdStart.recount n :=
  State.recount_ite (fun _ => State.recount_ite (fun _ => rfl) fun _ => rfl) fun _ => rfl

@[simp] theorem State.startTests_recount : (s.recount n).startTests = s.startTests.recount n := by
  unfold State.startTests
  rw [State.recount_icu]
  cases s.icu.straps.pumpRole with
  | noRole => rfl
  | a => exact State.recount_ite (fun _ => s.enterStarting_recount n) fun _ => rfl
  | b => exact State.recount_ite (fun _ => s.enterStarting_recount n) fun _ => s.holdStart_recount n

@[simp] theorem State.bothRunningTest_recount : (s.recount n).bothRunningTest = s.bothRunningTest.recount n :=
  State.recount_ite (fun _ => s.changeOwner_recount n _) fun _ => rfl

@[simp] theorem State.outgoingTest_recount : (s.recount n).outgoingTest = s.outgoingTest.recount n := by
  unfold State.outgoingTest
  rw [State.recount_ownPump, State.recount_clc]
  split
  · exact State.recount_ite (fun _ => s.changeOwner_recount n _) fun _ =>
      State.recount_ite (fun _ => s.enterRunning_recount n) fun _ => rfl
  · rfl

@[simp] theorem State.setFlow_recount (f : FlowState) : (s.recount n).setFlow f = (s.setFlow f).recount n := by
  symm
  exact (State.stcFlow_recount _ n f).symm

@[simp] theorem State.recount_anyRunning : (s.recount n).anyRunning = s.anyRunning := rfl

@[simp] theorem State.flowTest_recount : (s.recount n).flowTest = s.flowTest.recount n := by
  refine State.recount_ite (fun _ => ?_) fun _ => rfl
  rw [State.recount_clc, State.recount_anyRunning]
  split
  · symm
    exact (State.setFlow_recount _ n _).symm
  · symm
    exact (State.setFlow_recount _ n _).symm
  · rw [State.setFlow_recount]
    exact State.recount_ite (fun _ => rfl) fun _ => rfl
  · rfl

@[simp] theorem State.viewTests_recount (fuel : Nat) : (s.recount n).viewTests fuel = (s.viewTests fuel).recount n := by
  induction fuel generalizing s with
  | zero => rfl
  | succ fuel ih =>
    unfold State.viewTests
    simp only [State.startTests_recount, State.bothRunningTest_recount, State.outgoingTest_recount, State.flowTest_recount, ih]
    exact State.recount_ite (fun _ => rfl) fun _ => State.recount_ite (fun _ => rfl) fun _ =>
      State.recount_ite (fun _ => rfl) fun _ => rfl

/-- A loop view change with the FLU's work on it reads no error count. -/
theorem State.lookAgain_recount : (s.recount n).lookAgain = s.lookAgain.recount n := by
  unfold State.lookAgain State.viewChanged
  rw [State.viewTests_recount, State.settle_recount]

end Sys2Proof.Machine
end

section
/-! SUPPORT. The supervisor flag of the FLU, which the supervisor indication and the resets alone move (11 R183): a loop view change with
the FLU's work on it leaves it as it stands. -/

namespace Sys2Proof.Machine

variable (s : State)

@[simp] theorem State.ite_supervisor (c : Prop) [Decidable c] (s t : State) :
    (if c then s else t).flu.supervisor = if c then s.flu.supervisor else t.flu.supervisor :=
  apply_ite (fun x : State => x.flu.supervisor) c s t

/-! ### The queue and the announcement -/

@[simp] theorem State.enqueue_supervisor (k : Kind) (p : List Byte) : (s.enqueue k p).flu.supervisor = s.flu.supervisor := rfl

@[simp] theorem State.request_supervisor (k : Kind) (p : List Byte) : (s.request k p).1.flu.supervisor = s.flu.supervisor := by
  unfold State.request
  split <;> rfl

@[simp] theorem State.noteHolders_supervisor : s.noteHolders.flu.supervisor = s.flu.supervisor := rfl

@[simp] theorem State.requestNotice_supervisor (e : Entry) : (s.requestNotice e).flu.supervisor = s.flu.supervisor := by
  simp [State.requestNotice]

@[simp] theorem State.select_supervisor : s.select.flu.supervisor = s.flu.supervisor := by
  unfold State.select
  split
  · split
    · exact State.requestNotice_supervisor _ _
    · rfl
  · rfl

@[simp] theorem State.discardNotice_supervisor (f : QueuedFrame) : (s.discardNotice f).flu.supervisor = s.flu.supervisor := by
  unfold State.discardNotice State.noticeDiscarded
  split
  · split
    · exact State.select_supervisor _
    · rfl
  · rfl

@[simp] theorem State.offerTrip_supervisor : s.offerTrip.flu.supervisor = s.flu.supervisor := by
  unfold State.offerTrip
  split
  · simp
  · rfl

@[simp] theorem State.offerPump_supervisor : s.offerPump.flu.supervisor = s.flu.supervisor := by
  unfold State.offerPump
  split
  · simp
  · rfl

@[simp] theorem State.offerStatus_supervisor : s.offerStatus.flu.supervisor = s.flu.supervisor := by
  unfold State.offerStatus
  split
  · simp
  · rfl

@[simp] theorem State.offerYaw_supervisor (k : Kind) (l : List HeldYaw) : (s.offerYaw k l).flu.supervisor = s.flu.supervisor := by
  induction l generalizing s with
  | nil => rfl
  | cons h rest ih =>
    unfold State.offerYaw
    simp [ih]

@[simp] theorem State.offerNotices_supervisor (l : List HeldNotice) :
    (s.offerNotices l).flu.supervisor = s.flu.supervisor := by
  induction l generalizing s with
  | nil => rfl
  | cons h rest ih =>
    unfold State.offerNotices
    split
    · simp [ih]
    · exact ih s

@[simp] theorem State.placeFree_supervisor : s.placeFree.flu.supervisor = s.flu.supervisor := by
  simp only [State.placeFree, State.noteHolders_supervisor, State.offerNotices_supervisor, State.offerStatus_supervisor,
    State.offerPump_supervisor, State.offerYaw_supervisor, State.offerTrip_supervisor]
  rfl

@[simp] theorem State.requestUrgent_supervisor (k : Kind) (p : List Byte) :
    (s.requestUrgent k p).1.flu.supervisor = s.flu.supervisor := by
  unfold State.requestUrgent
  split
  · rfl
  · split
    · exact (State.placeFree_supervisor _).trans (State.discardNotice_supervisor _ _)
    · rfl

/-! ### The string -/

@[simp] theorem State.drive_supervisor (st : StringState) (v : Nat) : (s.drive st v).flu.supervisor = s.flu.supervisor :=
  (State.ite_supervisor _ _ _).trans (ite_self _)

@[simp] theorem State.requestTrip_supervisor (c : TripCause) : (s.requestTrip c).flu.supervisor = s.flu.supervisor := by
  simp [State.requestTrip]

@[simp] theorem State.raiseCause_supervisor (r : Option (Code × Int)) : (s.raiseCause r).flu.supervisor = s.flu.supervisor := by
  cases r <;> rfl

@[simp] theorem State.raise_supervisor (c : Code) (v : Int) (o : Option Origin) :
    (s.raise c v o).flu.supervisor = s.flu.supervisor := rfl

@[simp] theorem State.trip_supervisor (c : TripCause) (r : Option (Code × Int)) :
    (s.trip c r).flu.supervisor = s.flu.supervisor := by
  simp [State.trip, State.setString, State.setSetpoint, State.sendLink]

@[simp] theorem State.startTest_supervisor : s.startTest.flu.supervisor = s.flu.supervisor := by
  simp [State.startTest, State.enterPrecharge, State.modulatorTrip, State.enterSync, State.enterRun, State.setString]

@[simp] theorem State.formLimit_supervisor : s.formLimit.flu.supervisor = s.flu.supervisor := by
  have h (t : State) : t.respondToLimit.flu.supervisor = t.flu.supervisor := by
    unfold State.respondToLimit
    split
    · exact t.startTest_supervisor
    all_goals rfl
  simp [State.formLimit, h, State.cutSetpoint, State.setSetpoint, State.sendLink]

@[simp] theorem State.stcLatch_supervisor (on : Bool) : (s.stcLatch on).flu.supervisor = s.flu.supervisor := by
  simp [State.stcLatch, State.stcLatchOn]

/-! ### The yaw -/

@[simp] theorem State.requestYaw_supervisor (k : Kind) (r : Ref) (p : List Byte) :
    (s.requestYaw k r p).flu.supervisor = s.flu.supervisor := by
  have h : (if k = .yawHalt then s.requestUrgent k p else s.request k p).1.flu.supervisor = s.flu.supervisor := by
    split <;> simp
  simp [State.requestYaw, h]

@[simp] theorem State.ownHalt_supervisor (r : Ref) (a : HaltReason) : (s.ownHalt r a).flu.supervisor = s.flu.supervisor := by
  have h (t : State) : t.haltParticipant.flu.supervisor = t.flu.supervisor := by
    unfold State.haltParticipant
    split <;> rfl
  simp [State.ownHalt, State.takeHalt, h, State.clearProposal, State.startHoldoff]

@[simp] theorem State.haltMove_supervisor (a : HaltReason) : (s.haltMove a).flu.supervisor = s.flu.supervisor := by
  unfold State.haltMove
  split
  · exact s.ownHalt_supervisor _ a
  · rfl

@[simp] theorem State.haltProposal_supervisor (a : HaltReason) : (s.haltProposal a).flu.supervisor = s.flu.supervisor := by
  unfold State.haltProposal
  split
  · exact s.ownHalt_supervisor _ a
  · rfl

@[simp] theorem State.ywcLock_supervisor (on : Bool) : (s.ywcLock on).flu.supervisor = s.flu.supervisor := by
  unfold State.ywcLock
  dsimp only
  split
  · split
    · exact State.haltProposal_supervisor _ _
    · split
      · exact State.haltMove_supervisor _ _
      · exact State.haltMove_supervisor _ _
      · exact State.haltMove_supervisor _ _
      all_goals rfl
  · rfl

/-! ### The fault unit -/

@[simp] theorem State.indicate_supervisor : s.indicate.flu.supervisor = s.flu.supervisor := by
  simp [State.indicate, State.stcDerate, State.clcLatch]

@[simp] theorem State.removedIf_supervisor (e : Option Entry) : (s.removedIf e).flu.supervisor = s.flu.supervisor := by
  cases e with
  | none => rfl
  | some e => simp [State.removedIf, State.removed, State.dropHeldNotice, State.stopRepeat]

@[simp] theorem State.makeEntry_supervisor (c : Code) (v : Int) : (s.makeEntry c v).flu.supervisor = s.flu.supervisor := by
  simp [State.makeEntry, State.testPressure]

@[simp] theorem State.logCondition_supervisor (c : Code) (v : Int) : (s.logCondition c v).flu.supervisor = s.flu.supervisor := by
  unfold State.logCondition
  split
  · simp [State.setLog]
  · simp

@[simp] theorem State.logEvent_supervisor (c : Code) (v : Int) : (s.logEvent c v).flu.supervisor = s.flu.supervisor := by
  unfold State.logEvent
  split
  · simp [State.setLog]
  · simp

theorem State.serve_supervisor (r : Request) : (s.serve r).flu.supervisor = s.flu.supervisor := by
  cases r with
  | raised c v o => simp [State.serve, State.takeRaise, State.stcTripRequest]
  | cleared c => simp [State.serve, State.takeClear, State.setLog]

theorem State.settleWithin_supervisor (n : Nat) : (s.settleWithin n).flu.supervisor = s.flu.supervisor := by
  induction n generalizing s with
  | zero => rfl
  | succ n ih =>
    unfold State.settleWithin
    split
    · rfl
    · exact (ih _).trans (State.serve_supervisor _ _)

theorem State.settle_supervisor : s.settle.flu.supervisor = s.flu.supervisor := s.settleWithin_supervisor 32

/-! ### The loop view -/

@[simp] theorem State.changeOwner_supervisor (o : PumpOwner) : (s.changeOwner o).flu.supervisor = s.flu.supervisor := by
  unfold State.changeOwner State.requestPump
  split
  · simp [State.setOwner]
  · rfl

@[simp] theorem State.enterRunning_supervisor : s.enterRunning.flu.supervisor = s.flu.supervisor :=
  s.loadDuty.changeOwner_supervisor _

theorem State.startTests_supervisor : s.startTests.flu.supervisor = s.flu.supervisor := by
  unfold State.startTests
  split <;> simp [State.enterStarting, State.holdStart]

theorem State.bothRunningTest_supervisor : s.bothRunningTest.flu.supervisor = s.flu.supervisor := by
  simp [State.bothRunningTest]

theorem State.outgoingTest_supervisor : s.outgoingTest.flu.supervisor = s.flu.supervisor := by
  unfold State.outgoingTest
  split <;> simp

theorem State.flowTest_supervisor : s.flowTest.flu.supervisor = s.flu.supervisor := by
  unfold State.flowTest
  split
  · split <;> simp [State.setFlow, State.stcFlow, State.clear]
  · rfl

theorem State.lookAgain_supervisor : s.lookAgain.flu.supervisor = s.flu.supervisor :=
  (State.settle_supervisor _).trans (State.viewTests_keep (P := fun x => x.flu.supervisor = s.flu.supervisor)
    (fun x h => x.startTests_supervisor.trans h) (fun x h => x.bothRunningTest_supervisor.trans h)
    (fun x h => x.outgoingTest_supervisor.trans h) (fun x h => x.flowTest_supervisor.trans h) 8 s rfl)

end Sys2Proof.Machine
end

section
/-! PROOFS. A frame from a NEVER_HEARD or ABSENT station makes it PRESENT, with its indications (03 R39, R40, R42, R46; 08 R136). -/

namespace Sys2Proof.Machine

/-! ### The indications of a presence change -/

/-- The supervisor indication of a PRESENT supervisor sets the flag; the rest is work on the log and the announcement. -/
theorem State.supervisorIndication_work (s : State) :
    State.LogWork { s with flu := { s.flu with supervisor := true } } (s.supervisorIndication true) := by
  cases h : s.flu.supervisor with
  | true =>
    have hs : s.supervisorIndication true = s := if_pos h.symm
    have he : ({ s with flu := { s.flu with supervisor := true } } : State) = s := by rw [← h]
    rw [hs, he]
    exact .of_eq rfl
  | false =>
    rw [s.supervisorIndication_present h]
    exact .of_eq (State.select_besidesLog _)

theorem State.mismatchTest_supervisor (s : State) : s.mismatchTest.flu.supervisor = s.flu.supervisor := by
  unfold State.mismatchTest
  split
  · split
    · rfl
    · exact State.settle_supervisor _
  · split
    · exact State.settle_supervisor _
    · rfl

/-- The mismatch flag, the LIF and the FLU are all that the mismatch test moves. -/
theorem State.mismatchTest_rest (s : State) (hc : s.Calm) (ht : s.Tabled) : s.mismatchTest =
    { s with ptb := { s.ptb with mismatch := s.mismatchTest.ptb.mismatch }, lif := s.mismatchTest.lif, flu := s.mismatchTest.flu } := by
  obtain ⟨_, hstc, hywc, hclc, hdiff, hdraws, hpend⟩ := s.mismatchTest_tested hc ht
  have hw := s.mismatchTest_work
  have hp := hw.ptb
  have hi := hw.icu
  have hl := hw.levels
  generalize s.mismatchTest = t at *
  rw [← hp, ← hi, ← hl, ← hstc, ← hywc, ← hclc, ← hdiff, ← hdraws, ← hpend]

/-- The state right after a presence entry begins, before its indications. -/
def State.entered (s : State) (source : Station) (kind : Option Kind) : State :=
  { s.setPeer source { s.peer source with
      silence := 0, presence := .present, seen := kindSeenAfter (s.peer source).seen kind } with
    lif := { s.lif with lineIdle := false } }

/-- The state after the loop view change that a presence change brings, where it brings one (08 R136). -/
def State.looked (s : State) (source : Station) : State := if s.ownsViewedPump source then s.lookAgain else s

theorem State.looked_keeps (s : State) (source : Station) : s.Keeps (s.looked source) :=
  .ite _ (fun _ => s.lookAgain_keeps) fun _ => .refl s

theorem State.looked_outer (s : State) (source : Station) : (s.looked source).outer = s.outer := by
  unfold State.looked
  rw [State.outer_ite, State.lookAgain_outer, ite_self]

theorem State.looked_supervisor (s : State) (source : Station) : (s.looked source).flu.supervisor = s.flu.supervisor := by
  unfold State.looked
  rw [State.ite_supervisor, State.lookAgain_supervisor, ite_self]

theorem State.looked_recount (s : State) (source : Station) (n : Nat) :
    (s.recount n).looked source = (s.looked source).recount n :=
  State.recount_ite (fun _ => s.lookAgain_recount n) fun _ => rfl

/-- What the supervisor indication of a presence change leaves, where the change is of the supervisor station (03 R42). -/
def State.attended (s : State) (source : Station) : State :=
  if s.supervisor = some source then s.supervisorIndication true else s

theorem State.attended_work (s : State) (source : Station) : ∃ b : Bool,
    (b = true ↔ s.supervisor = some source ∨ s.flu.supervisor = true) ∧
    State.LogWork { s with flu := { s.flu with supervisor := b } } (s.attended source) := by
  unfold State.attended
  by_cases h : s.supervisor = some source
  · rw [if_pos h]
    exact ⟨true, iff_of_true rfl (.inl h), s.supervisorIndication_work⟩
  · rw [if_neg h]
    exact ⟨s.flu.supervisor, ⟨.inr, fun k => k.resolve_left h⟩, .of_eq rfl⟩

theorem State.attended_keeps (s : State) (source : Station) : s.Keeps (s.attended source) :=
  .ite _ (fun _ => s.supervisorIndication_keeps true) fun _ => .refl s

/-- The refresh of an entry that is not PRESENT, after the count of its frame. -/
theorem State.countGood_enters (s : State) (source : Station) (kind : Option Kind)
    (hp : (s.peer source).presence ≠ .present) (hd : s.lif.degraded = true → 64 < s.lif.errors) :
    s.countGood.refresh source kind =
      ((((s.entered source kind).looked source).recount (s.lif.errors - 1)).attended source).mismatchAfter source := by
  have hx : s.countGood.refresh source kind =
      (((s.entered source kind).recount (s.lif.errors - 1)).indicatePresence source).mismatchAfter source := by
    rw [s.countGood_quiet hd]
    exact if_neg hp
  rw [hx, ← State.looked_recount]
  generalize hy : (s.entered source kind).recount (s.lif.errors - 1) = y
  have hpres : (y.looked source).isPresent source = true := by
    rw [State.isPresent_eq (State.outer_ptb (y.looked_outer source)), State.isPresent_iff, ← hy]
    exact congrArg PeerEntry.presence ((s.setPeer_peer source _ source).trans (if_pos rfl))
  have he : y.indicatePresence source = if (y.looked source).supervisor = some source then
      (y.looked source).supervisorIndication ((y.looked source).isPresent source) else y.looked source := rfl
  rw [he, hpres]
  rfl

/-- What the indications of a begun presence leave: of the rest, the LIF, the FLU and the mismatch flag alone move. -/
structure State.Indicates (s : State) (source : Station) (t : State) : Prop where
  entries : t.ptb.entries = s.ptb.entries
  rest : t = { s with ptb := { s.ptb with mismatch := t.ptb.mismatch }, lif := t.lif, flu := t.flu }
  supervisor : t.flu.supervisor = true ↔ s.supervisor = some source ∨ s.flu.supervisor = true
  nt44 : (s.peer source).seen = .nt44 → s.MismatchTested t
  other : (s.peer source).seen ≠ .nt44 → t.ptb.mismatch = s.ptb.mismatch ∧ t.flu.members = s.flu.members

theorem State.attended_indicates (s : State) (source : Station) (hc : s.Calm) (ht : s.Tabled) :
    s.Indicates source ((s.attended source).mismatchAfter source) := by
  obtain ⟨b, hb, hw⟩ := s.attended_work source
  have hk := s.attended_keeps source
  have hcalm := hk.calm hc
  have htabled := hk.tabled ht
  generalize s.attended source = z at *
  have hrest : z = { s with lif := z.lif, flu := z.flu } := hw.rest
  have hptb : z.ptb = s.ptb := hw.ptb
  have hmem : z.flu.members = s.flu.members := hw.members
  have hsup : z.flu.supervisor = b := hw.supervisor
  have hseen : (z.peer source).seen = (s.peer source).seen := by
    unfold State.peer
    rw [hptb]
  unfold State.mismatchAfter
  rw [hseen]
  by_cases hn : (s.peer source).seen = .nt44
  · rw [if_pos hn]
    have hm := (z.mismatchTest_tested hcalm htabled).1
    unfold State.MismatchTested at hm
    rw [hptb, hmem] at hm
    refine ⟨z.mismatchTest_work.entries.trans (by rw [hptb]), (z.mismatchTest_rest hcalm htabled).trans ?_,
      by rw [z.mismatchTest_supervisor, hsup, hb], fun _ => hm, fun k => absurd hn k⟩
    generalize z.mismatchTest = t
    rw [hrest]
  · rw [if_neg hn]
    exact ⟨by rw [hptb], hrest.trans (by rw [hptb]), by rw [hsup, hb], fun k => absurd k hn, fun _ => ⟨by rw [hptb], hmem⟩⟩

theorem State.mismatchAfter_lined (s : State) (source : Station) : s.Lined (s.mismatchAfter source) :=
  .ite _ s.mismatchTest_lined (.refl s)

theorem State.attended_lined (s : State) (source : Station) : s.Lined (s.attended source) :=
  .ite _ (s.supervisorIndication_lined true) (.refl s)

theorem State.looked_lined (s : State) (source : Station) : s.Lined (s.looked source) :=
  .ite _ ((State.viewTests_lined 8 s).trans (State.settle_lined _)) (.refl s)

theorem State.supervisor_iff (s : State) (source : Station) :
    s.supervisor = some source ↔ s.configured = true ∧ source = s.prm.supervisor := by
  unfold State.supervisor
  by_cases h : s.configured = true
  · rw [if_pos h, Option.some_inj]
    exact ⟨fun k => ⟨h, k.symm⟩, fun k => k.2.symm⟩
  · rw [if_neg h]
    exact ⟨fun k => (by cases k), fun k => absurd k.1 h⟩

theorem kindSeenAfter_again (seen : KindSeen) (kind : Option Kind) :
    kindSeenAfter (kindSeenAfter seen kind) kind = kindSeenAfter seen kind := by
  cases kind with
  | none => cases seen <;> rfl
  | some k => cases k <;> cases seen <;> rfl

/-- A state that a count and a refresh have reached is what they make of it with the count taken back. -/
theorem State.countGood_again (r : State) (source : Station) (kind : Option Kind) {n : Nat} {e : PeerEntry}
    (hn : r.lif.errors = n - 1) (hi : r.lif.lineIdle = false) (hd : r.lif.degraded = true → 64 < n)
    (he : r.peer source = { e with silence := 0, presence := .present, seen := kindSeenAfter e.seen kind }) :
    (r.recount n).countGood.refresh source kind = r := by
  have hcount : (r.recount n).countGood = r := by
    rw [State.countGood_quiet _ hd]
    show ({ r with lif := { r.lif with errors := n - 1, lineIdle := false } } : State) = r
    rw [← hn, ← hi]
  rw [hcount, r.refresh_present source kind (by rw [he]), he]
  dsimp only
  rw [kindSeenAfter_again, ← he]
  show ({ r with ptb := { r.ptb with entries := r.ptb.entries.set source r.ptb.entries[source] } } : State) = r
  have hs : r.ptb.entries.set source r.ptb.entries[source] = r.ptb.entries := Vector.set_getElem_self _
  rw [hs]

/-- Settles O19: the state after the indications, its error count taken back, hears the frame as that of a PRESENT station. -/
theorem presenceBegins : Obligations.PresenceBegins := by
  intro c kind source s hf ho hp hd hc ht seen entered viewed
  have hview : viewed = (s.entered source kind).looked source := rfl
  have hent : entered = s.entered source kind := rfl
  have hpeer : entered.peer source = { s.peer source with
      silence := 0, presence := .present, seen := kindSeenAfter (s.peer source).seen kind } :=
    (s.setPeer_peer source _ source).trans (if_pos rfl)
  have hout : viewed.outer = entered.outer := (s.entered source kind).looked_outer source
  have hkeeps : entered.Keeps viewed := State.looked_keeps _ _
  have hcalm : viewed.Calm := hkeeps.calm hc
  have htabled : viewed.Tabled := hkeeps.tabled ht
  have hsup : viewed.flu.supervisor = s.flu.supervisor := (s.entered source kind).looked_supervisor source
  have hlined : entered.Lined viewed := State.looked_lined _ _
  have hr := s.countGood_enters source kind hp hd
  rw [← hview] at hr
  have hviewed : viewed.peer source = entered.peer source := congrArg (fun p : Ptb => p.entries[source]) (State.outer_ptb hout)
  have hicu : viewed.icu = s.icu := (State.outer_icu hout :)
  have hentries : viewed.ptb.entries = entered.ptb.entries := congrArg Ptb.entries (State.outer_ptb hout)
  have hmismatch : viewed.ptb.mismatch = s.ptb.mismatch := (congrArg Ptb.mismatch (State.outer_ptb hout) :)
  have hwork := (viewed.recount (s.lif.errors - 1)).attended_indicates source hcalm htabled
  have hrl := ((viewed.recount (s.lif.errors - 1)).attended_lined source).trans (State.mismatchAfter_lined _ source)
  have hrc := ((viewed.recount (s.lif.errors - 1)).attended_keeps source).trans (State.mismatchAfter_keeps _ source)
  rw [← hr] at hwork hrl hrc
  have hrcalm : (s.countGood.refresh source kind).Calm := hrc.calm hcalm
  have hagain : ((s.countGood.refresh source kind).recount s.lif.errors).countGood.refresh source kind =
      s.countGood.refresh source kind := by
    refine State.countGood_again _ source kind hrl.errors (hrl.idle (hlined.idle rfl)) (fun k => hd ?_) ?_ (e := s.peer source)
    · rw [← k, hrl.degraded]
      exact hlined.degraded.symm
    · rw [← hpeer, ← hviewed]
      exact congrArg (fun v : Vector PeerEntry 8 => v[source]) hwork.entries
  obtain ⟨t, hs, _⟩ := commandsComplete c s
  generalize hR : s.countGood.refresh source kind = r at *
  have hown : (r.recount s.lif.errors).own = s.own := by
    show r.icu.straps.station = s.icu.straps.station
    rw [hrc.straps]
    exact congrArg (fun i : Icu => i.straps.station) hicu
  have hx : exec c (r.recount s.lif.errors) = exec c s := exec_frame_congr hf ho hown (hagain.trans hR.symm)
  have hseen : ((viewed.recount (s.lif.errors - 1)).peer source).seen = seen := congrArg PeerEntry.seen (hviewed.trans hpeer)
  have hstation : (viewed.recount (s.lif.errors - 1)).supervisor = s.supervisor := by
    unfold State.supervisor State.configured State.prm
    rw [State.recount_icu, hicu]
  refine ⟨r.recount s.lif.errors, t, hx.trans hs, hs, hwork.entries.trans hentries, rfl, hrcalm, ?_,
    fun h => hwork.nt44 (hseen.trans h), fun h => ?_, ?_⟩
  · exact hwork.supervisor.trans (or_congr (hstation ▸ s.supervisor_iff source) (iff_of_eq (congrArg (· = true) hsup)))
  · obtain ⟨hflag, hmembers⟩ := hwork.other fun k => h (hseen.symm.trans k)
    exact ⟨hflag.trans hmismatch, hmembers⟩
  · exact congrArg (fun x : State => x.recount s.lif.errors) hwork.rest

end Sys2Proof.Machine
end
